-- ==== Sys2Proof/Word.lean ====
section
/-! DEFINITION. The plain types every other file is written in: bytes, part times and the part's own numberings. -/

namespace Sys2Proof

/-- A byte of the serial link or of the PCM highway (R166, R68). -/
abbrev Byte := BitVec 8

/-- A part time: milliseconds since the last reset, held in 32 bits (R1). -/
abbrev Time := BitVec 32

/-- A line number, 0 to 31 (00_scope.md, Conventions). -/
abbrev Line := Fin 32

/-- A tone receiver number, 0 to 7. -/
abbrev Rx := Fin 8

/-- A profile number, 0 to 7. -/
abbrev ProfNo := Fin 8

/-- A highway timeslot, 0 to 63. -/
abbrev Timeslot := Fin 64

/-- The 512 bits of one highway frame in the order they are sent, the first as the most significant bit (R68). -/
abbrev HighwayFrame := BitVec 512

/-- A block boundary of the tap: the number of the frame that begins there, counted from 0 at the first frame-sync pulse after the
reset, and its part time (R68). -/
structure Boundary where
  frame : Nat
  time : Time
  deriving DecidableEq, Repr

/-- Every line number in ascending order. -/
def allLines : List Line := List.finRange 32

/-- Every receiver number in ascending order. -/
def allRx : List Rx := List.finRange 8

/-- An elapsed time: the difference of two part times modulo 2^32 (R1). -/
def elapsed (now start : Time) : Nat := (now - start).toNat

/-- The part time `ms` milliseconds after `now`. -/
def laterBy (now : Time) (ms : Nat) : Time := now + BitVec.ofNat 32 ms

end Sys2Proof
end

