-- ==== Sys2Proof/Syntax.lean ====
section
/-! DEFINITION. The commands: one constructor for each row of spec/opcode_table.json.

Each arrival other than a reset carries `now`, the part time at which it arrives (DESIGN CHOICE, log entry 1: the table
gives the rows no operands, and every rule of the spec states an arrival with its part time).
A command frame's constructor stands for the arrival of the last check byte of a good frame of that kind whose body has the
catalogue's length (R167, R172); its operands are the fields of the body as they stand in the frame, so a value outside its
range or set can be written and is judged by the command's rule.  Frames of any other length arrive byte by byte through
`frameByteArrival`. -/

namespace Sys2Proof

/-- One row of the table of operations and events each. -/
inductive Instr where
  /-- POWER_UP_RESET: the supply comes up (R174). -/
  | powerUpReset
  /-- RESETN_LOW: RESETN is driven low (R174). -/
  | resetnLow
  /-- PIN_RESET: RESETN returns high after at least 10 µs low (R174). -/
  | pinReset
  /-- COMMAND_RESET_EFFECT: the last byte of the RESET reply has been sent (R174). -/
  | commandResetEffect
  /-- IDENTIFY, kind 0x01 (R173). -/
  | identify (now : Time)
  /-- DEVICE_STATUS, kind 0x02 (R173). -/
  | deviceStatus (now : Time)
  /-- LINE_STATUS, kind 0x03 (R173). -/
  | lineStatus (now : Time) (line : Byte)
  /-- SET_PROFILE, kind 0x04: a profile number and 23 two-byte fields in the order of R140 (R142). -/
  | setProfile (now : Time) (profile : Byte) (fields : List (BitVec 16))
  /-- GET_PROFILE, kind 0x05 (R144). -/
  | getProfile (now : Time) (profile : Byte)
  /-- SET_LINE_PROFILE, kind 0x06 (R145). -/
  | setLineProfile (now : Time) (line profile : Byte)
  /-- SET_SERVICE with state 0 OUT, kind 0x07 (R46). -/
  | setServiceOut (now : Time) (line : Byte)
  /-- SET_SERVICE with state 1 IN, kind 0x07 (R47). -/
  | setServiceIn (now : Time) (line : Byte)
  /-- SET_TIMESLOT, kind 0x08 (R71). -/
  | setTimeslot (now : Time) (line slot : Byte)
  /-- SET_MASK, kind 0x09: a line and a line-kind set (R161). -/
  | setMask (now : Time) (line : Byte) (kinds : BitVec 16)
  /-- SET_CLASS_MAP, kind 0x0A: 19 classes (R162). -/
  | setClassMap (now : Time) (classes : List Byte)
  /-- SET_TONE_PARAMS, kind 0x0B: seven values in the order of R95. -/
  | setToneParams (now : Time) (values : List Byte)
  /-- SET_SCAN, kind 0x0C: a scan setting and a threshold index (R155). -/
  | setScan (now : Time) (setting index : Byte)
  /-- SET_SWEEP, kind 0x0D: enabled, interval in s, step set (R115). -/
  | setSweep (now : Time) (enabled interval steps : Byte)
  /-- COLLECT with 1 on, kind 0x0E (R52). -/
  | collectOn (now : Time) (line : Byte)
  /-- COLLECT with 0 off, kind 0x0E (R64). -/
  | collectOff (now : Time) (line : Byte)
  /-- READ_DIGITS, kind 0x0F: a line and a clear choice (R66). -/
  | readDigits (now : Time) (line clear : Byte)
  /-- TEST_LINE, kind 0x10: a line, a step set and a force choice (R102). -/
  | testLine (now : Time) (line steps force : Byte)
  /-- ABORT_TEST, kind 0x11 (R117). -/
  | abortTest (now : Time) (line : Byte)
  /-- RESUME_TESTS, kind 0x12 (R120). -/
  | resumeTests (now : Time)
  /-- GET_RESULT, kind 0x13 (R110). -/
  | getResult (now : Time) (line : Byte)
  /-- ACK_FAULTS, kind 0x14: a line and a fault set (R134). -/
  | ackFaults (now : Time) (line faults : Byte)
  /-- RELEASE_QUARANTINE, kind 0x15 (R135). -/
  | releaseQuarantine (now : Time) (line : Byte)
  /-- RESET, kind 0x16 (R174). -/
  | reset (now : Time)
  /-- UNKNOWN_KIND_FRAME: a good frame whose kind is not a command kind (R171). -/
  | unknownKindFrame (now : Time) (kind : Byte)
  /-- FRAME_ERROR: a frame with a bad length byte or a bad check (R167). -/
  | frameError (now : Time)
  /-- INTERBYTE_GAP_TIMEOUT: more than 4 ms since the last byte of a frame (R167). -/
  | interbyteGapTimeout (now : Time)
  /-- FRAME_DISCARDED_BUSY: a good frame or a frame error meets an occupied reply slot (R169). -/
  | frameDiscardedBusy (now : Time)
  /-- TRANSMIT_FRAME_END: the transmitter finishes its frame (R170). -/
  | transmitFrameEnd (now : Time)
  /-- SAMPLE_RECORD: the sample record of a line, current in cu and OV (R1, R4). -/
  | sampleRecord (now : Time) (line : Line) (current : Nat) (ov : Bool)
  /-- RECEIVER_START: the first block boundary after assignment or resumption (R68, R74, R80). -/
  | receiverStart (boundary : Boundary) (rx : Rx)
  /-- BLOCK_COMPLETION: a receiver's block completes; `frames` are the 100 highway frames of the block (R68, R84). -/
  | blockCompletion (now : Time) (rx : Rx) (frames : List HighwayFrame)
  /-- FIRST_DIGIT_TIMEOUT: the first-digit deadline is reached (R61). -/
  | firstDigitTimeout (now : Time) (line : Line)
  /-- END_DIALLING_TIMER_EXPIRY: the end deadline is reached (R62). -/
  | endDiallingTimerExpiry (now : Time) (line : Line)
  /-- RETEST_TIMER_EXPIRY: the retest due of a quarantined line is reached (R130). -/
  | retestTimerExpiry (now : Time) (line : Line)
  /-- SWEEP_TIMER_EXPIRY: the sweep timer reaches its deadline (R111). -/
  | sweepTimerExpiry (now : Time)
  /-- BATTERY_READING: the reading presented on VBS (R152). -/
  | batteryReading (now : Time) (volts : Nat)
  /-- SETTLE_PERIOD_COMPLETION: the 20 ms settle period of a connection completes (R100). -/
  | settlePeriodCompletion (now : Time)
  /-- STEP_COMPLETION: the step in flight completes with the measurement presented by the line interface circuit: the
  tip and ring values of DCV, or the one value of another step in `first` (R98, R108). -/
  | stepCompletion (now : Time) (first second : Int)
  /-- FRAME_BYTE_ARRIVAL: a byte arrives on LRX (R167). -/
  | frameByteArrival (now : Time) (byte : Byte)
  /-- FIRST_FRAME_SYNC_PULSE: the first pulse on HFS after a reset (R68). -/
  | firstFrameSyncPulse (now : Time)
  deriving DecidableEq, Repr

end Sys2Proof
end

