-- ==== Sys2Proof/WellFormed.lean ====
section
/-! DEFINITION. Which commands can arrive: the ranges and lengths that the outside world keeps to.
Every command has its meaning whether or not it is well formed; a value the part itself judges (a line number outside
0 to 31 in a frame) is well formed here, since the part answers it. -/

namespace Sys2Proof

/-- The command kinds of the catalogue, 0x01 to 0x16 (R172, R175). -/
def isCommandKind (k : Byte) : Bool := 1 ≤ k.toNat && k.toNat ≤ 0x16

/-- The checks on a command's operands: a sample boundary is a multiple of 2 ms and a current is 0 to 1200 (R1), a block boundary falls
at a hundredth frame and a block holds 100 frames (R68), a reading falls on a positive multiple of 1000 ms and is 0 to 80 V (R152), the
list operands have the catalogue's lengths (R172), and an unknown kind is no command kind (R171). -/
def Instr.wf : Instr → Bool
  | .sampleRecord now _ current _ => now.toNat % 2 == 0 && current ≤ 1200
  | .receiverStart boundary _ => boundary.frame % 100 == 0
  | .blockCompletion _ _ frames => frames.length == 100
  | .batteryReading now volts => now.toNat % 1000 == 0 && now != 0 && volts ≤ 80
  | .setProfile _ _ fields => fields.length == 23
  | .setClassMap _ classes => classes.length == 19
  | .setToneParams _ values => values.length == 7
  | .unknownKindFrame _ kind => !isCommandKind kind
  | .powerUpReset | .resetnLow | .pinReset | .commandResetEffect => true
  | .identify _ | .deviceStatus _ | .lineStatus _ _ | .getProfile _ _ | .setLineProfile _ _ _ => true
  | .setServiceOut _ _ | .setServiceIn _ _ | .setTimeslot _ _ _ | .setMask _ _ _ | .setScan _ _ _ => true
  | .setSweep _ _ _ _ | .collectOn _ _ | .collectOff _ _ | .readDigits _ _ _ | .testLine _ _ _ _ => true
  | .abortTest _ _ | .resumeTests _ | .getResult _ _ | .ackFaults _ _ _ | .releaseQuarantine _ _ => true
  | .reset _ | .frameError _ | .interbyteGapTimeout _ | .frameDiscardedBusy _ | .transmitFrameEnd _ => true
  | .firstDigitTimeout _ _ | .endDiallingTimerExpiry _ _ | .retestTimerExpiry _ _ => true
  | .sweepTimerExpiry _ | .settlePeriodCompletion _ | .stepCompletion _ _ _ | .frameByteArrival _ _ => true
  | .firstFrameSyncPulse _ => true

end Sys2Proof
end

