-- ==== Sys2Proof/Decode.lean ====
section
/-! DEFINITION. The table's words. spec/opcode_table.json gives no row any bits ("fields": [] throughout, no "fixed"), so no
word spells a command.  The bytes of command frames are read by `Machine/Receiver.lean`, from the layouts of R167 to R178. -/

namespace Sys2Proof

/-- The command that a word spells by the table's bits: none, since the table gives no row bits. -/
def decodeTableWord (_nbits _w : Nat) : Option Instr := none

end Sys2Proof
end

