-- ==== Sys2Proof/Config.lean ====
section
/-! DEFINITION. What the part fixes once for all, and the two values the spec leaves free. -/

namespace Sys2Proof.Config

/-- The part code that IDENTIFY gives (R173). -/
def partCode : BitVec 16 := 0x0E20#16

/-- The part revision (R173, R174). -/
def revision : Byte := 1#8

/-- The start byte of every frame (R175). -/
def startByte : Byte := 0xC3#8

/-- The capacity of a digit buffer (R50, R60). -/
def bufferCap : Nat := 24

/-- The capacity of the test request queue (R101). -/
def testQueueCap : Nat := 8

/-- The capacity of the PRIORITY event queue (R163). -/
def prioCap : Nat := 16

/-- The capacity of the NORMAL event queue (R163). -/
def normCap : Nat := 48

/-- The length of a learning period in ms (R11). -/
def learningMs : Nat := 512

/-- The settle window after a disconnection, in ms (R19). -/
def settleWindowMs : Nat := 20

/-- The settle period after a connection, in ms (R100). -/
def settlePeriodMs : Nat := 20

/-- FREE VALUE (log entry 3). R170: a reply placed in the slot and an event raised at the same instant, with the
transmitter free, "give either order". The `k`-th such meeting inside one command takes the reply first exactly when
this constant says so; it has no body, so nothing can be proved of its value. -/
opaque replyFirst : Nat → Bool

/-- FREE VALUE (log entry 22). R116, R137: a power cross and the completion of the last step on one line at one instant, which the
Fault Supervisor and the engine each take in either order. With the power cross reported first, the engine takes the completion
before the suspension request exactly when this constant, applied to the count of the choice, says so; it has no body. -/
opaque completionFirst : Nat → Bool

end Sys2Proof.Config
end

