-- ==== Sys2Proof/Machine/State.lean ====
section
/-! DEFINITION. The state of the NWS32, block by block as 00_scope.md names the owners, and its value after a power-up. -/

namespace Sys2Proof.Machine

/-! ## Sets, sent and kept as bits (R178) -/

/-- A set of measurement steps: DCV bit 0, ACV 1, IRT 2, IRR 3, RTR 4. -/
abbrev StepSet := BitVec 5

/-- A set of fault kinds: PX bit 0, LK 1, FV 2, LT 3, LR 4, LL 5. -/
abbrev FaultSet := BitVec 6

/-- A set of line kinds: bit i is the line kind of code i + 1 (R158, R177, R178). -/
abbrev KindSet := BitVec 16

/-! ## Line Sense Unit -/

/-- The effective scan mode (R154). -/
inductive ScanMode where
  | normal
  | economy
  deriving DecidableEq, Repr

/-- The sample period of a line (R2). -/
inductive Period where
  | notSampled
  | ms2
  | ms8
  deriving DecidableEq, Repr

/-- The last sample record of a line (R4). -/
structure Sample where
  current : Nat
  ov : Bool
  time : Time
  deriving DecidableEq, Repr

/-- A running leak clamp: its start and the alarm limit in ms captured at the start (R15, R16). -/
structure LeakClamp where
  start : Time
  limit : Nat
  deriving DecidableEq, Repr

/-- The LSU fields of a line (01 section 1.1). -/
structure Lsu where
  period : Period
  nextSample : Option Time
  lastSample : Option Sample
  ovRun : Nat
  ovActive : Bool
  /-- In units of 1/4096 cu (R5). -/
  baseline : Nat
  tSeize : Nat
  tRel : Nat
  learningEnd : Option Time
  leakClamp : Option LeakClamp
  leakReported : Bool
  settleEnd : Option Time
  deriving DecidableEq, Repr

/-! ## Hook Logic -/

/-- The seven hook states (R25), in the order of their codes (R181). -/
inductive HookState where
  | outOfService
  | learning
  | idle
  | seizing
  | offHook
  | onBreak
  | quarantined
  deriving DecidableEq, Repr

/-- The service of a line (R25). -/
inductive Service where
  | serviceOut
  | serviceIn
  deriving DecidableEq, Repr

/-- The hook record of a line (R25). -/
structure HookRec where
  service : Service
  state : HookState
  runStart : Option Time
  breakStart : Option Time
  makeStart : Option Time
  pulseCount : Nat
  pendingQuarantine : Bool
  pendingProfile : Bool
  deriving DecidableEq, Repr

/-! ## Digit Collector -/

/-- The collection state of a line (R50). -/
inductive Collection where
  | inactive
  | waitFirst
  | collecting
  deriving DecidableEq, Repr

/-- The dial mode of a line (R50). -/
inductive DialMode where
  | undetermined
  | pulse
  | tone
  deriving DecidableEq, Repr

/-- A dialled key by its code in the DIGIT body: 0 to 9, then 10 *, 11 #, 12 to 15 A to D (R177). -/
abbrev Key := Fin 16

/-- The method of a digit (R50). -/
inductive Method where
  | pulse
  | tone
  deriving DecidableEq, Repr

/-- A buffer entry: a digit with its method, or F, a flash without one (R50). -/
inductive Entry where
  | digit (key : Key) (method : Method)
  | flash
  deriving DecidableEq, Repr

/-- The collection record of a line (R50). -/
structure DialRec where
  collection : Collection
  mode : DialMode
  buffer : List Entry
  truncated : Bool
  firstDeadline : Option Time
  endDeadline : Option Time
  deriving DecidableEq, Repr

/-! ## Tone Receiver Pool and Tone Detector -/

/-- A detector's state (R88). -/
inductive Detector where
  | quiet
  | candidate (d : Key) (n : Nat)
  | held (d : Key)
  | gap (d : Key) (k : Nat)
  deriving DecidableEq, Repr

/-- The fields of an ASSIGNED receiver (R73); a FREE receiver has none of them. -/
structure Receiver where
  line : Line
  /-- The number, on the tap's frame count, of the first frame of the block in progress (R68, R84). -/
  blockStart : Option Nat
  held : Bool
  slotChange : Bool
  detector : Detector
  deriving DecidableEq, Repr

/-- The receiver's started field (R73): it has reached a block boundary since its assignment or resumption and takes samples. -/
def Receiver.started (r : Receiver) : Bool := r.blockStart.isSome

/-- A place in the wait queue: the line and its class at the request (R75). -/
structure WaitEntry where
  line : Line
  priority : Bool
  deriving DecidableEq, Repr

/-- The pool's device-wide part (R68, R73, R75). -/
structure Pool where
  /-- `none` is FREE. -/
  receivers : Vector (Option Receiver) 8
  /-- Head first. -/
  waitQueue : List WaitEntry
  /-- The latest block boundary that has reached a receiver, at first that of the first frame-sync pulse since the reset; absent
  until that pulse comes (R68, log entry 8). -/
  grid : Option Boundary
  deriving DecidableEq, Repr

/-- The pool's part of a line record (R70, R73). -/
structure PoolLine where
  slot : Timeslot
  receiver : Option Rx
  waiting : Bool
  deriving DecidableEq, Repr

/-- The tone parameter set (R95); the five decibel quantities in steps of 0.5 dB. -/
structure ToneParams where
  levelFloor : Int
  fwdTwist : Int
  revTwist : Int
  groupMargin : Int
  purityMargin : Int
  minBlocks : Nat
  pauseBlocks : Nat
  deriving DecidableEq, Repr

/-! ## Line Test Engine -/

/-- The five measurement steps, in their running order (R98). -/
inductive Step where
  | dcv
  | acv
  | irt
  | irr
  | rtr
  deriving DecidableEq, Repr

/-- The values recorded by a test, each absent until its step completes (R98). -/
structure TestValues where
  /-- Tip and ring, −250 to +250 V. -/
  dcv : Option (Int × Int)
  acv : Option Nat
  irt : Option Nat
  irr : Option Nat
  rtr : Option Nat
  deriving DecidableEq, Repr

/-- Where a test came from (R105, R179). -/
inductive Origin where
  | host
  | auto
  | sweep
  deriving DecidableEq, Repr

/-- How a test ended (R109). -/
inductive Completion where
  | done
  | aborted
  | abandoned
  deriving DecidableEq, Repr

/-- A result record (R109). -/
structure ResultRec where
  line : Line
  origin : Origin
  steps : StepSet
  values : TestValues
  completion : Completion
  verdict : Option FaultSet
  deriving DecidableEq, Repr

/-- An entry of the test request queue (R101). -/
structure TestReq where
  line : Line
  steps : StepSet
  /-- Class AUTO; HOST otherwise. -/
  auto : Bool
  hostReport : Bool
  force : Bool
  deriving DecidableEq, Repr

/-- A phase in flight (R100, R105). -/
inductive Phase where
  | settle
  | measure (step : Step)
  deriving DecidableEq, Repr

/-- The running-test context (R105). -/
structure TestCtx where
  line : Line
  origin : Origin
  steps : StepSet
  values : TestValues
  /-- The next requested step to begin, after the phase in flight. -/
  next : Option Step
  /-- The phase in flight with its completion time; absent while the test is held by suspension. -/
  phase : Option (Phase × Time)
  hostReport : Bool
  force : Bool
  abortRequested : Bool
  /-- A power cross on the line has been reported at the instant at which its last step completes, and the engine takes its suspension
  request after that completion (R116, R137; log entry 22). -/
  crossed : Bool
  deriving DecidableEq, Repr

/-- The held-sweep context (R105). -/
structure SweepCtx where
  line : Line
  steps : StepSet
  values : TestValues
  next : Option Step
  deriving DecidableEq, Repr

/-- The engine states (R105). -/
inductive EngineState where
  | idle
  | running
  | stepping
  | suspended
  deriving DecidableEq, Repr

/-- The sweep timer (R111): not running, running toward a deadline, or stopped by suspension with a remaining time in ms. -/
inductive SweepTimer where
  | stopped
  | running (deadline : Time)
  | remaining (ms : Nat)
  deriving DecidableEq, Repr

/-- The Line Test Engine (R101, R105, R111, R112). -/
structure Engine where
  state : EngineState
  suspendPending : Bool
  /-- Head first. -/
  queue : List TestReq
  running : Option TestCtx
  heldSweep : Option SweepCtx
  sweepEnabled : Bool
  /-- In seconds. -/
  sweepInterval : Nat
  sweepSteps : StepSet
  cursor : Line
  sweepTimer : SweepTimer
  sweepDue : Bool
  deriving DecidableEq, Repr

/-- The test part of a line: the on-test-bus flag, the test-access relay and the last result (R99, R110). -/
structure TestLine where
  onTestBus : Bool
  relayClosed : Bool
  lastResult : Option ResultRec
  deriving DecidableEq, Repr

/-! ## Fault Supervisor -/

/-- The fault record of a line (R124). -/
structure FaultRec where
  sticky : FaultSet
  clearCount : Nat
  retestDue : Option Time
  owed : Bool
  deriving DecidableEq, Repr

/-! ## Profile Table -/

/-- The dialModes field (R140). -/
inductive DialModes where
  | pulse
  | tone
  | both
  deriving DecidableEq, Repr

/-- A profile record, or a line's working parameters: the 23 fields of R140. -/
structure Profile where
  seizeMargin : Nat
  hysteresis : Nat
  trackShift : Nat
  leakMax : Nat
  leakAlarmTime : Nat
  seizeTime : Nat
  hitMax : Nat
  pulseMax : Nat
  flashMin : Nat
  releaseMin : Nat
  interdigit : Nat
  firstDigitTimeout : Nat
  endTimeout : Nat
  dialModes : DialModes
  autoCollect : Bool
  /-- receiverClass PRIORITY; NORMAL otherwise. -/
  receiverPriority : Bool
  quarantineOnFault : Bool
  retestInterval : Nat
  clearCount : Nat
  fvDcLimit : Nat
  fvAcLimit : Nat
  irLimit : Nat
  lowLoopLimit : Nat
  deriving DecidableEq, Repr

/-- The default record (R140). -/
def Profile.default : Profile where
  seizeMargin := 60
  hysteresis := 20
  trackShift := 7
  leakMax := 80
  leakAlarmTime := 30
  seizeTime := 30
  hitMax := 16
  pulseMax := 90
  flashMin := 120
  releaseMin := 800
  interdigit := 200
  firstDigitTimeout := 15
  endTimeout := 4
  dialModes := .both
  autoCollect := true
  receiverPriority := false
  quarantineOnFault := true
  retestInterval := 60
  clearCount := 2
  fvDcLimit := 10
  fvAcLimit := 20
  irLimit := 150
  lowLoopLimit := 2000

/-- The Profile Table's part of a line (R141). -/
structure ProfLine where
  number : ProfNo
  working : Profile
  deriving DecidableEq, Repr

/-! ## Battery Monitor -/

/-- The judgement of the battery readings (R153). -/
inductive BatteryState where
  | normal
  | low
  deriving DecidableEq, Repr

/-- The scan setting (R154). -/
inductive ScanSetting where
  | normal
  | economy
  | auto
  deriving DecidableEq, Repr

/-- The Battery Monitor (09 section 9.1). -/
structure Battery where
  reading : Option Nat
  index : Fin 8
  state : BatteryState
  setting : ScanSetting
  mode : ScanMode
  deriving DecidableEq, Repr

/-! ## Event Reporter -/

/-- The two classes and the two queues (R162, R163). -/
inductive EventClass where
  | priority
  | normal
  deriving DecidableEq, Repr

/-- The reason of a DIALLING_END (R158). -/
inductive EndReason where
  | timeout
  | full
  deriving DecidableEq, Repr

/-- The reset cause (R174). -/
inductive ResetCause where
  | power
  | pin
  | command
  deriving DecidableEq, Repr

/-- The line kinds with their bodies, in the order of R158. -/
inductive LineEvent where
  | offHook
  | onHook
  | flash
  | digit (key : Key) (method : Method)
  | digitError
  | firstDigitTimeout
  | diallingEnd (reason : EndReason)
  | testDone (result : ResultRec)
  | testAborted (result : ResultRec)
  | testDropped
  | fault (kinds : FaultSet)
  | leakage
  | powerCross
  | quarantined
  | faultCleared
  | profileApplied
  deriving DecidableEq, Repr

/-- The device kinds with their bodies (R158); START also carries the fixed revision. -/
inductive DeviceEvent where
  | start (cause : ResetCause)
  | battery (reading : Nat) (state : BatteryState)
  | scanMode (mode : ScanMode)
  | overflow (queue : EventClass)
  deriving DecidableEq, Repr

/-- An event record: kind and body, line, 16-bit timestamp (R158, R159). -/
inductive Event where
  | line (line : Line) (time : BitVec 16) (body : LineEvent)
  | device (time : BitVec 16) (body : DeviceEvent)
  deriving DecidableEq, Repr

/-- The Event Reporter's device-wide part (R162, R163). -/
structure Reporter where
  /-- Oldest first. -/
  prio : List Event
  norm : List Event
  prioOverflow : Bool
  normOverflow : Bool
  /-- The class of each mapped kind: the 16 line kinds in the order of R158, then START, BATTERY, SCAN_MODE (R172). -/
  classMap : Vector EventClass 19
  deriving DecidableEq, Repr

/-- The Event Reporter's part of a line (R160, R161). -/
structure RepLine where
  mask : KindSet
  latched : KindSet
  deriving DecidableEq, Repr

/-! ## Link Interface and Command Interpreter -/

/-- The status codes (R171). -/
inductive Status where
  | ok
  | clamped
  | unknown
  | badLength
  | badArgument
  | badOrder
  | lineIdle
  | lineBusy
  | suspended
  | queueFull
  | notFound
  | notSuspended
  | stillAlarmed
  | slotInUse
  | notQuarantined
  | frameError
  | busy
  deriving DecidableEq, Repr

/-- A reply: the answered kind, the status and the reply data (R176). -/
structure Reply where
  kind : Byte
  status : Status
  data : List Byte
  deriving DecidableEq, Repr

/-- The frame receiver (R167): HUNTING, or COLLECTING the bytes after the start byte, with the time of the last byte. -/
inductive FrameRx where
  | hunting
  | collecting (got : List Byte) (last : Time)
  deriving DecidableEq, Repr

/-- The frame being transmitted (R170). -/
inductive TxFrame where
  | reply (reply : Reply)
  | busy
  | event (event : Event)
  deriving DecidableEq, Repr

/-- The Link Interface and Command Interpreter (R167, R169, R170, R174). -/
structure Link where
  rx : FrameRx
  slot : Option Reply
  busyPending : Bool
  /-- `none` is free, with LTX at the stop level. -/
  tx : Option TxFrame
  resetCause : ResetCause
  /-- A RESET command has been executed and has not yet taken effect. -/
  resetRequested : Bool
  /-- RESETN is low. -/
  resetnLow : Bool
  deriving DecidableEq, Repr

/-! ## The whole -/

/-- The record of one line, block by block. -/
structure LineRec where
  lsu : Lsu
  hook : HookRec
  dial : DialRec
  pool : PoolLine
  test : TestLine
  fault : FaultRec
  prof : ProfLine
  rep : RepLine
  deriving DecidableEq, Repr

/-- The state of the part. `freeCount` and `pending` are the model's own: the count of the free choices taken so far (log
entries 3 and 22), and the commands that wait, first in, first out. -/
structure State where
  partTime : Time
  lines : Vector LineRec 32
  pool : Pool
  tone : ToneParams
  profiles : Vector Profile 8
  engine : Engine
  battery : Battery
  reporter : Reporter
  link : Link
  freeCount : Nat
  pending : List Instr
  deriving DecidableEq, Repr

/-- Why the part stops: it never does (INVENTORY.md, Faults), so the type is empty. -/
inductive Fault where
  deriving DecidableEq, Repr

/-- Why a command has no meaning. -/
inductive Refusal where
  /-- The interface's own refusal, for a command without a meaning; every command has one, so nothing raises it. Safe. -/
  | notModelled (mnemonic : String)
  deriving DecidableEq, Repr

/-- The tone parameter defaults, decibels in steps of 0.5 dB (R95). -/
def ToneParams.default : ToneParams where
  levelFloor := -60
  fwdTwist := 8
  revTwist := 16
  groupMargin := 12
  purityMargin := 20
  minBlocks := 3
  pauseBlocks := 2

/-- The class map after a power-up (R162). -/
def defaultClassMap : Vector EventClass 19 :=
  #v[.normal, .normal, .normal, .normal, .normal, .normal, .normal, .normal, .normal, .normal,
     .priority, .priority, .priority, .priority, .priority, .normal, .priority, .normal, .normal]

/-- No step has a value (R98). -/
def TestValues.empty : TestValues := ⟨none, none, none, none, none⟩

/-- The record of a line after a power-up (R23, R48, R67, R82, R122, R139, R149, R165). -/
def LineRec.powerUp (l : Line) : LineRec where
  lsu := ⟨.ms2, some 2#32, none, 0, false, 0, 60, 40, some 512#32, none, false, none⟩
  hook := ⟨.serviceIn, .learning, none, none, none, 0, false, false⟩
  dial := ⟨.inactive, .undetermined, [], false, none, none⟩
  pool := ⟨Fin.castLE (by decide) l, none, false⟩
  test := ⟨false, false, none⟩
  fault := ⟨0#6, 0, none, false⟩
  prof := ⟨0, Profile.default⟩
  rep := ⟨0xFFFF#16, 0#16⟩

/-- The pool after every reset (R82, R83). -/
def Pool.cleared : Pool := ⟨Vector.replicate 8 none, [], none⟩

/-- The engine after a power-up (R122). -/
def Engine.powerUp : Engine where
  state := .idle
  suspendPending := false
  queue := []
  running := none
  heldSweep := none
  sweepEnabled := true
  sweepInterval := 2
  sweepSteps := 0b01111#5
  cursor := 31
  sweepTimer := .running 2000#32
  sweepDue := false

/-- The Battery Monitor after a power-up (R156). -/
def Battery.powerUp : Battery := ⟨none, 2, .normal, .auto, .normal⟩

/-- The machine right after a power-up reset (R174): every configuration item at its default, START raised at part time 0
(R165) and its frame begun at once, the transmitter having been free (R170). -/
def State.reset : State where
  partTime := 0#32
  lines := Vector.ofFn LineRec.powerUp
  pool := Pool.cleared
  tone := ToneParams.default
  profiles := Vector.replicate 8 Profile.default
  engine := Engine.powerUp
  battery := Battery.powerUp
  reporter := ⟨[], [], false, false, defaultClassMap⟩
  link := ⟨.hunting, none, false, some (.event (.device 0#16 (.start .power))), .power, false, false⟩
  freeCount := 0
  pending := []

end Sys2Proof.Machine
end

