-- ==== Sys2Proof/Machine/Flags.lean ====
section
/-! DEFINITION. Sets of steps, faults and line kinds as bits, and the arithmetic of the LSU and the Battery Monitor that
computes a line's sample period, baseline and thresholds and the scan mode. -/

namespace Sys2Proof.Machine

/-! ## Bit sets (R178) -/

/-- The bit of a step in a step set. -/
def Step.bit : Step → Nat
  | .dcv => 0
  | .acv => 1
  | .irt => 2
  | .irr => 3
  | .rtr => 4

/-- Whether a step is in a set. -/
def StepSet.has (s : StepSet) (p : Step) : Bool := s.getLsbD p.bit

/-- The set of all five steps: a full test (R98). -/
def StepSet.full : StepSet := 0b11111#5

/-- The fault kinds, one set each. -/
def FaultSet.px : FaultSet := 0b000001#6
/-- Leakage suspicion. -/
def FaultSet.lk : FaultSet := 0b000010#6
/-- Foreign voltage. -/
def FaultSet.fv : FaultSet := 0b000100#6
/-- Tip leakage to ground. -/
def FaultSet.lt : FaultSet := 0b001000#6
/-- Ring leakage to ground. -/
def FaultSet.lr : FaultSet := 0b010000#6
/-- Low loop resistance. -/
def FaultSet.ll : FaultSet := 0b100000#6

/-- The kind of a line event: its code less 1 (R158, R177). -/
def LineEvent.kind : LineEvent → Fin 16
  | .offHook => 0
  | .onHook => 1
  | .flash => 2
  | .digit _ _ => 3
  | .digitError => 4
  | .firstDigitTimeout => 5
  | .diallingEnd _ => 6
  | .testDone _ => 7
  | .testAborted _ => 8
  | .testDropped => 9
  | .fault _ => 10
  | .leakage => 11
  | .powerCross => 12
  | .quarantined => 13
  | .faultCleared => 14
  | .profileApplied => 15

/-- The set that holds one line kind. -/
def kindBit (k : Fin 16) : KindSet := BitVec.twoPow 16 k.val

/-- Whether a line kind is in a set. -/
def KindSet.has (s : KindSet) (k : Fin 16) : Bool := s.getLsbD k.val

/-- The set that holds POWER_CROSS alone, which stands in every report mask (R161). -/
def powerCrossBit : KindSet := 0x1000#16

/-! ## Clamping and comparing -/

/-- Clamping to the nearest end of a range (00_scope.md, Conventions). -/
def clampNat (lo hi v : Nat) : Nat := max lo (min hi v)

/-- Clamping of a signed number. -/
def clampInt (lo hi v : Int) : Int := max lo (min hi v)

/-- Whether part time `t` is earlier than `limit`, the end of a window of `span` ms (R11, R19): `t` lies in the window, from its
beginning up to, but not including, its end (times compare as differences modulo 2^32, R1; DEDUCED, log entry 6). -/
def earlier (span : Nat) (t limit : Time) : Bool := 0 < elapsed limit t && elapsed limit t ≤ span

/-! ## Sample periods (R2, R3) -/

/-- The sample period of a hook state under an effective scan mode (R2). -/
def periodOf (state : HookState) (mode : ScanMode) : Period :=
  match state, mode with
  | .outOfService, _ => .notSampled
  | .seizing, _ => .ms2
  | .offHook, _ => .ms2
  | .onBreak, _ => .ms2
  | .learning, .normal => .ms2
  | .idle, .normal => .ms2
  | .quarantined, .normal => .ms2
  | .learning, .economy => .ms8
  | .idle, .economy => .ms8
  | .quarantined, .economy => .ms8

/-- The first multiple of `ms` milliseconds later than `now`. -/
def nextMultiple (ms : Nat) (now : Time) : Time := BitVec.ofNat 32 ((now.toNat / ms + 1) * ms)

/-- The first boundary of a period later than `now`; none for a line that is not sampled (R2, R3). -/
def Period.nextAfter (p : Period) (now : Time) : Option Time :=
  match p with
  | .notSampled => none
  | .ms2 => some (nextMultiple 2 now)
  | .ms8 => some (nextMultiple 8 now)

/-- A line's LSU fields after a moment `now` at which its hook state is `state` and the mode is `mode`: where the period
changes, the next sample time becomes the first boundary of the new period later than `now` (R3). -/
def Lsu.reperiod (u : Lsu) (state : HookState) (mode : ScanMode) (now : Time) : Lsu :=
  if periodOf state mode = u.period then u
  else { u with period := periodOf state mode, nextSample := (periodOf state mode).nextAfter now }

/-! ## The leakage baseline and the thresholds (R5 to R8) -/

/-- The whole-cu part W of a baseline (R5). -/
def wholeCu (b : Nat) : Nat := b / 4096

/-- The upper end of a baseline under a leakMax (R5). -/
def baselineMax (leakMax : Nat) : Nat := 4096 * leakMax

/-- A baseline update with current `i` and shift `sh`: B + floor((4096 i − B) / 2^sh), clamped to 0 to 4096 leakMax (R6). -/
def updatedBaseline (b i sh leakMax : Nat) : Nat :=
  (clampInt 0 (baselineMax leakMax) ((b : Int) + ((i : Int) * 4096 - b) / (2 ^ sh : Nat))).toNat

/-- T_seize: W + seizeMargin clamped to 40 to 300 (R8). -/
def seizeThreshold (b : Nat) (p : Profile) : Nat := clampNat 40 300 (wholeCu b + p.seizeMargin)

/-- T_rel: the larger of T_seize − hysteresis and W + 1 (R8). -/
def releaseThreshold (b : Nat) (p : Profile) : Nat := max (seizeThreshold b p - p.hysteresis) (wholeCu b + 1)

/-- The thresholds recomputed by R8 from the baseline and the working parameters (R10). -/
def Lsu.rethreshold (u : Lsu) (p : Profile) : Lsu :=
  { u with tSeize := seizeThreshold u.baseline p, tRel := releaseThreshold u.baseline p }

/-! ## Over-voltage runs (R20, R21) -/

/-- The evaluation of one OV indication: the new LSU fields, and whether it completes an over-voltage run. -/
def Lsu.evalOv (u : Lsu) (ov : Bool) : Lsu × Bool :=
  if u.ovActive then
    if ov then ({ u with ovRun := 0 }, false)
    else if 3 ≤ u.ovRun + 1 then ({ u with ovRun := 0, ovActive := false }, false)
    else ({ u with ovRun := u.ovRun + 1 }, false)
  else if ov then
    if 3 ≤ u.ovRun + 1 then ({ u with ovRun := 0, ovActive := true }, true)
    else ({ u with ovRun := u.ovRun + 1 }, false)
  else ({ u with ovRun := 0 }, false)

/-! ## The scan mode and the battery thresholds (R153, R154) -/

/-- The effective scan mode of a scan setting and a battery state (R154). -/
def scanModeOf (setting : ScanSetting) (state : BatteryState) : ScanMode :=
  match setting, state with
  | .normal, _ => .normal
  | .economy, _ => .economy
  | .auto, .normal => .normal
  | .auto, .low => .economy

/-- The LOW threshold of an index: 40, 42, … 54 V (R153). -/
def lowThreshold (index : Fin 8) : Nat := 40 + 2 * index.val

/-- The battery state after a reading (R153). -/
def judgedState (state : BatteryState) (index : Fin 8) (volts : Nat) : BatteryState :=
  match state with
  | .normal => if volts < lowThreshold index then .low else .normal
  | .low => if lowThreshold index + 1 ≤ volts then .normal else .low

/-! ## States of a line and of the engine -/

/-- The busy states: SEIZING, OFF_HOOK and BREAK (02 section 2.1). -/
def HookState.busy : HookState → Bool
  | .seizing | .offHook | .onBreak => true
  | .outOfService | .learning | .idle | .quarantined => false

/-- Collection is active in WAIT_FIRST and COLLECTING (R50). -/
def Collection.active : Collection → Bool
  | .waitFirst | .collecting => true
  | .inactive => false

/-- Every record of the table satisfies hitMax < pulseMax < flashMin < releaseMin (R140). -/
def Profile.ordered (p : Profile) : Bool :=
  p.hitMax < p.pulseMax && p.pulseMax < p.flashMin && p.flashMin < p.releaseMin

end Sys2Proof.Machine
end

