-- ==== Sys2Proof/Machine/Ops.lean ====
section
/-! DEFINITION. The named operations over the line records, the Event Reporter and the transmitter that every block uses.
`partTime` is the present part time throughout: an arrival sets it before anything else (`arrive`). -/

namespace Sys2Proof.Machine

/-! ## Line records -/

/-- The record of a line. -/
def State.line (s : State) (l : Line) : LineRec := s.lines.get l

/-- The state with a line's record replaced. -/
def State.setLine (s : State) (l : Line) (r : LineRec) : State := { s with lines := s.lines.set l.val r l.isLt }

/-- The state with a line's LSU fields changed. -/
def State.modLsu (s : State) (l : Line) (f : Lsu → Lsu) : State :=
  s.setLine l { s.line l with lsu := f (s.line l).lsu }

/-- The state with a line's hook record changed. -/
def State.modHook (s : State) (l : Line) (f : HookRec → HookRec) : State :=
  s.setLine l { s.line l with hook := f (s.line l).hook }

/-- The state with a line's collection record changed. -/
def State.modDial (s : State) (l : Line) (f : DialRec → DialRec) : State :=
  s.setLine l { s.line l with dial := f (s.line l).dial }

/-- The state with the pool's part of a line changed. -/
def State.modPoolLine (s : State) (l : Line) (f : PoolLine → PoolLine) : State :=
  s.setLine l { s.line l with pool := f (s.line l).pool }

/-- The state with the test part of a line changed. -/
def State.modTest (s : State) (l : Line) (f : TestLine → TestLine) : State :=
  s.setLine l { s.line l with test := f (s.line l).test }

/-- The state with a line's fault record changed. -/
def State.modFault (s : State) (l : Line) (f : FaultRec → FaultRec) : State :=
  s.setLine l { s.line l with fault := f (s.line l).fault }

/-- The state with the Profile Table's part of a line changed. -/
def State.modProf (s : State) (l : Line) (f : ProfLine → ProfLine) : State :=
  s.setLine l { s.line l with prof := f (s.line l).prof }

/-- The state with the Event Reporter's part of a line changed. -/
def State.modRep (s : State) (l : Line) (f : RepLine → RepLine) : State :=
  s.setLine l { s.line l with rep := f (s.line l).rep }

/-- The state with every line's LSU fields changed. -/
def State.modEveryLsu (s : State) (f : LineRec → Lsu) : State :=
  { s with lines := Vector.ofFn fun l => { s.line l with lsu := f (s.line l) } }

/-- The working parameters of a line (R141). -/
def State.working (s : State) (l : Line) : Profile := (s.line l).prof.working

/-- A receiver record (R73). -/
def State.receiver (s : State) (r : Rx) : Option Receiver := s.pool.receivers.get r

/-- The state with a receiver record replaced. -/
def State.setReceiver (s : State) (r : Rx) (v : Option Receiver) : State :=
  { s with pool := { s.pool with receivers := s.pool.receivers.set r.val v r.isLt } }

/-- The state with the engine's record changed. -/
def State.modEngine (s : State) (f : Engine → Engine) : State := { s with engine := f s.engine }

/-- The state with the link's record changed. -/
def State.modLink (s : State) (f : Link → Link) : State := { s with link := f s.link }

/-- A list with an entry placed directly after the last entry that satisfies `p`, or at the head if none does (R75, R101). -/
def insertAfterLast {α : Type} (p : α → Bool) (e : α) : List α → List α
  | [] => [e]
  | x :: rest => if p x || rest.any p then x :: insertAfterLast p e rest else e :: x :: rest

/-! ## The transmitter (R164, R170) -/

/-- The 16-bit timestamp of the present part time (R159). -/
def State.stamp (s : State) : BitVec 16 := s.partTime.setWidth 16

/-- The queue of a class. -/
def Reporter.queue (r : Reporter) : EventClass → List Event
  | .priority => r.prio
  | .normal => r.norm

/-- The overflow flag of a queue. -/
def Reporter.overflow (r : Reporter) : EventClass → Bool
  | .priority => r.prioOverflow
  | .normal => r.normOverflow

/-- The reporter with a queue and its overflow flag replaced. -/
def Reporter.setQueue (r : Reporter) (c : EventClass) (q : List Event) (flag : Bool) : Reporter :=
  match c with
  | .priority => { r with prio := q, prioOverflow := flag }
  | .normal => { r with norm := q, normOverflow := flag }

/-- The capacity of a queue (R163). -/
def EventClass.capacity : EventClass → Nat
  | .priority => Config.prioCap
  | .normal => Config.normCap

/-- A queue after the removal of its head, of which `rest` remain: a set overflow flag appends OVERFLOW in the place just
freed and becomes no (R164). -/
def Reporter.removeHead (r : Reporter) (c : EventClass) (rest : List Event) (stamp : BitVec 16) : Reporter :=
  if r.overflow c then r.setQueue c (rest ++ [.device stamp (.overflow c)]) false else r.setQueue c rest false

/-- The transmitter's choice: when it is free, it begins the frame of the first that stands of the reply in the slot, a
BUSY reply, the PRIORITY head and the NORMAL head (R170). -/
def State.txChoose (s : State) : State :=
  match s.link.tx with
  | some _ => s
  | none =>
    match s.link.slot with
    | some r => { s with link := { s.link with slot := none, tx := some (.reply r) } }
    | none =>
      if s.link.busyPending then { s with link := { s.link with busyPending := false, tx := some .busy } }
      else
        match s.reporter.prio with
        | e :: rest =>
          { s with reporter := s.reporter.removeHead .priority rest s.stamp, link := { s.link with tx := some (.event e) } }
        | [] =>
          match s.reporter.norm with
          | e :: rest =>
            { s with reporter := s.reporter.removeHead .normal rest s.stamp, link := { s.link with tx := some (.event e) } }
          | [] => s

/-! ## Raising events (R158 to R163) -/

/-- An event reaches its queue: appended where a place is free, otherwise discarded with the overflow flag set (R163). -/
def Reporter.enqueue (r : Reporter) (c : EventClass) (e : Event) : Reporter :=
  if (r.queue c).length < c.capacity then r.setQueue c (r.queue c ++ [e]) (r.overflow c)
  else r.setQueue c (r.queue c) true

/-- An event goes to a queue, and a free transmitter takes it at once (R163, R170). -/
def State.report (s : State) (c : EventClass) (e : Event) : State :=
  ({ s with reporter := s.reporter.enqueue c e }).txChoose

/-- The class of a line kind (R162). -/
def State.lineClass (s : State) (k : Fin 16) : EventClass := s.reporter.classMap.get (Fin.castLE (by decide) k)

/-- Raising a line event: its kind joins the latched set, and if the mask holds it the event goes to the queue of its
class (R160 to R163). -/
def State.raise (s : State) (l : Line) (b : LineEvent) : State :=
  let s' := s.modRep l fun r => { r with latched := r.latched ||| kindBit b.kind }
  if (s.line l).rep.mask.getLsbD b.kind.val then s'.report (s.lineClass b.kind) (.line l s.stamp b) else s'

/-- The class of a device kind: mapped, but for OVERFLOW, which goes to the queue it names (R162). -/
def State.deviceClass (s : State) : DeviceEvent → EventClass
  | .start _ => s.reporter.classMap.get 16
  | .battery _ _ => s.reporter.classMap.get 17
  | .scanMode _ => s.reporter.classMap.get 18
  | .overflow c => c

/-- Raising a device event: it joins no latched set and no mask is asked (R160, R161). -/
def State.raiseDevice (s : State) (b : DeviceEvent) : State := s.report (s.deviceClass b) (.device s.stamp b)

/-! ## Arrivals and replies (R169, R174) -/

/-- An arrival at part time `now`: while RESETN is low the part is held in reset and takes nothing (R174); otherwise the
part time is `now` and the arrival is handled whole. -/
def State.arrive (s : State) (now : Time) (f : State → State) : State :=
  if s.link.resetnLow then s else f { s with partTime := now }

/-- A reply is placed in the slot, and a free transmitter begins its frame at once (R169, R170). -/
def State.answer (s : State) (r : Reply) : State := (s.modLink fun k => { k with slot := some r }).txChoose

/-- The execution of a command (R169): `run` acts on the blocks and builds the reply, which is placed in the slot.
Where the transmitter is free and the command itself raises an event, reply and event meet at one instant and either may be
taken first (R170); the free value `Config.replyFirst` draws the order (log entry 3).  In the reply's case the
transmitter is kept from choosing until the reply stands in the slot. -/
def State.execute (s : State) (run : State → State × Reply) : State :=
  let eager := run s
  if s.link.tx.isNone && eager.1.link.tx.isSome then
    if Config.replyFirst s.freeCount then
      let kept := run (s.modLink fun k => { k with tx := some .busy })
      ({ kept.1.modLink (fun k => { k with tx := none }) with freeCount := s.freeCount + 1 }).answer kept.2
    else ({ eager.1 with freeCount := s.freeCount + 1 }).answer eager.2
  else eager.1.answer eager.2

/-- A good frame completes (R167, R169, R174): the frame receiver becomes HUNTING; between a RESET and its effect the frame
is discarded; with the slot occupied it is not executed and busy-pending becomes yes; otherwise the command is executed. -/
def State.goodFrame (s : State) (run : State → State × Reply) : State :=
  let s := s.modLink fun k => { k with rx := .hunting }
  if s.link.resetRequested then s
  else if s.link.slot.isSome then (s.modLink fun k => { k with busyPending := true }).txChoose
  else s.execute run

/-- A frame with a bad length byte or a bad check (R167, R169): a FRAME_ERROR reply is placed in an empty slot. -/
def State.badFrame (s : State) : State :=
  let s := s.modLink fun k => { k with rx := .hunting }
  if s.link.resetRequested then s
  else if s.link.slot.isSome then (s.modLink fun k => { k with busyPending := true }).txChoose
  else s.answer ⟨0#8, .frameError, []⟩

end Sys2Proof.Machine
end

