-- ==== Sys2Proof/Machine/Pool.lean ====
section
/-! DEFINITION. The Tone Receiver Pool: assignment, the wait queue, returns, and receivers of lines under test
(R70 to R80), the highway tap (R68), with the meanings of FIRST_FRAME_SYNC_PULSE and RECEIVER_START. -/

namespace Sys2Proof.Machine

/-- A receiver as R74 assigns it to a line: not started, unmarked, QUIET, held if the line is on the test bus or holds a
settle end. -/
def State.freshReceiver (s : State) (l : Line) : Receiver :=
  ⟨l, none, (s.line l).test.onTestBus || (s.line l).lsu.settleEnd.isSome, false, .quiet⟩

/-- A receiver is assigned to a line, and the line record takes its number (R74). -/
def State.assign (s : State) (r : Rx) (l : Line) : State :=
  (s.setReceiver r (some (s.freshReceiver l))).modPoolLine l fun p => { p with receiver := some r }

/-- The lowest-numbered FREE receiver (R74). -/
def State.freeReceiver (s : State) : Option Rx := allRx.find? fun r => (s.receiver r).isNone

/-- A wait queue with a line placed by its class: PRIORITY directly after the last PRIORITY line, or at the head if the
queue holds none, NORMAL at the end (R75). -/
def joinQueue (q : List WaitEntry) (e : WaitEntry) : List WaitEntry :=
  if e.priority then insertAfterLast (fun x => x.priority) e q else q ++ [e]

/-- A line joins the wait queue under its working receiverClass (R75). -/
def State.joinWait (s : State) (l : Line) : State :=
  ({ s with pool := { s.pool with waitQueue := joinQueue s.pool.waitQueue ⟨l, (s.working l).receiverPriority⟩ } }).modPoolLine l
    fun p => { p with waiting := true }

/-- A request for a receiver (R74): nothing for a line that holds one or waits; otherwise the lowest FREE receiver, or a
place in the wait queue. -/
def State.requestReceiver (s : State) (l : Line) : State :=
  if (s.line l).pool.receiver.isSome || (s.line l).pool.waiting then s
  else
    match s.freeReceiver with
    | some r => s.assign r l
    | none => s.joinWait l

/-- The return of receiver `r` by line `l` (R76): it becomes FREE, or it is handed to the head of the wait queue at once. -/
def State.returnReceiver (s : State) (r : Rx) (l : Line) : State :=
  let s := s.modPoolLine l fun p => { p with receiver := none }
  match s.pool.waitQueue with
  | [] => s.setReceiver r none
  | e :: rest =>
    (({ s with pool := { s.pool with waitQueue := rest } }).modPoolLine e.line fun p => { p with waiting := false }).assign r e.line

/-- A waiting line is taken out of the queue; the others keep their order (R77). -/
def State.removeWait (s : State) (l : Line) : State :=
  ({ s with pool := { s.pool with waitQueue := s.pool.waitQueue.filter fun e => e.line != l } }).modPoolLine l
    fun p => { p with waiting := false }

/-- The line gives back the receiver it holds, or its wait place, or has nothing to give back (R56, R63). -/
def State.giveUpReceiver (s : State) (l : Line) : State :=
  match (s.line l).pool.receiver with
  | some r => s.returnReceiver r l
  | none => if (s.line l).pool.waiting then s.removeWait l else s

/-- A line's receiver record is changed, if the line holds a receiver. -/
def State.modHeldReceiver (s : State) (l : Line) (f : Receiver → Receiver) : State :=
  match (s.line l).pool.receiver with
  | some r => s.setReceiver r ((s.receiver r).map f)
  | none => s

/-- The connection notice: the line's receiver is held, its block is discarded, its detector is QUIET (R79). -/
def State.holdReceiver (s : State) (l : Line) : State :=
  s.modHeldReceiver l fun r => { r with held := true, blockStart := none, detector := .quiet }

/-- The end-of-window notice: a held receiver is unheld and starts at the next block boundary (R80). -/
def State.resumeReceiver (s : State) (l : Line) : State :=
  s.modHeldReceiver l fun r => if r.held then { r with held := false } else r

/-- SET_TIMESLOT has changed the slot of the line: an unheld receiver is marked, a held one loses any mark (R72, R79). -/
def State.markSlotChange (s : State) (l : Line) : State :=
  s.modHeldReceiver l fun r => { r with slotChange := !r.held }

/-- The position of a line in the wait queue, counted from 1 at the head; 0 for a line that does not wait (R81, R181). -/
def waitPosition (q : List WaitEntry) (l : Line) : Nat :=
  match q.findIdx? fun e => e.line == l with
  | some i => i + 1
  | none => 0

/-- The number of FREE receivers (R81). -/
def State.freeCountRx (s : State) : Nat := (allRx.filter fun r => (s.receiver r).isNone).length

/-- The line that holds a timeslot other than `l` itself (R71). -/
def State.slotHolder (s : State) (l : Line) (t : Timeslot) : Option Line :=
  allLines.find? fun m => m != l && (s.line m).pool.slot == t

/-! ## The highway tap (R68) -/

/-- The byte of a timeslot of a highway frame: timeslot 0 begins the frame, and each slot is sent most significant bit first
(R68). -/
def tapByte (f : HighwayFrame) (t : Timeslot) : Byte := f.extractLsb' (504 - 8 * t.val) 8

/-- The samples' bytes that the tap takes for a line from the frames of a block: those of the timeslot to which the map gives the
line (R68, R70). An unmarked block began on that slot, since a change of slot marks the receiver (R72). -/
def State.tapBytes (s : State) (l : Line) (frames : List HighwayFrame) : List Byte :=
  frames.map fun f => tapByte f (s.line l).pool.slot

/-- Whether a block boundary at the beginning of frame `frame` can fall at `now`, when `b` is the latest boundary: every hundredth
frame begins a block, one boundary falls at one instant for all receivers, and two boundaries lie 12.5 ms apart or more, which is
12 of the millisecond count or more (R68; log entry 8). -/
def onGrid (b : Boundary) (frame : Nat) (now : Time) : Bool :=
  frame % 100 == 0 && (frame == b.frame && now == b.time || decide (b.frame < frame) && decide (12 ≤ elapsed now b.time))

/-- A block boundary at the beginning of frame `frame` is reached now (R68). -/
def State.reachBoundary (s : State) (frame : Nat) : State :=
  { s with pool := { s.pool with grid := some ⟨frame, s.partTime⟩ } }

/-- The effect of the first frame-sync pulse after a reset: the frame count begins, and with frame 0 the block grid; a later pulse
is not the first (R68). -/
def State.firstSync (s : State) : State :=
  match s.pool.grid with
  | some _ => s
  | none => s.reachBoundary 0

/-- The effect of a block boundary on a receiver that waits to start: an ASSIGNED, unheld receiver begins its first block there,
on the line's present slot, which a slot-change mark has then reached (R74, R80; log entry 5).  Without a grid there is no
boundary, and an arrival off the grid is none (log entry 2). -/
def State.startReceiver (s : State) (r : Rx) (frame : Nat) : State :=
  match s.pool.grid, s.receiver r with
  | some b, some rec =>
    if rec.started || rec.held || !onGrid b frame s.partTime then s
    else (s.reachBoundary frame).setReceiver r (some { rec with blockStart := some frame, slotChange := false })
  | _, _ => s

/-- FIRST_FRAME_SYNC_PULSE. -/
def execFirstFrameSyncPulse (now : Time) (s : State) : Host.Outcome State Fault Refusal :=
  .next (s.arrive now State.firstSync)

/-- RECEIVER_START. -/
def execReceiverStart (b : Boundary) (r : Rx) (s : State) : Host.Outcome State Fault Refusal :=
  .next (s.arrive b.time fun s => s.startReceiver r b.frame)

end Sys2Proof.Machine
end

