-- ==== Sys2Proof/Machine/Collector.lean ====
section
/-! DEFINITION. The Digit Collector: arming, digits, flashes, the full buffer, the timers and the end of collection
(R50 to R64), with the meanings of its two timer expiries. -/

namespace Sys2Proof.Machine

/-- The notice to discard a line's pulse count (R40). -/
def State.discardPulses (s : State) (l : Line) : State := s.modHook l fun h => { h with pulseCount := 0 }

/-- The deadline a number of seconds from now. -/
def State.deadlineIn (s : State) (seconds : Nat) : Time := laterBy s.partTime (1000 * seconds)

/-- The end of collection (R63): INACTIVE with no deadline, the pulse count discarded, receiver or wait place given back,
and the cause's event raised, if it has one.  Where collection is already INACTIVE, only a receiver or place still held is
given back. -/
def State.endCollection (s : State) (l : Line) (event : Option LineEvent) : State :=
  if (s.line l).dial.collection.active then
    let s := (s.modDial l fun d => { d with collection := .inactive, firstDeadline := none, endDeadline := none }).discardPulses l
    let s := s.giveUpReceiver l
    match event with
    | some b => s.raise l b
    | none => s
  else s.giveUpReceiver l

/-- The receiver step at arming (R54). -/
def State.receiverStep (s : State) (l : Line) : State :=
  match (s.working l).dialModes with
  | .pulse => s
  | .tone => s.requestReceiver l
  | .both => s.requestReceiver l

/-- Arming collection (R53). -/
def State.armCollection (s : State) (l : Line) : State :=
  let deadline := s.deadlineIn (s.working l).firstDigitTimeout
  let s := if (s.line l).dial.collection.active then s.discardPulses l else s
  let s := s.modDial l fun d =>
    { d with buffer := [], truncated := false, mode := .undetermined, collection := .waitFirst,
             firstDeadline := some deadline, endDeadline := none }
  s.receiverStep l

/-- The off-hook notice: collection is armed where the working autoCollect is on (R51). -/
def State.offHookNotice (s : State) (l : Line) : State :=
  if (s.working l).autoCollect then s.armCollection l else s

/-- Whether the dial mode allows a digit's method (R55). -/
def DialMode.allows : DialMode → Method → Bool
  | .undetermined, _ => true
  | .pulse, .pulse => true
  | .pulse, .tone => false
  | .tone, .tone => true
  | .tone, .pulse => false

/-- The first digit fixes the dial mode: PULSE gives up the receiver or wait place (R56), TONE discards the pulse count
(R57). -/
def State.fixMode (s : State) (l : Line) (m : Method) : State :=
  match (s.line l).dial.mode, m with
  | .undetermined, .pulse => (s.modDial l fun d => { d with mode := .pulse }).giveUpReceiver l
  | .undetermined, .tone => (s.modDial l fun d => { d with mode := .tone }).discardPulses l
  | .pulse, _ => s
  | .tone, _ => s

/-- A full buffer: the arrival is discarded, truncated becomes yes and collection ends with DIALLING_END (FULL) (R60). -/
def State.bufferFull (s : State) (l : Line) : State :=
  (s.modDial l fun d => { d with truncated := true }).endCollection l (some (.diallingEnd .full))

/-- A digit is taken (R55). -/
def State.takeDigit (s : State) (l : Line) (k : Key) (m : Method) : State :=
  let s := s.fixMode l m
  let s := s.modDial l fun d => { d with buffer := d.buffer ++ [.digit k m] }
  let s := s.raise l (.digit k m)
  let deadline := s.deadlineIn (s.working l).endTimeout
  s.modDial l fun d => { d with collection := .collecting, firstDeadline := none, endDeadline := some deadline }

/-- A digit arrives at the collector: discarded where collection is INACTIVE or the mode does not allow its method (R58),
otherwise handled under R60 at a full buffer and taken under R55 elsewhere (log entry 12). -/
def State.collectDigit (s : State) (l : Line) (k : Key) (m : Method) : State :=
  let d := (s.line l).dial
  if d.collection.active && d.mode.allows m then
    if d.buffer.length < Config.bufferCap then s.takeDigit l k m else s.bufferFull l
  else s

/-- A flash arrives at the collector (R59). -/
def State.collectFlash (s : State) (l : Line) : State :=
  let d := (s.line l).dial
  if d.buffer.length < Config.bufferCap then
    match d.collection with
    | .inactive => s
    | .waitFirst =>
      s.modDial l fun d => { d with buffer := d.buffer ++ [.flash], firstDeadline := some (s.deadlineIn (s.working l).firstDigitTimeout) }
    | .collecting =>
      s.modDial l fun d => { d with buffer := d.buffer ++ [.flash], endDeadline := some (s.deadlineIn (s.working l).endTimeout) }
  else if d.collection.active then s.bufferFull l
  else s

/-- The expiry of the first-digit timer at its deadline, in WAIT_FIRST (R61). -/
def State.firstDigitExpiry (s : State) (l : Line) : State :=
  if (s.line l).dial.collection = .waitFirst ∧ (s.line l).dial.firstDeadline = some s.partTime then
    s.endCollection l (some .firstDigitTimeout)
  else s

/-- The expiry of the end-of-dialling timer at its deadline, in COLLECTING (R62). -/
def State.endDiallingExpiry (s : State) (l : Line) : State :=
  if (s.line l).dial.collection = .collecting ∧ (s.line l).dial.endDeadline = some s.partTime then
    s.endCollection l (some (.diallingEnd .timeout))
  else s

/-- FIRST_DIGIT_TIMEOUT. -/
def execFirstDigitTimeout (now : Time) (l : Line) (s : State) : Host.Outcome State Fault Refusal :=
  .next (s.arrive now fun s => s.firstDigitExpiry l)

/-- END_DIALLING_TIMER_EXPIRY. -/
def execEndDiallingTimerExpiry (now : Time) (l : Line) (s : State) : Host.Outcome State Fault Refusal :=
  .next (s.arrive now fun s => s.endDiallingExpiry l)

end Sys2Proof.Machine
end

