-- ==== Sys2Proof/Machine/Supervisor.lean ====
section
/-! DEFINITION. Applying working parameters (R146, R147), entering LEARNING (R11), and the Fault Supervisor's verdicts,
quarantine entry and quarantine clearance (R125 to R129). -/

namespace Sys2Proof.Machine

/-! ## Working parameters and sample periods -/

/-- A profile record of the table (R140). -/
def State.profile (s : State) (p : ProfNo) : Profile := s.profiles.get p

/-- The LSU's part of an application: the baseline is lowered to the new clamp, and in LEARNING and IDLE the thresholds are
recomputed (R9). -/
def Lsu.apply (u : Lsu) (state : HookState) (p : Profile) : Lsu :=
  let u := { u with baseline := min u.baseline (baselineMax p.leakMax) }
  match state with
  | .learning => u.rethreshold p
  | .idle => u.rethreshold p
  | .outOfService => u
  | .seizing => u
  | .offHook => u
  | .onBreak => u
  | .quarantined => u

/-- An application of the record of the line's profile number (R146). -/
def State.applyProfile (s : State) (l : Line) : State :=
  let p := s.profile (s.line l).prof.number
  (s.modProf l fun r => { r with working := p }).modLsu l fun u => u.apply (s.line l).hook.state p

/-- A pending profile is honoured: the flag becomes no, the application is made, PROFILE_APPLIED is raised (R147). -/
def State.honourProfile (s : State) (l : Line) : State :=
  if (s.line l).hook.pendingProfile then
    ((s.modHook l fun h => { h with pendingProfile := false }).applyProfile l).raise l .profileApplied
  else s

/-- The line's sample period follows its hook state and the mode, from now on (R2, R3). -/
def State.reperiodLine (s : State) (l : Line) : State :=
  s.modLsu l fun u => u.reperiod (s.line l).hook.state s.battery.mode s.partTime

/-- The thresholds of a line are recomputed by R8. -/
def State.rethresholdLine (s : State) (l : Line) : State := s.modLsu l fun u => u.rethreshold (s.working l)

/-- The call records of a line are cleared: no run, break or make start, pulse count 0. -/
def HookRec.clearCall (h : HookRec) : HookRec :=
  { h with runStart := none, breakStart := none, makeStart := none, pulseCount := 0 }

/-- A line enters LEARNING (R11, R45, R47). -/
def State.enterLearning (s : State) (l : Line) : State :=
  let s := s.modHook l fun h => { h.clearCall with state := .learning, pendingQuarantine := false, pendingProfile := false }
  let s := s.modLsu l fun u =>
    { u with learningEnd := some (laterBy s.partTime Config.learningMs), leakClamp := none, leakReported := false }
  (s.rethresholdLine l).reperiodLine l

/-! ## Sticky faults and verdicts -/

/-- Kinds join the sticky set, and FAULT names those that have just joined, if any (R126). -/
def State.joinSticky (s : State) (l : Line) (kinds : FaultSet) : State :=
  let new := kinds &&& ~~~(s.line l).fault.sticky
  let s := s.modFault l fun f => { f with sticky := f.sticky ||| kinds }
  if new = 0#6 then s else s.raise l (.fault new)

/-- FV is judged from whichever of DCV and ACV were run (R125). -/
def judgeFv (v : TestValues) (p : Profile) : Bool :=
  (match v.dcv with
    | some (tip, ring) => p.fvDcLimit < tip.natAbs || p.fvDcLimit < ring.natAbs
    | none => false) ||
  (match v.acv with
    | some a => p.fvAcLimit < a
    | none => false)

/-- Whether a value was measured and lies below a limit. -/
def judgeBelow (v : Option Nat) (limit : Nat) : Bool :=
  match v with
  | some x => x < limit
  | none => false

/-- The verdict of a DONE test against the line's working limits (R125). -/
def verdictOf (v : TestValues) (p : Profile) : FaultSet :=
  (if judgeFv v p then FaultSet.fv else 0#6) |||
  (if judgeBelow v.irt p.irLimit then FaultSet.lt else 0#6) |||
  (if judgeBelow v.irr p.irLimit then FaultSet.lr else 0#6) |||
  (if judgeBelow v.rtr p.lowLoopLimit then FaultSet.ll else 0#6)

/-! ## Quarantine -/

/-- The Hook Logic's part of a quarantine entry (R43), with the learning period given up (R13), the leak clamp cleared (R17)
and the QUARANTINED period set (R3). -/
def State.isolate (s : State) (l : Line) : State :=
  let s := s.modHook l fun h => { h.clearCall with state := .quarantined, pendingQuarantine := false }
  let s := s.modLsu l fun u => { u with learningEnd := none, leakClamp := none, leakReported := false }
  s.reperiodLine l

/-- The retest due is set afresh from the working retestInterval (R129, R130). -/
def State.setRetestDue (s : State) (l : Line) : State :=
  s.modFault l fun f => { f with retestDue := some (s.deadlineIn (s.working l).retestInterval) }

/-- A line enters QUARANTINED, in the five steps of R129. -/
def State.enterQuarantine (s : State) (l : Line) : State :=
  let s := (s.isolate l).raise l .quarantined
  let s := (s.endCollection l none).honourProfile l
  (s.modFault l fun f => { f with clearCount := 0 }).setRetestDue l

/-- A line leaves QUARANTINED for LEARNING (R128 steps 1 and 2, R135). -/
def State.leaveQuarantine (s : State) (l : Line) : State :=
  (s.modFault l fun f => { f with retestDue := none, clearCount := 0 }).enterLearning l

/-- A verdict on a QUARANTINED line is counted toward its clearance (R128). -/
def State.countVerdict (s : State) (l : Line) (v : FaultSet) : State :=
  if v = 0#6 then
    if (s.working l).clearCount ≤ (s.line l).fault.clearCount + 1 then (s.leaveQuarantine l).raise l .faultCleared
    else s.modFault l fun f => { f with clearCount := f.clearCount + 1 }
  else s.modFault l fun f => { f with clearCount := 0 }

/-- A verdict on a line that is not QUARANTINED (R127). -/
def State.actOnVerdict (s : State) (l : Line) (v : FaultSet) : State :=
  if v = 0#6 || !(s.working l).quarantineOnFault then s
  else
    match (s.line l).hook.state with
    | .learning => s.enterQuarantine l
    | .idle => s.enterQuarantine l
    | .seizing => s.modHook l fun h => { h with pendingQuarantine := true }
    | .offHook => s.modHook l fun h => { h with pendingQuarantine := true }
    | .onBreak => s.modHook l fun h => { h with pendingQuarantine := true }
    | .outOfService => s
    | .quarantined => s

/-- The Fault Supervisor takes a verdict: the kinds join the sticky set, and the verdict is acted on by the line's hook
state at that moment (R126 to R128). -/
def State.takeVerdict (s : State) (l : Line) (v : FaultSet) : State :=
  let s := s.joinSticky l v
  match (s.line l).hook.state with
  | .quarantined => s.countVerdict l v
  | .outOfService => s.actOnVerdict l v
  | .learning => s.actOnVerdict l v
  | .idle => s.actOnVerdict l v
  | .seizing => s.actOnVerdict l v
  | .offHook => s.actOnVerdict l v
  | .onBreak => s.actOnVerdict l v

end Sys2Proof.Machine
end

