-- ==== Sys2Proof/Machine/TestEngine.lean ====
section
/-! DEFINITION. The Line Test Engine: steps, the test bus, the request queue, the choice of work, results, the sweep,
suspension and resumption (R98 to R120), with the meanings of its three events. -/

namespace Sys2Proof.Machine

/-! ## Steps (R98) -/

/-- The duration of a step in ms. -/
def Step.durationMs : Step → Nat
  | .dcv => 40
  | .acv => 100
  | .irt => 200
  | .irr => 200
  | .rtr => 60

/-- The five steps in their running order. -/
def allSteps : List Step := [.dcv, .acv, .irt, .irr, .rtr]

/-- The first requested step, in the running order. -/
def StepSet.first (s : StepSet) : Option Step := allSteps.find? fun p => s.has p

/-- The first requested step after `p`, in the running order. -/
def StepSet.after (s : StepSet) (p : Step) : Option Step := allSteps.find? fun q => p.bit < q.bit && s.has q

/-- The value a step records, each number limited at the ends of its range (R98). -/
def TestValues.record (v : TestValues) (p : Step) (first second : Int) : TestValues :=
  match p with
  | .dcv => { v with dcv := some (clampInt (-250) 250 first, clampInt (-250) 250 second) }
  | .acv => { v with acv := some (clampInt 0 250 first).toNat }
  | .irt => { v with irt := some (clampInt 0 9999 first).toNat }
  | .irr => { v with irr := some (clampInt 0 9999 first).toNat }
  | .rtr => { v with rtr := some (clampInt 0 19999 first).toNat }

/-- The steps that have a value (R179). -/
def TestValues.steps (v : TestValues) : StepSet :=
  (if v.dcv.isSome then 0b00001#5 else 0#5) ||| (if v.acv.isSome then 0b00010#5 else 0#5) |||
  (if v.irt.isSome then 0b00100#5 else 0#5) ||| (if v.irr.isSome then 0b01000#5 else 0#5) |||
  (if v.rtr.isSome then 0b10000#5 else 0#5)

/-! ## The test bus (R99, R100) -/

/-- A line is connected: relay closed, on-test-bus flag set, settle end cleared, connection notice to the pool (R99, R18,
R79). -/
def State.connect (s : State) (l : Line) : State :=
  ((s.modTest l fun t => { t with onTestBus := true, relayClosed := true }).modLsu l fun u => { u with settleEnd := none }).holdReceiver l

/-- A line is disconnected: relay released, flag cleared, and the settle window begins (R99, R19). -/
def State.disconnect (s : State) (l : Line) : State :=
  (s.modTest l fun t => { t with onTestBus := false, relayClosed := false }).modLsu l fun u =>
    { u with settleEnd := some (laterBy s.partTime Config.settleWindowMs) }

/-- A test begins or resumes on its line: the context becomes the running test in its settle period, and the line is
connected (R99, R100). -/
def State.beginTest (s : State) (c : TestCtx) (state : EngineState) : State :=
  (s.modEngine fun e =>
    { e with state := state, running := some { c with phase := some (.settle, laterBy s.partTime Config.settlePeriodMs) } }).connect c.line

/-- The next requested step begins on the same connection (R100). -/
def State.beginStep (s : State) (c : TestCtx) (p : Step) : State :=
  s.modEngine fun e =>
    { e with running := some { c with next := c.steps.after p, phase := some (.measure p, laterBy s.partTime p.durationMs) } }

/-! ## The sweep timer (R111) -/

/-- The length of the sweep interval in ms. -/
def Engine.intervalMs (e : Engine) : Nat := 1000 * e.sweepInterval

/-- The sweep timer is started, if the sweep is enabled (R111). -/
def Engine.startTimer (e : Engine) (now : Time) : Engine :=
  if e.sweepEnabled then { e with sweepTimer := .running (laterBy now e.intervalMs) } else { e with sweepTimer := .stopped }

/-- While the engine is SUSPENDED, the timer is left with a full remaining time, if the sweep is enabled (R111). -/
def Engine.fullRemaining (e : Engine) : Engine :=
  if e.sweepEnabled then { e with sweepTimer := .remaining e.intervalMs } else { e with sweepTimer := .stopped }

/-- At suspension the timer stops and its remaining time is kept (R111). -/
def Engine.pauseTimer (e : Engine) (now : Time) : Engine :=
  match e.sweepTimer with
  | .running d => { e with sweepTimer := .remaining (elapsed d now) }
  | .stopped => e
  | .remaining _ => e

/-- When RESUME_TESTS is accepted the timer runs on with its remaining time, while the sweep is enabled, no sweep test is
held and the sweep is not due (R111, R120). -/
def Engine.resumeTimer (e : Engine) (now : Time) : Engine :=
  match e.sweepTimer with
  | .remaining ms =>
    if e.sweepEnabled && e.heldSweep.isNone && !e.sweepDue then { e with sweepTimer := .running (laterBy now ms) } else e
  | .stopped => e
  | .running _ => e

/-- The entry to SUSPENDED: suspend-pending becomes no and the sweep timer stops (R118). -/
def State.enterSuspended (s : State) : State :=
  s.modEngine fun e => { e.pauseTimer s.partTime with state := .suspended, suspendPending := false }

/-! ## The request queue (R101 to R104) -/

/-- Whether a line has an entry in the queue (R101). -/
def Engine.queued (e : Engine) (l : Line) : Bool := e.queue.any fun q => q.line == l

/-- A queue with an AUTO entry placed after the last AUTO entry (R101). -/
def placeAutoEntry (q : List TestReq) (r : TestReq) : List TestReq := insertAfterLast (fun x => x.auto) r q

/-- An AUTO full request is filed, without the engine's taking it (R103). -/
def State.placeAuto (s : State) (l : Line) : State :=
  if s.engine.state = .suspended then s
  else
    match s.engine.queue.find? fun q => q.line == l with
    | some q =>
      if q.auto then
        s.modEngine fun e =>
          { e with queue := e.queue.map fun x => if x.line = l then { x with steps := x.steps ||| StepSet.full } else x }
      else
        s.modEngine fun e =>
          { e with queue := placeAutoEntry (e.queue.filter fun x => x.line != l) { q with auto := true, steps := StepSet.full } }
    | none =>
      if Config.testQueueCap ≤ s.engine.queue.length then s.modFault l fun f => { f with owed := true }
      else s.modEngine fun e => { e with queue := placeAutoEntry e.queue ⟨l, StepSet.full, true, false, false⟩ }

/-- The lowest-numbered line whose owed-test flag is yes (R104). -/
def State.lowestOwed (s : State) : Option Line := allLines.find? fun l => (s.line l).fault.owed

/-- The lowest-numbered owed line, if any, has its flag set to no and its AUTO full request filed (R104). -/
def State.fileOwed (s : State) : State :=
  match s.lowestOwed with
  | some l => (s.modFault l fun f => { f with owed := false }).placeAuto l
  | none => s

/-- An entry has left the queue: unless the engine is SUSPENDED, one owed line is served in the freed place (R104). -/
def State.serveOwed (s : State) : State := if s.engine.state = .suspended then s else s.fileOwed

/-! ## The choice of work (R106, R107, R112, R114) -/

/-- Whether a line is eligible for a test: not busy, or the test is forced (R107). -/
def State.eligible (s : State) (l : Line) (force : Bool) : Bool := force || !(s.line l).hook.state.busy

/-- The context of a test that begins (R107, R112). -/
def newContext (l : Line) (o : Origin) (steps : StepSet) (hostReport force : Bool) : TestCtx :=
  ⟨l, o, steps, TestValues.empty, steps.first, none, hostReport, force, false, false⟩

/-- An eligible entry becomes the running test (R107). -/
def State.runEntry (s : State) (q : TestReq) : State :=
  s.beginTest (newContext q.line (if q.auto then .auto else .host) q.steps q.hostReport q.force) .running

/-- TEST_DROPPED is raised for a dropped test whose host-report is yes (R107, R120). -/
def State.dropTest (s : State) (l : Line) (hostReport : Bool) : State := if hostReport then s.raise l .testDropped else s

/-- A held sweep whose line is still IDLE resumes with a new settle period (R114). -/
def State.resumeSweep (s : State) (c : SweepCtx) : State :=
  (s.modEngine fun e => { e with heldSweep := none }).beginTest
    ⟨c.line, .sweep, c.steps, c.values, c.next, none, false, false, false, false⟩ .stepping

/-- A due sweep starts: the cursor advances, and the line at it is tested if IDLE, otherwise skipped (R112). -/
def State.startSweep (s : State) : State :=
  let l := s.engine.cursor + 1
  let s := s.modEngine fun e => { e with sweepDue := false, cursor := l }
  if (s.line l).hook.state = .idle then s.beginTest (newContext l .sweep s.engine.sweepSteps false false) .stepping
  else s.modEngine fun e => { e.startTimer s.partTime with state := .idle }

/-- The engine chooses its next work with no phase in flight (R106). Each turn but the last takes an entry from the queue or
the held sweep away, so `fuel` of `chooseFuel` is never used up. -/
def State.chooseLoop : Nat → State → State
  | 0, s => s.modEngine fun e => { e with state := .idle }
  | fuel + 1, s =>
    if s.engine.suspendPending then s.enterSuspended
    else
      match s.engine.queue with
      | q :: rest =>
        let s := (s.modEngine fun e => { e with queue := rest }).serveOwed
        if s.eligible q.line q.force then s.runEntry q else State.chooseLoop fuel (s.dropTest q.line q.hostReport)
      | [] =>
        match s.engine.heldSweep with
        | some c =>
          if (s.line c.line).hook.state = .idle then s.resumeSweep c
          else State.chooseLoop fuel (s.modEngine fun e => { e with heldSweep := none }.startTimer s.partTime)
        | none =>
          if s.engine.sweepDue then s.startSweep else s.modEngine fun e => { e with state := .idle }

/-- Enough turns for `chooseLoop`: the entries that stand, the 32 lines that may be owed, a held sweep and the end. -/
def State.chooseFuel (s : State) : Nat := s.engine.queue.length + 34

/-- The engine's choice of work (R106). -/
def State.chooseWork (s : State) : State := State.chooseLoop s.chooseFuel s

/-- An AUTO full request is filed, and an IDLE engine takes it at once (R103). -/
def State.fileAuto (s : State) (l : Line) : State :=
  let s' := s.placeAuto l
  if s'.engine.state = .idle then s'.chooseWork else s'

/-! ## The end of a test (R109) -/

/-- The result record of a context (R109). -/
def TestCtx.result (c : TestCtx) (completion : Completion) (verdict : Option FaultSet) : ResultRec :=
  ⟨c.line, c.origin, c.steps, c.values, completion, verdict⟩

/-- A record replaces any older one for its line in the last-result table (R109, R110). -/
def State.storeResult (s : State) (r : ResultRec) : State := s.modTest r.line fun t => { t with lastResult := some r }

/-- A test ends DONE: verdict, record, TEST_DONE if host-report is yes (R109 steps 2 to 5). -/
def State.finishDone (s : State) (c : TestCtx) : State :=
  let v := verdictOf c.values (s.working c.line)
  let r := c.result .done (some v)
  let s := (s.takeVerdict c.line v).storeResult r
  if c.hostReport then s.raise c.line (.testDone r) else s

/-- A test ends ABORTED: record without a verdict, TEST_ABORTED (R109 steps 2 to 5). -/
def State.finishAborted (s : State) (c : TestCtx) : State :=
  let r := c.result .aborted none
  (s.storeResult r).raise c.line (.testAborted r)

/-- A test ends ABANDONED: record without a verdict, TEST_ABORTED if host-report or abort-requested is yes (R109 steps 2 to
5). -/
def State.finishAbandoned (s : State) (c : TestCtx) : State :=
  let r := c.result .abandoned none
  let s := s.storeResult r
  if c.hostReport || c.abortRequested then s.raise c.line (.testAborted r) else s

/-- The running-test context is emptied, and for a sweep test the sweep timer restarts (R109 step 6). -/
def State.clearRunning (s : State) (c : TestCtx) : State :=
  s.modEngine fun e =>
    if c.origin = .sweep then { e.startTimer s.partTime with running := none } else { e with running := none }

/-- The phase in flight is abandoned on a power cross: the test ends ABANDONED and the engine becomes SUSPENDED at once; a
sweep test leaves the sweep timer with a full remaining time (R118). -/
def State.abandon (s : State) (c : TestCtx) : State :=
  let s := (s.disconnect c.line).finishAbandoned c
  let s := s.modEngine fun e => { e with running := none }
  let s := s.enterSuspended
  if c.origin = .sweep then s.modEngine fun e => e.fullRemaining else s

/-! ## Suspension (R116, R118, R137) -/

/-- The last step of a test completes at `now`, with a verdict to form, and no power cross waits behind it. -/
def TestCtx.lastStepDue (c : TestCtx) (now : Time) : Bool :=
  match c.phase with
  | some (.measure _, d) => d == now && c.next.isNone && !c.abortRequested && !c.crossed
  | some (.settle, _) => false
  | none => false

/-- Suspension requested after a power cross on the line of the phase in flight, which is abandoned at once (R118).  Where that phase
is the last step and completes at this very instant, the engine may take its completion before the request (R116), so that the verdict
reaches the Fault Supervisor after the power cross (R137, last row): the free value `Config.completionFirst` draws the order
(log entry 22). -/
def State.crossInFlight (s : State) (c : TestCtx) : State :=
  if c.lastStepDue s.partTime then
    let t := { s with freeCount := s.freeCount + 1 }
    if Config.completionFirst s.freeCount then t.modEngine fun e => { e with running := some { c with crossed := true } }
    else t.abandon c
  else s.abandon c

/-- Suspension requested with a phase in flight: on the power-cross line, or on another, where it sets suspend-pending (R118). -/
def State.suspendInFlight (s : State) (l : Line) : State :=
  match s.engine.running with
  | some c => if c.line = l then s.crossInFlight c else s.modEngine fun e => { e with suspendPending := true }
  | none => s.modEngine fun e => { e with suspendPending := true }

/-- Suspension is requested after a power cross on a line (R118). -/
def State.requestSuspension (s : State) (l : Line) : State :=
  match s.engine.state with
  | .suspended => s
  | .idle => s.enterSuspended
  | .running => s.suspendInFlight l
  | .stepping => s.suspendInFlight l

/-- A suspension request that waits behind the completion of a test follows it (R116; log entry 22). -/
def State.afterCross (s : State) (c : TestCtx) : State := if c.crossed then s.requestSuspension c.line else s

/-- A test on the bus completes DONE (R109). -/
def State.endDone (s : State) (c : TestCtx) : State :=
  (((s.disconnect c.line).finishDone c).clearRunning c).chooseWork.afterCross c

/-- A test on the bus ends ABORTED (R109, R117). -/
def State.endAborted (s : State) (c : TestCtx) : State :=
  (((s.disconnect c.line).finishAborted c).clearRunning c).chooseWork.afterCross c

/-! ## The completion of a phase (R108, R113) -/

/-- A phase of a queued test completes; `c` holds the value of a completed step (R108). -/
def State.runningPhaseDone (s : State) (c : TestCtx) : State :=
  if c.abortRequested then s.endAborted c
  else
    match c.next with
    | some p =>
      if s.engine.suspendPending then
        ((s.disconnect c.line).modEngine fun e => { e with running := some { c with phase := none } }).enterSuspended
      else s.beginStep c p
    | none => s.endDone c

/-- A sweep test yields the bus: its context moves to the held-sweep context (R113). -/
def State.holdSweep (s : State) (c : TestCtx) : State :=
  (s.disconnect c.line).modEngine fun e =>
    { e with running := none, heldSweep := some ⟨c.line, c.steps, c.values, c.next⟩ }

/-- A phase of a sweep test completes; `wasStep` says that the phase was a step (R113). -/
def State.steppingPhaseDone (s : State) (c : TestCtx) (wasStep : Bool) : State :=
  if c.abortRequested then s.endAborted c
  else
    match c.next with
    | none => s.endDone c
    | some p =>
      if s.engine.suspendPending then (s.holdSweep c).enterSuspended
      else if wasStep && !s.engine.queue.isEmpty then (s.holdSweep c).chooseWork
      else s.beginStep c p

/-- A phase completes, by the engine's state (R108, R113). -/
def State.phaseDone (s : State) (c : TestCtx) (wasStep : Bool) : State :=
  match s.engine.state with
  | .running => s.runningPhaseDone c
  | .stepping => s.steppingPhaseDone c wasStep
  | .idle => s
  | .suspended => s

/-- The completion of a settle period, at its completion time (R100). -/
def State.settleDone (s : State) : State :=
  match s.engine.running with
  | some c => if c.phase = some (.settle, s.partTime) then s.phaseDone c false else s
  | none => s

/-- The completion of a step, at its completion time, with the measurement presented (R98, R108, R113). -/
def State.stepDone (s : State) (first second : Int) : State :=
  match s.engine.running with
  | some c =>
    match c.phase with
    | some (.measure p, d) =>
      if d = s.partTime then s.phaseDone { c with values := c.values.record p first second } true else s
    | some (.settle, _) => s
    | none => s
  | none => s

/-! ## Abort and resumption (R117, R120) -/

/-- ABORT_TEST on the test in flight, which is marked, or on the test held by suspension, which ends ABORTED at once
(R117). -/
def State.abortRunning (s : State) (l : Line) : State × Bool :=
  match s.engine.running with
  | some c =>
    if c.line = l then
      if c.phase.isSome then (s.modEngine fun e => { e with running := some { c with abortRequested := true } }, true)
      else ((s.finishAborted c).modEngine fun e => { e with running := none }, true)
    else (s, false)
  | none => (s, false)

/-- ABORT_TEST on the line's queue entry, which is removed, an owed line being served in its place (R117, R104). -/
def State.abortQueued (s : State) (l : Line) : State × Bool :=
  if s.engine.queued l then
    ((s.modEngine fun e => { e with queue := e.queue.filter fun q => q.line != l }).serveOwed, true)
  else (s, false)

/-- ABORT_TEST on the held sweep, which is emptied; the sweep timer restarts, or takes a remaining time while the engine is
SUSPENDED (R117, R111). -/
def State.abortHeldSweep (s : State) (l : Line) : State × Bool :=
  match s.engine.heldSweep with
  | some c =>
    if c.line = l then
      (s.modEngine fun e =>
        if e.state = .suspended then { e.fullRemaining with heldSweep := none }
        else { e.startTimer s.partTime with heldSweep := none }, true)
    else (s, false)
  | none => (s, false)

/-- ABORT_TEST takes every action of R117's table that applies, and says whether one did. -/
def State.abortTests (s : State) (l : Line) : State × Bool :=
  let a := s.abortRunning l
  let b := a.1.abortQueued l
  let c := b.1.abortHeldSweep l
  (c.1, a.2 || b.2 || c.2)

/-- While the queue holds fewer than 8 entries, owed lines are filed, lowest-numbered first; 32 turns serve them all (R120
step 2). -/
def State.fileOwedLoop : Nat → State → State
  | 0, s => s
  | n + 1, s =>
    if s.engine.queue.length < Config.testQueueCap && s.lowestOwed.isSome then State.fileOwedLoop n s.fileOwed else s

/-- A held test resumes if its line is eligible, and is dropped otherwise (R120 step 3); with no test running the engine
chooses its work (R120 step 4). -/
def State.resumeHeld (s : State) : State :=
  match s.engine.running with
  | some c =>
    if s.eligible c.line c.force then s.beginTest c .running
    else ((s.dropTest c.line c.hostReport).modEngine fun e => { e with running := none }).chooseWork
  | none => s.chooseWork

/-- An accepted RESUME_TESTS, in the four steps of R120. -/
def State.resumeTesting (s : State) : State :=
  let s := s.modEngine fun e => { e.resumeTimer s.partTime with state := .idle }
  (State.fileOwedLoop 32 s).resumeHeld

/-- The expiry of the sweep timer at its deadline: the sweep becomes due, and an IDLE engine chooses its work (R111). -/
def State.sweepExpiry (s : State) : State :=
  if s.engine.sweepTimer = .running s.partTime then
    let s := s.modEngine fun e => { e with sweepTimer := .stopped, sweepDue := true }
    if s.engine.state = .idle then s.chooseWork else s
  else s

/-- SWEEP_TIMER_EXPIRY. -/
def execSweepTimerExpiry (now : Time) (s : State) : Host.Outcome State Fault Refusal :=
  .next (s.arrive now State.sweepExpiry)

/-- SETTLE_PERIOD_COMPLETION. -/
def execSettlePeriodCompletion (now : Time) (s : State) : Host.Outcome State Fault Refusal :=
  .next (s.arrive now State.settleDone)

/-- STEP_COMPLETION. -/
def execStepCompletion (now : Time) (first second : Int) (s : State) : Host.Outcome State Fault Refusal :=
  .next (s.arrive now fun s => s.stepDone first second)

end Sys2Proof.Machine
end

