-- ==== Sys2Proof/Machine/Alarms.lean ====
section
/-! DEFINITION. What the Fault Supervisor does with the LSU's reports and with its retest timer (R130 to R133), with the
meaning of RETEST_TIMER_EXPIRY. -/

namespace Sys2Proof.Machine

/-- A power cross is reported on a line (R131, R132): PX joins the sticky set, POWER_CROSS is raised, the line is quarantined
at once, or has its clear count set to 0 if it is quarantined already, and suspension is requested.  A verdict of the line's test
that is taken at the same instant may still follow (R137; log entry 22). -/
def State.powerCross (s : State) (l : Line) : State :=
  match (s.line l).hook.state with
  | .outOfService => s
  | .quarantined =>
    (((s.joinSticky l FaultSet.px).raise l .powerCross).modFault l fun f => { f with clearCount := 0 }).requestSuspension l
  | .learning => (((s.joinSticky l FaultSet.px).raise l .powerCross).enterQuarantine l).requestSuspension l
  | .idle => (((s.joinSticky l FaultSet.px).raise l .powerCross).enterQuarantine l).requestSuspension l
  | .seizing => (((s.joinSticky l FaultSet.px).raise l .powerCross).enterQuarantine l).requestSuspension l
  | .offHook => (((s.joinSticky l FaultSet.px).raise l .powerCross).enterQuarantine l).requestSuspension l
  | .onBreak => (((s.joinSticky l FaultSet.px).raise l .powerCross).enterQuarantine l).requestSuspension l

/-- Leakage suspicion is reported on a line (R133): LK joins the sticky set, LEAKAGE is raised, an AUTO full test is filed. -/
def State.leakageSuspicion (s : State) (l : Line) : State :=
  ((s.joinSticky l FaultSet.lk).raise l .leakage).fileAuto l

/-- The retest due of a line is reached (R130): an AUTO full test is filed unless the line is OV-active or the engine is
SUSPENDED, and in every case the retest due is set afresh. -/
def State.retestExpiry (s : State) (l : Line) : State :=
  if (s.line l).hook.state = .quarantined ∧ (s.line l).fault.retestDue = some s.partTime then
    (if (s.line l).lsu.ovActive ∨ s.engine.state = .suspended then s else s.fileAuto l).setRetestDue l
  else s

/-- RETEST_TIMER_EXPIRY. -/
def execRetestTimerExpiry (now : Time) (l : Line) (s : State) : Host.Outcome State Fault Refusal :=
  .next (s.arrive now fun s => s.retestExpiry l)

end Sys2Proof.Machine
end

