-- ==== Sys2Proof/Machine/Hook.lean ====
section
/-! DEFINITION. The Hook Logic: from rest to off-hook, makes and breaks, pulse digits, flashes and release, and the
restart of timings after a test (R26 to R42). -/

namespace Sys2Proof.Machine

/-- The elapsed time from an optional start to now; an absent start has none elapsed. -/
def State.since (s : State) (start : Option Time) : Nat :=
  match start with
  | some t => elapsed s.partTime t
  | none => 0

/-- The steps that finish a return to IDLE (R31). -/
def State.returnToIdle (s : State) (l : Line) : State :=
  let s := (s.rethresholdLine l).reperiodLine l
  if (s.line l).hook.pendingQuarantine then
    (s.modHook l fun h => { h with pendingQuarantine := false }).enterQuarantine l
  else s.honourProfile l

/-- The seize of an IDLE line (R28), with the leak clamp cleared (R17). -/
def State.seize (s : State) (l : Line) : State :=
  let s := s.modHook l fun h => { h with state := .seizing, runStart := some s.partTime }
  let s := s.modLsu l fun u => { u with leakClamp := none, leakReported := false }
  s.reperiodLine l

/-- The off-hook declaration (R29). -/
def State.declareOffHook (s : State) (l : Line) : State :=
  let s := s.modHook l fun h => { h with state := .offHook, runStart := none, makeStart := none, pulseCount := 0 }
  (s.raise l .offHook).offHookNotice l

/-- A usable sample of a SEIZING line (R29, R30). -/
def State.seizingSample (s : State) (l : Line) (i : Nat) : State :=
  if (s.line l).lsu.tSeize ≤ i then
    if (s.working l).seizeTime ≤ s.since (s.line l).hook.runStart then s.declareOffHook l else s
  else (s.modHook l fun h => { h with state := .idle, runStart := none }).returnToIdle l

/-- The digit that a pulse count stands for: 1 to 9, 10 for 0, none for 11 (R34). -/
def pulseKey (n : Nat) : Option Key :=
  if n = 10 then some 0 else if h : 0 < n ∧ n < 10 then some ⟨n, by omega⟩ else none

/-- The closure of the pulse digit in progress (R34): the count becomes 0, the digit goes to the Digit Collector, or
DIGIT_ERROR is raised. -/
def State.closeDigit (s : State) (l : Line) : State :=
  let n := (s.line l).hook.pulseCount
  let s := s.discardPulses l
  match pulseKey n with
  | some k => s.collectDigit l k .pulse
  | none => s.raise l .digitError

/-- A closure is made where a digit is in progress and `due` holds. -/
def State.closeIf (s : State) (l : Line) (due : Bool) : State :=
  if 0 < (s.line l).hook.pulseCount && due then s.closeDigit l else s

/-- A usable sample of an OFF_HOOK line: the interdigit check, then the break check (R32). -/
def State.offHookSample (s : State) (l : Line) (i : Nat) : State :=
  let h := (s.line l).hook
  let s := s.closeIf l (h.makeStart.isSome && (s.working l).interdigit ≤ s.since h.makeStart)
  if i < (s.line l).lsu.tRel then s.modHook l fun h => { h with state := .onBreak, breakStart := some s.partTime } else s

/-- Whether a pulse break is counted (R36). -/
def State.countsPulses (s : State) (l : Line) : Bool :=
  (s.line l).dial.collection.active && (s.working l).dialModes != .tone && (s.line l).dial.mode != .tone

/-- A pulse break is counted, up to 11 (R36), and the make start is set (R35). -/
def State.pulseBreak (s : State) (l : Line) : State :=
  s.modHook l fun h =>
    { h with makeStart := some s.partTime, pulseCount := if s.countsPulses l then min 11 (h.pulseCount + 1) else h.pulseCount }

/-- The make start is set to this sample's time (R35). -/
def State.markMake (s : State) (l : Line) : State := s.modHook l fun h => { h with makeStart := some s.partTime }

/-- The classification of a break of length `len` at its make (R35). -/
def State.classifyBreak (s : State) (l : Line) (len : Nat) : State :=
  let p := s.working l
  if len < p.hitMax then s
  else if len ≤ p.pulseMax then s.pulseBreak l
  else if len < p.flashMin then s.markMake l
  else ((s.markMake l).raise l .flash).collectFlash l

/-- A make (R35): any closure that R34 calls for, the return to OFF_HOOK, and the classification. -/
def State.make (s : State) (l : Line) (len : Nat) : State :=
  let s := s.closeIf l ((s.working l).pulseMax < len)
  let s := s.modHook l fun h => { h with state := .offHook, breakStart := none }
  s.classifyBreak l len

/-- Release (R38). -/
def State.release (s : State) (l : Line) (len : Nat) : State :=
  let s := s.closeIf l ((s.working l).pulseMax < len)
  let s := (s.raise l .onHook).endCollection l none
  (s.modHook l fun h => { h with state := .idle, breakStart := none, makeStart := none, pulseCount := 0 }).returnToIdle l

/-- A usable sample of a BREAK line: release, make or continued break, the first that applies (R33). -/
def State.breakSample (s : State) (l : Line) (i : Nat) : State :=
  let len := s.since (s.line l).hook.breakStart
  if (s.working l).releaseMin ≤ len then s.release l len
  else if (s.line l).lsu.tSeize ≤ i then s.make l len
  else s.closeIf l ((s.working l).pulseMax ≤ len)

/-- At the first usable sample after a test the starts in progress are restarted at this sample (R42). -/
def HookRec.restart (h : HookRec) (now : Time) : HookRec :=
  match h.state with
  | .seizing => { h with runStart := some now }
  | .offHook => { h with makeStart := h.makeStart.map fun _ => now }
  | .onBreak => { h with breakStart := some now, makeStart := h.makeStart.map fun _ => now }
  | .outOfService => h
  | .learning => h
  | .idle => h
  | .quarantined => h

end Sys2Proof.Machine
end

