-- ==== Sys2Proof/Machine/LineSense.lean ====
section
/-! DEFINITION. The Line Sense Unit's path of one sample: due check, OV evaluation, setting aside, dispatch by hook state,
learning, resting updates and the leak clamp (R1, R4, R6, R12 to R21), with the meaning of SAMPLE_RECORD. -/

namespace Sys2Proof.Machine

/-- A baseline update with current `i` and shift `sh`, followed by the threshold computation (R6, R10). -/
def Lsu.update (u : Lsu) (p : Profile) (i sh : Nat) : Lsu :=
  { u with baseline := updatedBaseline u.baseline i sh p.leakMax }.rethreshold p

/-- The three ways in which a resting update judges the leak clamp, without the alarm check (R15). -/
def Lsu.judgeClamp (u : Lsu) (p : Profile) (pressed : Bool) (now : Time) : Lsu :=
  if pressed then
    match u.leakClamp with
    | none => if u.leakReported then u else { u with leakClamp := some ⟨now, 1000 * p.leakAlarmTime⟩ }
    | some _ => u
  else { u with leakClamp := none, leakReported := false }

/-- Whether a resting update presses the clamp (R15). -/
def Lsu.presses (u : Lsu) (p : Profile) (i : Nat) : Bool := u.baseline == baselineMax p.leakMax && p.leakMax < i

/-- Whether a running leak clamp has reached its captured alarm limit (R16). -/
def Lsu.alarmDue (u : Lsu) (now : Time) : Bool :=
  match u.leakClamp with
  | some c => c.limit ≤ elapsed now c.start
  | none => false

/-- A resting sample below T_seize: update, thresholds, leak clamp; a clamp held for its alarm limit is reported (R14 to
R16). -/
def State.restingUpdate (s : State) (l : Line) (i : Nat) : State :=
  let p := s.working l
  let u := (s.line l).lsu.update p i p.trackShift
  if u.presses p i && u.alarmDue s.partTime then
    (s.modLsu l fun _ => { u with leakClamp := none, leakReported := true }).leakageSuspicion l
  else s.modLsu l fun _ => u.judgeClamp p (u.presses p i) s.partTime

/-- A resting sample (R14). -/
def State.restingSample (s : State) (l : Line) (i : Nat) : State :=
  if (s.line l).lsu.tSeize ≤ i then s.seize l else s.restingUpdate l i

/-- The end of learning (R12, R27): IDLE, no starts, pulse count 0. -/
def State.endLearning (s : State) (l : Line) : State :=
  ((s.modHook l fun h => { h.clearCall with state := .idle }).modLsu l fun u => { u with learningEnd := none }).reperiodLine l

/-- Whether a sample now is earlier than the optional end of a window of `span` ms; an absent window has passed. -/
def State.isBefore (s : State) (span : Nat) (limit : Option Time) : Bool :=
  match limit with
  | some t => earlier span s.partTime t
  | none => false

/-- A learning sample (R12). -/
def State.learningSample (s : State) (l : Line) (i : Nat) : State :=
  if s.isBefore Config.learningMs (s.line l).lsu.learningEnd then s.modLsu l fun u => u.update (s.working l) i 2
  else (s.endLearning l).restingSample l i

/-- Stage 4 of R4: dispatch by hook state. -/
def State.dispatchSample (s : State) (l : Line) (i : Nat) : State :=
  match (s.line l).hook.state with
  | .learning => s.learningSample l i
  | .idle => s.restingSample l i
  | .seizing => s.seizingSample l i
  | .offHook => s.offHookSample l i
  | .onBreak => s.breakSample l i
  | .quarantined => s
  | .outOfService => s

/-- The end of the settle window at the first usable sample: the settle end becomes absent, timings restart and a held
receiver resumes (R19, R42, R80). -/
def State.endWindow (s : State) (l : Line) : State :=
  ((s.modLsu l fun u => { u with settleEnd := none }).modHook l fun h => h.restart s.partTime).resumeReceiver l

/-- Stages 3 and 4 of R4: set aside on the test bus or inside the settle window, otherwise usable. -/
def State.usableSample (s : State) (l : Line) (i : Nat) : State :=
  if (s.line l).test.onTestBus || s.isBefore Config.settleWindowMs (s.line l).lsu.settleEnd then s
  else if (s.line l).lsu.settleEnd.isSome then (s.endWindow l).dispatchSample l i
  else s.dispatchSample l i

/-- Stage 1 of R4: the record becomes the last sample, and the next sample time moves to the next boundary of the line's
period (R1, R2). -/
def State.recordSample (s : State) (l : Line) (i : Nat) (ov : Bool) : State :=
  s.modLsu l fun u => { u with lastSample := some ⟨i, ov, s.partTime⟩, nextSample := u.period.nextAfter s.partTime }

/-- A sample record is taken (R4): stage 1, then OV evaluation, where a completed run is reported and the sample goes no
further, then stages 3 and 4. -/
def State.takeSample (s : State) (l : Line) (i : Nat) (ov : Bool) : State :=
  let s := s.recordSample l i ov
  let (u, cross) := (s.line l).lsu.evalOv ov
  let s := s.modLsu l fun _ => u
  if cross then s.powerCross l else s.usableSample l i

/-- A sample record of a line at the present boundary: it is taken if the line's next sample time is this boundary, and no
record is taken otherwise (R1).  The current is limited to full scale, 1200 cu. -/
def State.sample (s : State) (l : Line) (i : Nat) (ov : Bool) : State :=
  if (s.line l).lsu.nextSample = some s.partTime then s.takeSample l (min i 1200) ov else s

/-- SAMPLE_RECORD. -/
def execSampleRecord (now : Time) (l : Line) (current : Nat) (ov : Bool) (s : State) : Host.Outcome State Fault Refusal :=
  .next (s.arrive now fun s => s.sample l current ov)

end Sys2Proof.Machine
end

