-- ==== Sys2Proof/Machine/Battery.lean ====
section
/-! DEFINITION. The Battery Monitor: readings, the scan mode and its way to the sample periods (R152 to R155), with the meaning
of BATTERY_READING. -/

namespace Sys2Proof.Machine

/-- Every line's sample period follows the effective scan mode, from now on (R3, R154). -/
def State.reperiodAll (s : State) : State :=
  s.modEveryLsu fun r => r.lsu.reperiod r.hook.state s.battery.mode s.partTime

/-- The effective scan mode is derived afresh; a mode other than the one in force replaces it, SCAN_MODE is raised, and the
sample periods follow (R154). -/
def State.deriveMode (s : State) : State :=
  let m := scanModeOf s.battery.setting s.battery.state
  if m = s.battery.mode then s
  else ({ s with battery := { s.battery with mode := m } }.reperiodAll).raiseDevice (.scanMode m)

/-- A battery reading, taken at every positive multiple of 1000 ms, is stored and judged; a change of state raises BATTERY and
then derives the mode (R152 to R154).  A magnitude at or beyond 80 V reads 80. -/
def State.readBattery (s : State) (volts : Nat) : State :=
  if s.partTime.toNat % 1000 = 0 ∧ s.partTime ≠ 0#32 then
    let v := min volts 80
    let b := judgedState s.battery.state s.battery.index v
    let changed := decide (b ≠ s.battery.state)
    let s := { s with battery := { s.battery with reading := some v, state := b } }
    if changed then (s.raiseDevice (.battery v b)).deriveMode else s
  else s

/-- BATTERY_READING. -/
def execBatteryReading (now : Time) (volts : Nat) (s : State) : Host.Outcome State Fault Refusal :=
  .next (s.arrive now fun s => s.readBattery volts)

end Sys2Proof.Machine
end

