-- ==== Sys2Proof/Machine/Operands.lean ====
section
/-! DEFINITION. The operand forms of command bodies: numbers judged against their ranges, choices, sets, and the 23 fields of a
profile record (R171, R172, R140). An operand outside its set is `none`, which its command answers with BAD_ARGUMENT. -/

namespace Sys2Proof.Machine

/-! ## Numbers and choices -/

/-- A line number, 0 to 31. -/
def lineOf (b : Byte) : Option Line := if h : b.toNat < 32 then some ⟨b.toNat, h⟩ else none

/-- A profile number, 0 to 7. -/
def profileOf (b : Byte) : Option ProfNo := if h : b.toNat < 8 then some ⟨b.toNat, h⟩ else none

/-- A timeslot, 0 to 63. -/
def timeslotOf (b : Byte) : Option Timeslot := if h : b.toNat < 64 then some ⟨b.toNat, h⟩ else none

/-- A choice of 0 no or 1 yes (R172). -/
def choiceOf (b : Byte) : Option Bool := if b = 0#8 then some false else if b = 1#8 then some true else none

/-- A scan setting: 0 NORMAL, 1 ECONOMY, 2 AUTO (R172). -/
def settingOf (b : Byte) : Option ScanSetting :=
  if b = 0#8 then some .normal else if b = 1#8 then some .economy else if b = 2#8 then some .auto else none

/-- A class: 0 PRIORITY, 1 NORMAL (R172). -/
def classOf (b : Byte) : Option EventClass := if b = 0#8 then some .priority else if b = 1#8 then some .normal else none

/-- A step set, with no member outside bits 0 to 4 (R171, R178). -/
def stepSetOf (b : Byte) : Option StepSet := if b.toNat < 32 then some (b.setWidth 5) else none

/-- A fault set, with no member outside bits 0 to 5 (R171, R178). -/
def faultSetOf (b : Byte) : Option FaultSet := if b.toNat < 64 then some (b.setWidth 6) else none

/-! ## Clamped fields (R171) -/

/-- A clamped-field set: bit i stands for the field at position i. -/
def clampedBits : Nat → List Bool → Nat
  | _, [] => 0
  | i, b :: rest => (if b then 2 ^ i else 0) + clampedBits (i + 1) rest

/-- The three bytes of a clamped-field set, bit 0 the least significant bit of the last (R171, R178). -/
def clampedSet (changed : List Bool) : List Byte :=
  let n := clampedBits 0 changed
  [BitVec.ofNat 8 (n / 65536), BitVec.ofNat 8 (n / 256), BitVec.ofNat 8 n]

/-! ## Profile records (R140, R142) -/

/-- What a field of a profile record admits: a range of numbers, or a number of values. -/
inductive FieldRule where
  | range (lo hi : Nat)
  | choice (values : Nat)
  deriving DecidableEq, Repr

/-- The 23 fields of a profile record in the order of R140. -/
def profileRules : List FieldRule :=
  [.range 10 200, .range 5 100, .range 4 10, .range 0 200, .range 1 600, .range 10 200, .range 4 40, .range 40 150,
   .range 60 600, .range 200 2000, .range 100 800, .range 1 60, .range 1 30, .choice 3, .choice 2, .choice 2, .choice 2,
   .range 10 600, .range 1 10, .range 1 100, .range 1 100, .range 10 5000, .range 100 10000]

/-- Whether a value of a choice field is in its set; a number is never refused for its value (R142 step 2). -/
def FieldRule.admits : FieldRule → Nat → Bool
  | .range _ _, _ => true
  | .choice n, v => v < n

/-- A number clamped to its range; a choice as it is (R142 step 3). -/
def FieldRule.clamp : FieldRule → Nat → Nat
  | .range lo hi, v => clampNat lo hi v
  | .choice _, v => v

/-- The dialModes value of a code (R172). -/
def dialModesOf (n : Nat) : DialModes := if n = 0 then .pulse else if n = 1 then .tone else .both

/-- The code of a dialModes value (R172). -/
def DialModes.code : DialModes → Nat
  | .pulse => 0
  | .tone => 1
  | .both => 2

/-- The record of 23 field values in the order of R140; on is 1, PRIORITY is 1 (R172, log entry 4). -/
def Profile.ofFields (v : List Nat) : Profile where
  seizeMargin := v.getD 0 0
  hysteresis := v.getD 1 0
  trackShift := v.getD 2 0
  leakMax := v.getD 3 0
  leakAlarmTime := v.getD 4 0
  seizeTime := v.getD 5 0
  hitMax := v.getD 6 0
  pulseMax := v.getD 7 0
  flashMin := v.getD 8 0
  releaseMin := v.getD 9 0
  interdigit := v.getD 10 0
  firstDigitTimeout := v.getD 11 0
  endTimeout := v.getD 12 0
  dialModes := dialModesOf (v.getD 13 0)
  autoCollect := v.getD 14 0 == 1
  receiverPriority := v.getD 15 0 == 1
  quarantineOnFault := v.getD 16 0 == 1
  retestInterval := v.getD 17 0
  clearCount := v.getD 18 0
  fvDcLimit := v.getD 19 0
  fvAcLimit := v.getD 20 0
  irLimit := v.getD 21 0
  lowLoopLimit := v.getD 22 0

/-- The 23 field values of a record in the order of R140. -/
def Profile.toFields (p : Profile) : List Nat :=
  [p.seizeMargin, p.hysteresis, p.trackShift, p.leakMax, p.leakAlarmTime, p.seizeTime, p.hitMax, p.pulseMax, p.flashMin,
   p.releaseMin, p.interdigit, p.firstDigitTimeout, p.endTimeout, p.dialModes.code, p.autoCollect.toNat,
   p.receiverPriority.toNat, p.quarantineOnFault.toNat, p.retestInterval, p.clearCount, p.fvDcLimit, p.fvAcLimit, p.irLimit,
   p.lowLoopLimit]

/-- A list of field values judged by SET_PROFILE (R142): a refusal, or the record with the clamped fields. -/
def judgeProfile (v : List Nat) : Except Status (Profile × List Bool) :=
  if v.length ≠ 23 then .error .badLength
  else if (profileRules.zip v).all fun (r, x) => r.admits x then
    let clamped := (profileRules.zip v).map fun (r, x) => r.clamp x
    let p := Profile.ofFields clamped
    if p.ordered then .ok (p, (clamped.zip v).map fun (c, x) => c != x) else .error .badOrder
  else .error .badArgument

/-! ## Tone parameters (R95) -/

/-- The ranges of the seven tone parameters, decibels in steps of 0.5 dB (R95). -/
def toneRanges : List (Int × Int) := [(-80, -40), (0, 20), (0, 24), (6, 24), (12, 40), (2, 8), (1, 4)]

/-- The seven values of a SET_TONE_PARAMS body: signed counts of 0.5 dB, then two unsigned counts (R172). -/
def toneValues (v : List Byte) : List Int := (v.take 5).map BitVec.toInt ++ (v.drop 5).map fun b => (b.toNat : Int)

/-- The seven values clamped to their ranges (R95). -/
def clampTone (v : List Int) : List Int := (toneRanges.zip v).map fun (r, x) => clampInt r.1 r.2 x

/-- The tone parameter set of seven values in the order of R95. -/
def ToneParams.ofList (v : List Int) : ToneParams where
  levelFloor := v.getD 0 0
  fwdTwist := v.getD 1 0
  revTwist := v.getD 2 0
  groupMargin := v.getD 3 0
  purityMargin := v.getD 4 0
  minBlocks := (v.getD 5 0).toNat
  pauseBlocks := (v.getD 6 0).toNat

end Sys2Proof.Machine
end

