-- ==== Sys2Proof/Machine/Layouts.lean ====
section
/-! DEFINITION. The byte layouts of replies, events and frames, the frame check, and the bits of a byte on the wire (R166, R168,
R173, R175 to R181). -/

namespace Sys2Proof.Machine

/-! ## Fields -/

/-- A number as one byte. -/
def byteOf (n : Nat) : Byte := BitVec.ofNat 8 n

/-- A 16-bit word as two bytes, high byte first (R172). -/
def wordBytes (w : BitVec 16) : List Byte := [w.extractLsb' 8 8, w.extractLsb' 0 8]

/-- A number as two bytes, high byte first. -/
def bytes16 (n : Nat) : List Byte := wordBytes (BitVec.ofNat 16 n)

/-- A signed number as two bytes, high byte first (R172, R179), in two's complement: R179 says only that the volts are signed
(DEDUCED, log entry 21). -/
def bytesSigned (n : Int) : List Byte := wordBytes (BitVec.ofInt 16 n)

/-- A flag: 0 no, 1 yes (R181). -/
def flagByte (b : Bool) : Byte := if b then 1#8 else 0#8

/-! ## Codes (R171, R177, R179 to R181) -/

/-- The code of a status (R171). -/
def Status.code : Status → Byte
  | .ok => 0#8
  | .clamped => 1#8
  | .unknown => 2#8
  | .badLength => 3#8
  | .badArgument => 4#8
  | .badOrder => 5#8
  | .lineIdle => 6#8
  | .lineBusy => 7#8
  | .suspended => 8#8
  | .queueFull => 9#8
  | .notFound => 10#8
  | .notSuspended => 11#8
  | .stillAlarmed => 12#8
  | .slotInUse => 13#8
  | .notQuarantined => 14#8
  | .frameError => 15#8
  | .busy => 16#8

/-- The code of a hook state (R181). -/
def HookState.code : HookState → Byte
  | .outOfService => 0#8
  | .learning => 1#8
  | .idle => 2#8
  | .seizing => 3#8
  | .offHook => 4#8
  | .onBreak => 5#8
  | .quarantined => 6#8

/-- The code of a service (R181). -/
def Service.code : Service → Byte
  | .serviceOut => 0#8
  | .serviceIn => 1#8

/-- The code of a collection state (R181). -/
def Collection.code : Collection → Byte
  | .inactive => 0#8
  | .waitFirst => 1#8
  | .collecting => 2#8

/-- The code of a dial mode (R181). -/
def DialMode.code : DialMode → Byte
  | .undetermined => 0#8
  | .pulse => 1#8
  | .tone => 2#8

/-- The code of a method (R177). -/
def Method.code : Method → Byte
  | .pulse => 1#8
  | .tone => 2#8

/-- The code of a reset cause (R177). -/
def ResetCause.code : ResetCause → Byte
  | .power => 0#8
  | .pin => 1#8
  | .command => 2#8

/-- The code of a scan mode (R177, R180). -/
def ScanMode.code : ScanMode → Byte
  | .normal => 0#8
  | .economy => 1#8

/-- The code of a battery state (R177, R180). -/
def BatteryState.code : BatteryState → Byte
  | .normal => 0#8
  | .low => 1#8

/-- The code of an engine state (R180). -/
def EngineState.code : EngineState → Byte
  | .idle => 0#8
  | .running => 1#8
  | .stepping => 2#8
  | .suspended => 3#8

/-- The code of a queue or class (R172, R177). -/
def EventClass.code : EventClass → Byte
  | .priority => 0#8
  | .normal => 1#8

/-- The code of an origin (R179). -/
def Origin.code : Origin → Byte
  | .host => 0#8
  | .auto => 1#8
  | .sweep => 2#8

/-- The code of a completion (R179). -/
def Completion.code : Completion → Byte
  | .done => 0#8
  | .aborted => 1#8
  | .abandoned => 2#8

/-- The code of a DIALLING_END reason (R177). -/
def EndReason.code : EndReason → Byte
  | .timeout => 0#8
  | .full => 1#8

/-- A buffer entry as its symbol and method bytes; F is symbol 16 with method 0 (R177). -/
def Entry.bytes : Entry → List Byte
  | .digit k m => [byteOf k.val, m.code]
  | .flash => [16#8, 0#8]

/-! ## Reply data and bodies -/

/-- The test-result body, 18 bytes (R179). -/
def ResultRec.bytes (r : ResultRec) : List Byte :=
  [byteOf r.line.val, r.origin.code, r.steps.setWidth 8, r.values.steps.setWidth 8, r.completion.code,
   match r.verdict with
   | some v => v.setWidth 8
   | none => 0xFF#8] ++
  bytesSigned ((r.values.dcv.map fun d => d.1).getD 0) ++ bytesSigned ((r.values.dcv.map fun d => d.2).getD 0) ++
  bytes16 (r.values.acv.getD 0) ++ bytes16 (r.values.irt.getD 0) ++ bytes16 (r.values.irr.getD 0) ++ bytes16 (r.values.rtr.getD 0)

/-- The line of the test held by suspension, or else of the held sweep (R121): a running-test context with no phase in
flight is held. -/
def Engine.heldLine (e : Engine) : Option Line :=
  match e.running with
  | some c => if c.phase.isNone then some c.line else e.heldSweep.map fun h => h.line
  | none => e.heldSweep.map fun h => h.line

/-- The device-status body, 12 bytes (R180). -/
def State.deviceStatusBytes (s : State) : List Byte :=
  [s.battery.mode.code, (s.battery.reading.map byteOf).getD 0xFF#8, s.battery.state.code, s.engine.state.code,
   byteOf s.engine.queue.length, (s.engine.heldLine.map fun l => byteOf l.val).getD 0xFF#8, byteOf s.freeCountRx,
   byteOf s.pool.waitQueue.length, byteOf s.reporter.prio.length, flagByte s.reporter.prioOverflow,
   byteOf s.reporter.norm.length, flagByte s.reporter.normOverflow]

/-- The last-sample part of the line-status body: present, current, OV, timestamp (R181). -/
def sampleBytes (v : Option Sample) : List Byte :=
  match v with
  | some x => [1#8] ++ bytes16 x.current ++ [flagByte x.ov] ++ wordBytes (x.time.setWidth 16)
  | none => [0#8, 0#8, 0#8, 0#8, 0#8, 0#8]

/-- The test flags: on bus bit 0, queued bit 1, owed bit 2 (R181). -/
def State.testFlags (s : State) (l : Line) : Byte :=
  byteOf ((s.line l).test.onTestBus.toNat + 2 * (s.engine.queued l).toNat + 4 * (s.line l).fault.owed.toNat)

/-- The line-status body, 30 bytes (R181). -/
def State.lineStatusBytes (s : State) (l : Line) : List Byte :=
  let r := s.line l
  [byteOf l.val, r.hook.state.code, r.hook.service.code, byteOf r.prof.number.val, flagByte r.hook.pendingProfile,
   byteOf (wholeCu r.lsu.baseline)] ++ bytes16 (r.lsu.baseline % 4096) ++ bytes16 r.lsu.tSeize ++ bytes16 r.lsu.tRel ++
  sampleBytes r.lsu.lastSample ++
  [r.dial.collection.code, r.dial.mode.code, byteOf r.dial.buffer.length,
   (r.pool.receiver.map fun x => byteOf x.val).getD 0xFF#8, byteOf (waitPosition s.pool.waitQueue l), s.testFlags l,
   r.fault.sticky.setWidth 8, flagByte r.hook.pendingQuarantine, byteOf r.fault.clearCount, flagByte r.lsu.ovActive] ++
  wordBytes r.rep.latched

/-- The READ_DIGITS data: count, truncated, and the entries oldest first (R66, R172). -/
def DialRec.bytes (d : DialRec) : List Byte :=
  [byteOf d.buffer.length, flagByte d.truncated] ++ d.buffer.flatMap Entry.bytes

/-- The GET_PROFILE data: the profile number and its 23 fields (R144, R172). -/
def State.profileBytes (s : State) (p : ProfNo) : List Byte := byteOf p.val :: (s.profile p).toFields.flatMap bytes16

/-- The IDENTIFY data (R173). -/
def State.identityBytes (s : State) : List Byte :=
  wordBytes Config.partCode ++ [Config.revision, 32#8, 8#8, 8#8, s.link.resetCause.code]

/-! ## Event bodies (R177) -/

/-- The own body of a line kind (R177). -/
def LineEvent.bytes : LineEvent → List Byte
  | .digit k m => [byteOf k.val, m.code]
  | .diallingEnd r => [r.code]
  | .testDone r => r.bytes
  | .testAborted r => r.bytes
  | .testDropped => [0#8]
  | .fault k => [k.setWidth 8]
  | .offHook => []
  | .onHook => []
  | .flash => []
  | .digitError => []
  | .firstDigitTimeout => []
  | .leakage => []
  | .powerCross => []
  | .quarantined => []
  | .faultCleared => []
  | .profileApplied => []

/-- The own body of a device kind (R177). -/
def DeviceEvent.bytes : DeviceEvent → List Byte
  | .start c => [c.code, Config.revision]
  | .battery v b => [byteOf v, b.code]
  | .scanMode m => [m.code]
  | .overflow q => [q.code]

/-- The event code of a device kind (R177). -/
def DeviceEvent.code : DeviceEvent → Byte
  | .start _ => 17#8
  | .battery _ _ => 18#8
  | .scanMode _ => 19#8
  | .overflow _ => 20#8

/-- An event body: code, line, timestamp, own body (R177). -/
def Event.bytes : Event → List Byte
  | .line l t b => [byteOf (b.kind.val + 1), byteOf l.val] ++ wordBytes t ++ b.bytes
  | .device t b => [b.code, 0xFF#8] ++ wordBytes t ++ b.bytes

/-! ## Frames (R166, R168, R175, R176) -/

/-- One bit of the frame check: the register moves on by a bit of the message under x^16 + x^12 + x^5 + 1 (R168). -/
def crcBit (reg : BitVec 16) (b : Bool) : BitVec 16 :=
  if (reg.getLsbD 15 ^^ b) then (reg <<< 1) ^^^ 0x1021#16 else reg <<< 1

/-- A byte fed into the check, most significant bit first (R168). -/
def crcByte (reg : BitVec 16) (b : Byte) : BitVec 16 :=
  [7, 6, 5, 4, 3, 2, 1, 0].foldl (fun r i => crcBit r (b.getLsbD i)) reg

/-- The check over a list of bytes, from a register of all ones (R168). -/
def crc (bytes : List Byte) : BitVec 16 := bytes.foldl crcByte 0xFFFF#16

/-- A whole frame: start byte, length, kind, body, check (R175). -/
def frameBytes (kind : Byte) (body : List Byte) : List Byte :=
  let covered := byteOf (body.length + 1) :: kind :: body
  Config.startByte :: covered ++ wordBytes (crc covered)

/-- A reply body: answered kind, status, data (R176). -/
def Reply.bytes (r : Reply) : List Byte := r.kind :: r.status.code :: r.data

/-- The bytes that the transmitter sends for a frame: a reply of kind 0x80, the BUSY reply answering kind 0, or an event of kind
0x40 (R171, R175 to R177). -/
def TxFrame.bytes : TxFrame → List Byte
  | .reply r => frameBytes 0x80#8 r.bytes
  | .busy => frameBytes 0x80#8 (Reply.bytes ⟨0#8, .busy, []⟩)
  | .event e => frameBytes 0x40#8 e.bytes

/-- The bits of a byte on the wire: a start bit, 8 data bits least significant first, a stop bit (R166). -/
def wireBits (b : Byte) : List Bool := false :: (List.range 8).map b.getLsbD ++ [true]

end Sys2Proof.Machine
end

