-- ==== Sys2Proof/Machine/Commands.lean ====
section
/-! DEFINITION. The command catalogue (R172): for each command its effect and its reply, `run…`, and its meaning as the arrival
of a good frame, `exec…`.  A refused command changes nothing and carries no data (R171, R172). -/

namespace Sys2Proof.Machine

/-- A refusal: the state as it stood, and a reply without data (R171). -/
def State.refuse (s : State) (kind : Byte) (status : Status) : State × Reply := (s, ⟨kind, status, []⟩)

/-- An acceptance: the new state, OK, and the reply data (R172). -/
def State.accept (s : State) (kind : Byte) (data : List Byte) : State × Reply := (s, ⟨kind, .ok, data⟩)

/-- An acceptance with clamped fields: CLAMPED with the clamped-field set where any was clamped, OK otherwise (R171). -/
def State.acceptClamped (s : State) (kind : Byte) (changed : List Bool) : State × Reply :=
  if changed.any id then (s, ⟨kind, .clamped, clampedSet changed⟩) else (s, ⟨kind, .ok, []⟩)

/-- A command that names a line: BAD_ARGUMENT for a line outside 0 to 31 (R171). -/
def State.onLine (s : State) (kind line : Byte) (f : Line → State × Reply) : State × Reply :=
  match lineOf line with
  | some l => f l
  | none => s.refuse kind .badArgument

/-! ## Status queries (R173) -/

/-- IDENTIFY (R173). -/
def runIdentify (s : State) : State × Reply := s.accept 0x01#8 s.identityBytes

/-- DEVICE_STATUS (R173). -/
def runDeviceStatus (s : State) : State × Reply := s.accept 0x02#8 s.deviceStatusBytes

/-- LINE_STATUS: the body, and then the latched set is emptied (R173, R160). -/
def runLineStatus (line : Byte) (s : State) : State × Reply :=
  s.onLine 0x03#8 line fun l =>
    ((s.modRep l fun r => { r with latched := 0#16 }), ⟨0x03#8, .ok, s.lineStatusBytes l⟩)

/-! ## Profiles (R142 to R145) -/

/-- What a profile change does to a line that uses the record: applied at once on a line that is not busy, staged on a busy
one (R143, R145). -/
def State.takeUpProfile (s : State) (l : Line) : State :=
  if (s.line l).hook.state.busy then s.modHook l fun h => { h with pendingProfile := true } else s.applyProfile l

/-- An accepted SET_PROFILE replaces the record and acts on every line whose profile number is the one named (R143). -/
def State.writeProfile (s : State) (p : ProfNo) (v : Profile) : State :=
  allLines.foldl (fun s l => if (s.line l).prof.number = p then s.takeUpProfile l else s)
    { s with profiles := s.profiles.set p.val v p.isLt }

/-- SET_PROFILE (R142, R143). -/
def runSetProfile (profile : Byte) (fields : List (BitVec 16)) (s : State) : State × Reply :=
  if fields.length ≠ 23 then s.refuse 0x04#8 .badLength
  else
    match profileOf profile with
    | none => s.refuse 0x04#8 .badArgument
    | some p =>
      match judgeProfile (fields.map BitVec.toNat) with
      | .error e => s.refuse 0x04#8 e
      | .ok (v, changed) => (s.writeProfile p v).acceptClamped 0x04#8 changed

/-- GET_PROFILE (R144). -/
def runGetProfile (profile : Byte) (s : State) : State × Reply :=
  match profileOf profile with
  | some p => s.accept 0x05#8 (s.profileBytes p)
  | none => s.refuse 0x05#8 .badArgument

/-- The effect of SET_LINE_PROFILE (R145): nothing for a busy line that has the number already. -/
def State.assignProfile (s : State) (l : Line) (p : ProfNo) : State :=
  if (s.line l).hook.state.busy && (s.line l).prof.number == p then s
  else (s.modProf l fun r => { r with number := p }).takeUpProfile l

/-- SET_LINE_PROFILE (R145). -/
def runSetLineProfile (line profile : Byte) (s : State) : State × Reply :=
  s.onLine 0x06#8 line fun l =>
    match profileOf profile with
    | some p => (s.assignProfile l p).accept 0x06#8 []
    | none => s.refuse 0x06#8 .badArgument

/-! ## Service (R46, R47) -/

/-- The LSU's part of a line's going out of service: no period, the OV run count 0 and the OV-active flag no, the leak clamp
and the learning period cleared (R3, R13, R17, R22, R46). -/
def Lsu.outOfService (u : Lsu) : Lsu :=
  { u with period := .notSampled, nextSample := none, ovRun := 0, ovActive := false, learningEnd := none, leakClamp := none,
           leakReported := false }

/-- SET_SERVICE OUT on a line in service, in the five steps of R46. -/
def State.takeOut (s : State) (l : Line) : State :=
  let quarantined := decide ((s.line l).hook.state = .quarantined)
  let s := s.modHook l fun h => { h.clearCall with service := .serviceOut, state := .outOfService, pendingQuarantine := false }
  let s := (s.modLsu l Lsu.outOfService).endCollection l none
  let s := if quarantined then s.modFault l fun f => { f with retestDue := none, clearCount := 0 } else s
  s.honourProfile l

/-- SET_SERVICE OUT (R46). -/
def runSetServiceOut (line : Byte) (s : State) : State × Reply :=
  s.onLine 0x07#8 line fun l =>
    (if (s.line l).hook.state = .outOfService then s else s.takeOut l).accept 0x07#8 []

/-- SET_SERVICE IN (R47): an out-of-service line enters LEARNING; a line in service is left as it is. -/
def runSetServiceIn (line : Byte) (s : State) : State × Reply :=
  s.onLine 0x07#8 line fun l =>
    (if (s.line l).hook.state = .outOfService then (s.modHook l fun h => { h with service := .serviceIn }).enterLearning l
      else s).accept 0x07#8 []

/-! ## Timeslots, masks, classes, tone parameters -/

/-- The effect of a new timeslot: the map entry changes, and a receiver the line holds is told (R71, R72, R79). -/
def State.moveSlot (s : State) (l : Line) (t : Timeslot) : State :=
  (s.modPoolLine l fun p => { p with slot := t }).markSlotChange l

/-- SET_TIMESLOT (R71). -/
def runSetTimeslot (line slot : Byte) (s : State) : State × Reply :=
  s.onLine 0x08#8 line fun l =>
    match timeslotOf slot with
    | none => s.refuse 0x08#8 .badArgument
    | some t =>
      if (s.line l).pool.slot = t then s.accept 0x08#8 []
      else if (s.slotHolder l t).isSome then s.refuse 0x08#8 .slotInUse
      else (s.moveSlot l t).accept 0x08#8 []

/-- SET_MASK (R161). -/
def runSetMask (line : Byte) (kinds : KindSet) (s : State) : State × Reply :=
  s.onLine 0x09#8 line fun l =>
    (s.modRep l fun r => { r with mask := kinds ||| powerCrossBit }).accept 0x09#8 (wordBytes (kinds ||| powerCrossBit))

/-- The class map that a SET_CLASS_MAP body gives, if it has the length, every class is in its set, and START and POWER_CROSS are
PRIORITY (R162). -/
def classMapOf (classes : List Byte) : Option (Vector EventClass 19) :=
  if classes.all (fun b => (classOf b).isSome) && classes.getD 16 0#8 == 0#8 && classes.getD 12 0#8 == 0#8 then
    some (Vector.ofFn fun i => (classOf (classes.getD i.val 0#8)).getD .priority)
  else none

/-- SET_CLASS_MAP (R162). -/
def runSetClassMap (classes : List Byte) (s : State) : State × Reply :=
  if classes.length ≠ 19 then s.refuse 0x0A#8 .badLength
  else
    match classMapOf classes with
    | some m => ({ s with reporter := { s.reporter with classMap := m } } : State).accept 0x0A#8 []
    | none => s.refuse 0x0A#8 .badArgument

/-- SET_TONE_PARAMS (R95). -/
def runSetToneParams (values : List Byte) (s : State) : State × Reply :=
  if values.length ≠ 7 then s.refuse 0x0B#8 .badLength
  else
    let v := toneValues values
    let c := clampTone v
    ({ s with tone := ToneParams.ofList c } : State).acceptClamped 0x0B#8 ((c.zip v).map fun (a, b) => a != b)

/-! ## Scan and sweep settings (R155, R115) -/

/-- The threshold index clamped to 0 to 7 (R155). -/
def indexOf (b : Byte) : Fin 8 := if h : b.toNat < 8 then ⟨b.toNat, h⟩ else 7

/-- The effect of an accepted SET_SCAN: index and setting are replaced, and a changed setting derives the mode (R155). -/
def State.setScan (s : State) (setting : ScanSetting) (index : Fin 8) : State :=
  let changed := decide (setting ≠ s.battery.setting)
  let s := { s with battery := { s.battery with setting := setting, index := index } }
  if changed then s.deriveMode else s

/-- SET_SCAN (R155). -/
def runSetScan (setting index : Byte) (s : State) : State × Reply :=
  match settingOf setting with
  | none => s.refuse 0x0C#8 .badArgument
  | some v => (s.setScan v (indexOf index)).acceptClamped 0x0C#8 [(indexOf index).val != index.toNat]

/-- The effect of an accepted SET_SWEEP on the engine (R115): the settings are replaced as a whole; enabling starts the timer
unless a sweep test is in flight or held, and leaves it a full remaining time while the engine is SUSPENDED (log entry 7);
disabling stops the timer and ends the due condition. -/
def Engine.setSweep (e : Engine) (enabled : Bool) (interval : Nat) (steps : StepSet) (now : Time) : Engine :=
  let was := e.sweepEnabled
  let busy := e.heldSweep.isSome || (match e.running with
    | some c => c.origin == .sweep
    | none => false)
  let e := { e with sweepEnabled := enabled, sweepInterval := interval, sweepSteps := steps }
  if enabled then
    if was || busy then e else if e.state = .suspended then e.fullRemaining else e.startTimer now
  else { e with sweepTimer := .stopped, sweepDue := false }

/-- SET_SWEEP (R115). -/
def runSetSweep (enabled interval steps : Byte) (s : State) : State × Reply :=
  match choiceOf enabled, stepSetOf steps with
  | some on, some set =>
    if set = 0#5 then s.refuse 0x0D#8 .badArgument
    else
      let v := clampNat 1 60 interval.toNat
      (s.modEngine fun e => e.setSweep on v set s.partTime).acceptClamped 0x0D#8 [v != interval.toNat]
  | _, _ => s.refuse 0x0D#8 .badArgument

/-! ## Collection (R52, R64, R66) -/

/-- COLLECT(on) (R52). -/
def runCollectOn (line : Byte) (s : State) : State × Reply :=
  s.onLine 0x0E#8 line fun l =>
    if (s.line l).hook.state = .offHook ∨ (s.line l).hook.state = .onBreak then (s.armCollection l).accept 0x0E#8 []
    else s.refuse 0x0E#8 .lineIdle

/-- COLLECT(off) (R64). -/
def runCollectOff (line : Byte) (s : State) : State × Reply :=
  s.onLine 0x0E#8 line fun l =>
    (if (s.line l).dial.collection.active then s.endCollection l none else s).accept 0x0E#8 []

/-- READ_DIGITS (R66): with clear yes the buffer and the flag are emptied once the reply has been built. -/
def runReadDigits (line clear : Byte) (s : State) : State × Reply :=
  s.onLine 0x0F#8 line fun l =>
    match choiceOf clear with
    | none => s.refuse 0x0F#8 .badArgument
    | some c =>
      (if c then s.modDial l fun d => { d with buffer := [], truncated := false } else s).accept 0x0F#8 (s.line l).dial.bytes

/-! ## Tests (R102, R110, R117, R120) -/

/-- A HOST request merged into the line's entry (R102). -/
def mergeHost (l : Line) (steps : StepSet) (force : Bool) (q : TestReq) : TestReq :=
  if q.line = l then { q with steps := q.steps ||| steps, hostReport := true, force := q.force || force } else q

/-- A HOST entry is placed at the end, and an IDLE engine takes it at once (R102). -/
def State.fileHost (s : State) (l : Line) (steps : StepSet) (force : Bool) : State :=
  let s' := s.modEngine fun e => { e with queue := e.queue ++ [⟨l, steps, false, true, force⟩] }
  if s'.engine.state = .idle then s'.chooseWork else s'

/-- TEST_LINE with its operands in their sets: the first case of R102's table that applies. -/
def State.requestTest (s : State) (l : Line) (steps : StepSet) (force : Bool) : State × Reply :=
  if s.engine.state = .suspended then s.refuse 0x10#8 .suspended
  else if (s.line l).hook.state.busy && !force then s.refuse 0x10#8 .lineBusy
  else if s.engine.queued l then
    (s.modEngine fun e => { e with queue := e.queue.map (mergeHost l steps force) }).accept 0x10#8 []
  else if Config.testQueueCap ≤ s.engine.queue.length then s.refuse 0x10#8 .queueFull
  else (s.fileHost l steps force).accept 0x10#8 []

/-- TEST_LINE (R102). -/
def runTestLine (line steps force : Byte) (s : State) : State × Reply :=
  s.onLine 0x10#8 line fun l =>
    match stepSetOf steps, choiceOf force with
    | some set, some f => if set = 0#5 then s.refuse 0x10#8 .badArgument else s.requestTest l set f
    | _, _ => s.refuse 0x10#8 .badArgument

/-- ABORT_TEST (R117). -/
def runAbortTest (line : Byte) (s : State) : State × Reply :=
  s.onLine 0x11#8 line fun l =>
    let r := s.abortTests l
    if r.2 then r.1.accept 0x11#8 [] else s.refuse 0x11#8 .notFound

/-- RESUME_TESTS (R120). -/
def runResumeTests (s : State) : State × Reply :=
  if s.engine.state ≠ .suspended then s.refuse 0x12#8 .notSuspended
  else if allLines.any fun l => (s.line l).lsu.ovActive then s.refuse 0x12#8 .stillAlarmed
  else s.resumeTesting.accept 0x12#8 []

/-- GET_RESULT (R110). -/
def runGetResult (line : Byte) (s : State) : State × Reply :=
  s.onLine 0x13#8 line fun l =>
    match (s.line l).test.lastResult with
    | some r => s.accept 0x13#8 r.bytes
    | none => s.refuse 0x13#8 .notFound

/-! ## Faults and reset (R134, R135, R174) -/

/-- ACK_FAULTS (R134). -/
def runAckFaults (line faults : Byte) (s : State) : State × Reply :=
  s.onLine 0x14#8 line fun l =>
    match faultSetOf faults with
    | none => s.refuse 0x14#8 .badArgument
    | some k =>
      let left := (s.line l).fault.sticky &&& ~~~k
      (s.modFault l fun f => { f with sticky := left }).accept 0x14#8 [left.setWidth 8]

/-- RELEASE_QUARANTINE (R135). -/
def runReleaseQuarantine (line : Byte) (s : State) : State × Reply :=
  s.onLine 0x15#8 line fun l =>
    if (s.line l).hook.state ≠ .quarantined then s.refuse 0x15#8 .notQuarantined
    else if (s.line l).lsu.ovActive then s.refuse 0x15#8 .stillAlarmed
    else (s.leaveQuarantine l).accept 0x15#8 []

/-- RESET: the command reset is requested (R174). -/
def runReset (s : State) : State × Reply := (s.modLink fun k => { k with resetRequested := true }).accept 0x16#8 []

/-! ## The meanings -/

/-- The arrival of a good frame at `now`, which `run` executes. -/
def State.command (s : State) (now : Time) (run : State → State × Reply) : Host.Outcome State Fault Refusal :=
  .next (s.arrive now fun s => s.goodFrame run)

/-- IDENTIFY. -/
def execIdentify (now : Time) (s : State) : Host.Outcome State Fault Refusal := s.command now runIdentify

/-- DEVICE_STATUS. -/
def execDeviceStatus (now : Time) (s : State) : Host.Outcome State Fault Refusal := s.command now runDeviceStatus

/-- LINE_STATUS. -/
def execLineStatus (now : Time) (line : Byte) (s : State) : Host.Outcome State Fault Refusal := s.command now (runLineStatus line)

/-- SET_PROFILE. -/
def execSetProfile (now : Time) (profile : Byte) (fields : List (BitVec 16)) (s : State) : Host.Outcome State Fault Refusal :=
  s.command now (runSetProfile profile fields)

/-- GET_PROFILE. -/
def execGetProfile (now : Time) (profile : Byte) (s : State) : Host.Outcome State Fault Refusal :=
  s.command now (runGetProfile profile)

/-- SET_LINE_PROFILE. -/
def execSetLineProfile (now : Time) (line profile : Byte) (s : State) : Host.Outcome State Fault Refusal :=
  s.command now (runSetLineProfile line profile)

/-- SET_SERVICE OUT. -/
def execSetServiceOut (now : Time) (line : Byte) (s : State) : Host.Outcome State Fault Refusal :=
  s.command now (runSetServiceOut line)

/-- SET_SERVICE IN. -/
def execSetServiceIn (now : Time) (line : Byte) (s : State) : Host.Outcome State Fault Refusal :=
  s.command now (runSetServiceIn line)

/-- SET_TIMESLOT. -/
def execSetTimeslot (now : Time) (line slot : Byte) (s : State) : Host.Outcome State Fault Refusal :=
  s.command now (runSetTimeslot line slot)

/-- SET_MASK. -/
def execSetMask (now : Time) (line : Byte) (kinds : KindSet) (s : State) : Host.Outcome State Fault Refusal :=
  s.command now (runSetMask line kinds)

/-- SET_CLASS_MAP. -/
def execSetClassMap (now : Time) (classes : List Byte) (s : State) : Host.Outcome State Fault Refusal :=
  s.command now (runSetClassMap classes)

/-- SET_TONE_PARAMS. -/
def execSetToneParams (now : Time) (values : List Byte) (s : State) : Host.Outcome State Fault Refusal :=
  s.command now (runSetToneParams values)

/-- SET_SCAN. -/
def execSetScan (now : Time) (setting index : Byte) (s : State) : Host.Outcome State Fault Refusal :=
  s.command now (runSetScan setting index)

/-- SET_SWEEP. -/
def execSetSweep (now : Time) (enabled interval steps : Byte) (s : State) : Host.Outcome State Fault Refusal :=
  s.command now (runSetSweep enabled interval steps)

/-- COLLECT(on). -/
def execCollectOn (now : Time) (line : Byte) (s : State) : Host.Outcome State Fault Refusal := s.command now (runCollectOn line)

/-- COLLECT(off). -/
def execCollectOff (now : Time) (line : Byte) (s : State) : Host.Outcome State Fault Refusal := s.command now (runCollectOff line)

/-- READ_DIGITS. -/
def execReadDigits (now : Time) (line clear : Byte) (s : State) : Host.Outcome State Fault Refusal :=
  s.command now (runReadDigits line clear)

/-- TEST_LINE. -/
def execTestLine (now : Time) (line steps force : Byte) (s : State) : Host.Outcome State Fault Refusal :=
  s.command now (runTestLine line steps force)

/-- ABORT_TEST. -/
def execAbortTest (now : Time) (line : Byte) (s : State) : Host.Outcome State Fault Refusal := s.command now (runAbortTest line)

/-- RESUME_TESTS. -/
def execResumeTests (now : Time) (s : State) : Host.Outcome State Fault Refusal := s.command now runResumeTests

/-- GET_RESULT. -/
def execGetResult (now : Time) (line : Byte) (s : State) : Host.Outcome State Fault Refusal := s.command now (runGetResult line)

/-- ACK_FAULTS. -/
def execAckFaults (now : Time) (line faults : Byte) (s : State) : Host.Outcome State Fault Refusal :=
  s.command now (runAckFaults line faults)

/-- RELEASE_QUARANTINE. -/
def execReleaseQuarantine (now : Time) (line : Byte) (s : State) : Host.Outcome State Fault Refusal :=
  s.command now (runReleaseQuarantine line)

/-- RESET. -/
def execReset (now : Time) (s : State) : Host.Outcome State Fault Refusal := s.command now runReset

end Sys2Proof.Machine
end

