-- ==== Sys2Proof/Machine/Receiver.lean ====
section
/-! DEFINITION. The frame receiver and the judgement of a good frame by its kind and length (R167, R169, R171, R172), with the
meanings of the link's own rows. -/

namespace Sys2Proof.Machine

/-- The two-byte fields of a body, high byte first (R172). -/
def wordsOf : List Byte → List (BitVec 16)
  | hi :: lo :: rest => (hi ++ lo) :: wordsOf rest
  | [_] => []
  | [] => []

/-- A SET_SERVICE body (R46, R47): the state is a choice of 0 OUT or 1 IN. -/
def runSetService (line state : Byte) (s : State) : State × Reply :=
  match choiceOf state with
  | some true => runSetServiceIn line s
  | some false => runSetServiceOut line s
  | none => s.refuse 0x07#8 .badArgument

/-- A COLLECT body (R52, R64): the choice is 0 off or 1 on. -/
def runCollect (line on : Byte) (s : State) : State × Reply :=
  match choiceOf on with
  | some true => runCollectOn line s
  | some false => runCollectOff line s
  | none => s.refuse 0x0E#8 .badArgument

/-- A good frame executed by its kind and body: UNKNOWN for a kind that is no command kind, BAD_LENGTH for a body of another
length than the catalogue's, and otherwise the command (R171, R172). -/
def runFrame (kind : Byte) (body : List Byte) (s : State) : State × Reply :=
  if !isCommandKind kind then s.refuse kind .unknown
  else
    match kind.toNat, body with
    | 0x01, [] => runIdentify s
    | 0x02, [] => runDeviceStatus s
    | 0x03, [line] => runLineStatus line s
    | 0x04, profile :: fields =>
      if fields.length = 46 then runSetProfile profile (wordsOf fields) s else s.refuse kind .badLength
    | 0x05, [profile] => runGetProfile profile s
    | 0x06, [line, profile] => runSetLineProfile line profile s
    | 0x07, [line, state] => runSetService line state s
    | 0x08, [line, slot] => runSetTimeslot line slot s
    | 0x09, [line, hi, lo] => runSetMask line (hi ++ lo) s
    | 0x0A, classes => runSetClassMap classes s
    | 0x0B, values => runSetToneParams values s
    | 0x0C, [setting, index] => runSetScan setting index s
    | 0x0D, [enabled, interval, steps] => runSetSweep enabled interval steps s
    | 0x0E, [line, on] => runCollect line on s
    | 0x0F, [line, clear] => runReadDigits line clear s
    | 0x10, [line, steps, force] => runTestLine line steps force s
    | 0x11, [line] => runAbortTest line s
    | 0x12, [] => runResumeTests s
    | 0x13, [line] => runGetResult line s
    | 0x14, [line, faults] => runAckFaults line faults s
    | 0x15, [line] => runReleaseQuarantine line s
    | 0x16, [] => runReset s
    | _, _ => s.refuse kind .badLength

/-- The kind and the body of the frame that a command row stands for, from the catalogue (R172); the other rows are no frames. -/
def frameOf : Instr → Option (Byte × List Byte)
  | .identify _ => some (0x01#8, [])
  | .deviceStatus _ => some (0x02#8, [])
  | .lineStatus _ line => some (0x03#8, [line])
  | .setProfile _ profile fields => some (0x04#8, profile :: fields.flatMap wordBytes)
  | .getProfile _ profile => some (0x05#8, [profile])
  | .setLineProfile _ line profile => some (0x06#8, [line, profile])
  | .setServiceOut _ line => some (0x07#8, [line, 0#8])
  | .setServiceIn _ line => some (0x07#8, [line, 1#8])
  | .setTimeslot _ line slot => some (0x08#8, [line, slot])
  | .setMask _ line kinds => some (0x09#8, line :: wordBytes kinds)
  | .setClassMap _ classes => some (0x0A#8, classes)
  | .setToneParams _ values => some (0x0B#8, values)
  | .setScan _ setting index => some (0x0C#8, [setting, index])
  | .setSweep _ enabled interval steps => some (0x0D#8, [enabled, interval, steps])
  | .collectOn _ line => some (0x0E#8, [line, 1#8])
  | .collectOff _ line => some (0x0E#8, [line, 0#8])
  | .readDigits _ line clear => some (0x0F#8, [line, clear])
  | .testLine _ line steps force => some (0x10#8, [line, steps, force])
  | .abortTest _ line => some (0x11#8, [line])
  | .resumeTests _ => some (0x12#8, [])
  | .getResult _ line => some (0x13#8, [line])
  | .ackFaults _ line faults => some (0x14#8, [line, faults])
  | .releaseQuarantine _ line => some (0x15#8, [line])
  | .reset _ => some (0x16#8, [])
  | .powerUpReset | .resetnLow | .pinReset | .commandResetEffect | .unknownKindFrame _ _ | .frameError _ => none
  | .interbyteGapTimeout _ | .frameDiscardedBusy _ | .transmitFrameEnd _ | .sampleRecord _ _ _ _ => none
  | .receiverStart _ _ | .blockCompletion _ _ _ | .firstDigitTimeout _ _ | .endDiallingTimerExpiry _ _ => none
  | .retestTimerExpiry _ _ | .sweepTimerExpiry _ | .batteryReading _ _ | .settlePeriodCompletion _ => none
  | .stepCompletion _ _ _ | .frameByteArrival _ _ | .firstFrameSyncPulse _ => none

/-- The frame receiver's record changed. -/
def State.setRx (s : State) (r : FrameRx) : State := s.modLink fun k => { k with rx := r }

/-- A byte in HUNTING: the start byte begins a frame, any other is ignored (R167). -/
def State.huntByte (s : State) (b : Byte) : State :=
  if b = Config.startByte then s.setRx (.collecting [] s.partTime) else s.setRx .hunting

/-- The number of bytes from the length byte to the second check byte (R167). -/
def frameSpan (length : Byte) : Nat := length.toNat + 3

/-- A frame's bytes are complete, from the length byte to the second check byte: a matching check makes it good, any other is a
frame error (R167, R168). -/
def State.frameComplete (s : State) (got : List Byte) : State :=
  let covered := got.dropLast.dropLast
  if wordBytes (crc covered) = got.drop covered.length then s.goodFrame (runFrame (covered.getD 1 0#8) (covered.drop 2))
  else s.badFrame

/-- A byte in COLLECTING: a length of 0 or above 64 ends the frame at once; otherwise the bytes collect until the second check
byte (R167). -/
def State.collectByte (s : State) (got : List Byte) (b : Byte) : State :=
  let got := got ++ [b]
  let length := got.headD 0#8
  if length.toNat = 0 ∨ 64 < length.toNat then s.badFrame
  else if got.length < frameSpan length then s.setRx (.collecting got s.partTime)
  else s.frameComplete got

/-- A byte arrives on LRX (R167).  A gap of more than 4 ms inside a frame has discarded it, and the byte that ends the gap is
judged as in HUNTING. -/
def State.rxByte (s : State) (b : Byte) : State :=
  match s.link.rx with
  | .hunting => s.huntByte b
  | .collecting got last => if 4 < elapsed s.partTime last then s.huntByte b else s.collectByte got b

/-- More than 4 ms have passed since the last byte of a frame: the partial frame is discarded (R167; log entry 13). -/
def State.gapTimeout (s : State) : State :=
  match s.link.rx with
  | .collecting _ last => if 4 ≤ elapsed s.partTime last then s.setRx .hunting else s
  | .hunting => s

/-- A good frame or a frame error meets an occupied slot: it is discarded and busy-pending is set (R169); between a RESET and
its effect it is discarded without (R174). -/
def State.discardBusy (s : State) : State :=
  if s.link.slot.isSome && !s.link.resetRequested then
    ((s.setRx .hunting).modLink fun k => { k with busyPending := true }).txChoose
  else s

/-- FRAME_BYTE_ARRIVAL. -/
def execFrameByteArrival (now : Time) (b : Byte) (s : State) : Host.Outcome State Fault Refusal :=
  .next (s.arrive now fun s => s.rxByte b)

/-- INTERBYTE_GAP_TIMEOUT. -/
def execInterbyteGapTimeout (now : Time) (s : State) : Host.Outcome State Fault Refusal := .next (s.arrive now State.gapTimeout)

/-- UNKNOWN_KIND_FRAME: a good frame whose kind is no command kind is answered UNKNOWN (R171); a frame of a command kind is not
this arrival. -/
def execUnknownKindFrame (now : Time) (kind : Byte) (s : State) : Host.Outcome State Fault Refusal :=
  .next (s.arrive now fun s => if isCommandKind kind then s else s.goodFrame fun s => s.refuse kind .unknown)

/-- FRAME_ERROR. -/
def execFrameError (now : Time) (s : State) : Host.Outcome State Fault Refusal := .next (s.arrive now State.badFrame)

/-- FRAME_DISCARDED_BUSY. -/
def execFrameDiscardedBusy (now : Time) (s : State) : Host.Outcome State Fault Refusal := .next (s.arrive now State.discardBusy)

end Sys2Proof.Machine
end

