-- ==== Sys2Proof/Machine/Resets.lean ====
section
/-! DEFINITION. The three resets (R174) and what each block holds after them (R23, R24, R48, R49, R67, R82, R83, R96, R122, R123,
R139, R149, R150, R156, R165), with the meanings of the four reset rows. -/

namespace Sys2Proof.Machine

/-- The link after a reset (R174), before START is raised. -/
def Link.afterReset (cause : ResetCause) : Link := ⟨.hunting, none, false, none, cause, false, false⟩

/-- START is raised at part time 0 with the recorded cause (R165, R174); the free transmitter begins its frame (R170). -/
def State.raiseStart (s : State) : State := s.raiseDevice (.start s.link.resetCause)

/-- A power-up or pin reset: every configuration item at its default, all dynamic state cleared (R174).  The model's own fields
stay. -/
def State.coldReset (s : State) (cause : ResetCause) : State :=
  ({ State.reset with link := Link.afterReset cause, freeCount := s.freeCount, pending := s.pending } : State).raiseStart

/-- The record of a line after a command reset: the kept service, profile number, timeslot and report mask, working parameters
copied from the kept record, and dynamic state cleared (R24, R49, R150, R174). -/
def LineRec.afterCommand (r : LineRec) (p : Profile) (mode : ScanMode) : LineRec :=
  let state : HookState := match r.hook.service with
    | .serviceIn => .learning
    | .serviceOut => .outOfService
  let period := periodOf state mode
  { lsu := ⟨period, period.nextAfter 0#32, none, 0, false, 0, seizeThreshold 0 p, releaseThreshold 0 p,
            (match r.hook.service with
              | .serviceIn => some (laterBy 0#32 Config.learningMs)
              | .serviceOut => none), none, false, none⟩
    hook := ⟨r.hook.service, state, none, none, none, 0, false, false⟩
    dial := ⟨.inactive, .undetermined, [], false, none, none⟩
    pool := ⟨r.pool.slot, none, false⟩
    test := ⟨false, false, none⟩
    fault := ⟨0#6, 0, none, false⟩
    prof := ⟨r.prof.number, p⟩
    rep := ⟨r.rep.mask, 0#16⟩ }

/-- The engine after a command reset: the values of R122 but for the kept sweep settings and their timer (R123). -/
def Engine.afterCommand (e : Engine) : Engine :=
  { Engine.powerUp with sweepEnabled := e.sweepEnabled, sweepInterval := e.sweepInterval, sweepSteps := e.sweepSteps }.startTimer 0#32

/-- The command reset (R174). -/
def State.commandReset (s : State) : State :=
  let mode := scanModeOf s.battery.setting .normal
  State.raiseStart
    { partTime := 0#32
      lines := Vector.ofFn fun l => (s.line l).afterCommand (s.profile (s.line l).prof.number) mode
      pool := Pool.cleared
      tone := s.tone
      profiles := s.profiles
      engine := s.engine.afterCommand
      battery := ⟨none, s.battery.index, .normal, s.battery.setting, mode⟩
      reporter := ⟨[], [], false, false, s.reporter.classMap⟩
      link := Link.afterReset .command
      freeCount := s.freeCount
      pending := s.pending }

/-- Whether a frame is the OK reply to the RESET command. -/
def TxFrame.isResetReply : TxFrame → Bool
  | .reply r => r.kind == 0x16#8 && decide (r.status = .ok)
  | .busy => false
  | .event _ => false

/-- Whether the frame being sent is the RESET reply whose end brings the requested command reset (R174). -/
def State.sendingResetReply (s : State) : Bool :=
  s.link.resetRequested && (match s.link.tx with
    | some f => f.isResetReply
    | none => false)

/-- The transmitter finishes its frame (R170): it is free and chooses again at once; at the end of the RESET reply the requested
reset takes effect instead (R174). -/
def State.frameEnd (s : State) : State :=
  match s.link.tx with
  | some _ => if s.sendingResetReply then s.commandReset else (s.modLink fun k => { k with tx := none }).txChoose
  | none => s

/-- POWER_UP_RESET (R174). -/
def execPowerUpReset (s : State) : Host.Outcome State Fault Refusal := .next (s.coldReset .power)

/-- RESETN_LOW (R174): the part is held in reset, and a frame it was sending stops where it stood. -/
def execResetnLow (s : State) : Host.Outcome State Fault Refusal :=
  .next (s.modLink fun k => { k with resetnLow := true, tx := none })

/-- PIN_RESET (R174). -/
def execPinReset (s : State) : Host.Outcome State Fault Refusal := .next (s.coldReset .pin)

/-- COMMAND_RESET_EFFECT (R174): the last byte of the RESET reply has been sent. -/
def execCommandResetEffect (s : State) : Host.Outcome State Fault Refusal :=
  .next (if !s.link.resetnLow && s.sendingResetReply then s.commandReset else s)

/-- TRANSMIT_FRAME_END (R170). -/
def execTransmitFrameEnd (now : Time) (s : State) : Host.Outcome State Fault Refusal := .next (s.arrive now State.frameEnd)

end Sys2Proof.Machine
end

