-- ==== Sys2Proof/Machine/Tone.lean ====
section
/-! DEFINITION. The Tone Detector: A-law expansion, levels, classification and the detector state (R69, R84 to R93), with the
meaning of BLOCK_COMPLETION.  Levels are whole numbers of 0.5 dB. -/

namespace Sys2Proof.Machine

/-! ## Highway samples (R69) -/

/-- A highway byte expanded to its linear sample: the even bits are inverted, then sign, segment and step are read (R69). -/
def expandSample (code : Byte) : Int :=
  let v := code ^^^ 0x55#8
  let seg := (v.extractLsb' 4 3).toNat
  let q := (v.extractLsb' 0 4).toNat
  let magnitude := if seg = 0 then 2 * q + 1 else (2 * q + 33) * 2 ^ (seg - 1)
  if v.getLsbD 7 then (magnitude : Int) else -(magnitude : Int)

/-! ## Levels (R85)

R85 takes every value exactly, and the resonator's coefficient c = 2 cos(2π f / 8000) is irrational.  The model computes each level
between two ends: with the coefficient to a number of binary places, everything after it in whole numbers, and a bound on what the
missing places can change.  Where the two ends read the same level, that is the exact one.  128 places are tried first.  A block on
which its ends differ is computed with `finalPlaces`, so many that the two ends can differ there only where the exact value is itself
the multiple of 0.5 dB between them; the upper end then reads the exact level (DEDUCED, log entry 9). -/

/-- 2^w times the arctangent of 1/q, from the powers that remain of its series: `power` is 2^w / q^(2k + 1). -/
def arctanSeries (q : Nat) : Nat → Nat → Nat → Int
  | 0, _, _ => 0
  | terms + 1, power, k => (power / (2 * k + 1) : Nat) - arctanSeries q terms (power / (q * q)) (k + 1)

/-- Enough terms of each series for `w` binary places. -/
def seriesTerms (w : Nat) : Nat := w / 4 + 8

/-- 2^w times π, by Machin's formula. -/
def piPlaces (w : Nat) : Nat :=
  (16 * arctanSeries 5 (seriesTerms w) (2 ^ w / 5) 0 - 4 * arctanSeries 239 (seriesTerms w) (2 ^ w / 239) 0).toNat

/-- 2^w times a multiple of the cosine, from the terms that remain of its series: `square` is 2^w times the square of the angle, and
`term` the term of degree 2k. -/
def cosSeries (w square : Nat) : Nat → Nat → Nat → Int
  | 0, _, _ => 0
  | terms + 1, term, k => term - cosSeries w square terms (term * square / 2 ^ w / ((2 * k + 1) * (2 * k + 2))) (k + 1)

/-- The eight tone frequencies in Hz (R85, R87). -/
def toneHz : Fin 8 → Nat
  | 0 => 697
  | 1 => 770
  | 2 => 852
  | 3 => 941
  | 4 => 1209
  | 5 => 1336
  | 6 => 1477
  | 7 => 1633

/-- The resonator coefficient 2 cos(2π f / 8000) of a tone frequency to `n` binary places, times 2^n (R85). -/
def toneCoeff (n : Nat) (f : Fin 8) : Nat :=
  let w := 2 * n + 64
  let angle := piPlaces w * toneHz f / 4000
  (cosSeries w (angle * angle / 2 ^ w) (seriesTerms w) (2 ^ (w + 1)) 0).toNat / 2 ^ (w - n)

/-- The resonator over the samples that remain, from outputs y(i − 1) and y(i − 2) held with their scales, where `scale` is
2^(n i) and `c` is 2^n times the coefficient: the last two outputs (R85). -/
def resonate (n : Nat) (c : Int) : List Int → Int → Int → Int → Int × Int
  | [], _, y1, y2 => (y1, y2)
  | x :: xs, scale, y1, y2 =>
    resonate n c xs (scale * 2 ^ n) (x * scale + c * y1 - 2 ^ (2 * n) * y2) y1

/-- y(100)² + y(99)² − c y(100) y(99) for a block, times 2^(200 n) (R85). -/
def resonatorSize (n : Nat) (c : Int) (xs : List Int) : Int :=
  let (a, b) := resonate n c xs (2 ^ n) 0 0
  a * a + 2 ^ (2 * n) * (b * b) - c * (a * b)

/-- The scale of `resonatorSize` over a block of 100 samples. -/
def sizeScale (n : Nat) : Nat := 2 ^ (200 * n)

/-- How far the size at the exact coefficient of a block of 100 highway samples can lie from that at `n` binary places, in the scale
of `resonatorSize`: with samples of at most 4032 the size changes by less than 2^62 for a coefficient changed by 1. -/
def sizeError (n : Nat) : Int := 2 ^ (199 * n + 63)

/-- The sizes of the eight components of a block, at `n` binary places. -/
def blockSizes (n : Nat) (xs : List Int) : List Int :=
  (List.finRange 8).map fun f => resonatorSize n (toneCoeff n f) xs

/-- The number of steps of 0.5 dB, up to `fuel`, by which 20 log10 of a ratio of powers, held as `num` over `den`, can still be
raised: how often `den` can be multiplied by 10. -/
def halfDbSteps : Nat → Nat → Nat → Nat
  | 0, _, _ => 0
  | fuel + 1, num, den => if den * 10 ≤ num then halfDbSteps fuel num (den * 10) + 1 else 0

/-- The level of a power `num / den` relative to that of 0 dBm0, rounded down to a multiple of 0.5 dB and clamped to −60.0 to
+3.0, in steps of 0.5 dB: the greatest h from −120 to 6 with (num / den)^20 ≥ 10^h, or −120 (R85). -/
def levelOf (num den : Nat) : Int := (halfDbSteps 126 (num ^ 20 * 10 ^ 120) (den ^ 20) : Int) - 120

/-- The denominator of a power relative to 0 dBm0: a component's squared amplitude is its size over 2500, and 0 dBm0 is an
amplitude of 2854 (R85). -/
def powerDen (n : Nat) : Nat := 2500 * sizeScale n * 2854 ^ 2

/-- The nine levels of a block: the eight tone levels in order of frequency, and the residual (R85). -/
structure Levels where
  tone : List Int
  residual : Int
  deriving DecidableEq, Repr

/-- The sum of a list of numbers. -/
def sumInt (xs : List Int) : Int := xs.foldl (fun a x => a + x) 0

/-- The nine levels of a block at one of their ends: its component sizes moved by `up`, and the residual power, which is the mean
square of the 100 samples less the sum of the component powers, each an amplitude squared over 2, moved the same way (R85). -/
def levelsMoved (n : Nat) (xs : List Int) (up : Int) : Levels :=
  let sizes := blockSizes n xs
  let total := sumInt (xs.map fun x => x * x)
  ⟨sizes.map fun t => levelOf (t + up).toNat (powerDen n),
   levelOf (50 * total * sizeScale n - sumInt sizes + 8 * up).toNat (powerDen n)⟩

/-- The lower ends of a block's levels at `n` binary places. -/
def lowerLevels (n : Nat) (xs : List Int) : Levels := levelsMoved n xs (-sizeError n)

/-- The upper ends of a block's levels at `n` binary places. -/
def upperLevels (n : Nat) (xs : List Int) : Levels := levelsMoved n xs (sizeError n)

/-- The binary places at which a block's upper levels are exact.  Raised to the power 20 and cleared of its denominators, the
difference of a power and a multiple of 0.5 dB is an algebraic integer of degree at most 1600 whose conjugates are below 2^1482; where
it is not 0 it is at least 2^(−1482 · 1599), which more than 2,372,000 places tell from 0. -/
def finalPlaces : Nat := 2 ^ 22

/-- The levels of a block of linear samples (R85). -/
def blockLevels (xs : List Int) : Levels :=
  let low := lowerLevels 128 xs
  let high := upperLevels 128 xs
  if low = high then high else upperLevels finalPlaces xs

/-! ## Classification (R86, R87) -/

/-- The strongest level of a group, the position of its first place, and the largest of the other three (R86). -/
def strongest (a b c d : Int) : Int × Fin 4 × Int :=
  let m := max (max a b) (max c d)
  if a = m then (m, 0, max b (max c d))
  else if b = m then (m, 1, max a (max c d))
  else if c = m then (m, 2, max a (max b d))
  else (m, 3, max a (max b c))

/-- The key of a row and a column (R87), by its code (R177). -/
def keyAt (row col : Fin 4) : Key :=
  (#v[#v[1, 2, 3, 12], #v[4, 5, 6, 13], #v[7, 8, 9, 14], #v[10, 0, 11, 15]] : Vector (Vector Key 4) 4)[row][col]

/-- The class of a block: TONE(d) where all four tests pass, NONTONE (`none`) otherwise (R86, R87). -/
def classify (p : ToneParams) (v : Levels) : Option Key :=
  match v.tone with
  | [a, b, c, d, e, f, g, h] =>
    let (low, row, low2) := strongest a b c d
    let (high, col, high2) := strongest e f g h
    if p.levelFloor ≤ low ∧ p.levelFloor ≤ high ∧ high - low ≤ p.fwdTwist ∧ low - high ≤ p.revTwist ∧
        p.groupMargin ≤ low - low2 ∧ p.groupMargin ≤ high - high2 ∧ v.residual ≤ max low high - p.purityMargin then
      some (keyAt row col)
    else none
  | _ => none

/-! ## The detector state (R88 to R93) -/

/-- A detector in CANDIDATE or GAP, or QUIET, meets a block of another digit than it follows: a candidate from 1. -/
def Detector.afresh (e : Key) : Detector := .candidate e 1

/-- The move of a detector at a block completion, and the digit accepted there, if one is (R89 to R93). -/
def Detector.move (p : ToneParams) (state : Detector) (block : Option Key) : Detector × Option Key :=
  match state, block with
  | .quiet, some d => (Detector.afresh d, none)
  | .quiet, none => (.quiet, none)
  | .candidate d n, some e =>
    if e = d then if p.minBlocks ≤ n + 1 then (.held d, some d) else (.candidate d (n + 1), none)
    else (Detector.afresh e, none)
  | .candidate _ _, none => (.quiet, none)
  | .held d, some _ => (.held d, none)
  | .held d, none => if 2 ≤ p.pauseBlocks then (.gap d 1, none) else (.quiet, none)
  | .gap d _, some e => if e = d then (.held d, none) else (Detector.afresh e, none)
  | .gap d k, none => if p.pauseBlocks ≤ k + 1 then (.quiet, none) else (.gap d (k + 1), none)

/-- A classified block moves the receiver's detector, and an accepted digit goes to the Digit Collector (R84, R90). -/
def State.moveDetector (s : State) (r : Rx) (rec : Receiver) (block : Option Key) : State :=
  let (d, accepted) := rec.detector.move s.tone block
  let s := s.setReceiver r (some { rec with detector := d })
  match accepted with
  | some k => s.collectDigit rec.line k .tone
  | none => s

/-- The class of a block of highway frames at the receiver of a line (R68, R69, R85 to R87). -/
def State.classifyBlock (s : State) (l : Line) (frames : List HighwayFrame) : Option Key :=
  classify s.tone (blockLevels ((s.tapBytes l frames).map expandSample))

/-- A receiver's block in progress completes at the block boundary that ends it, and the next begins at once (R84): at a marked
slot change the block is discarded and the detector restarts in QUIET (R72), otherwise it is classified. -/
def State.completeBlock (s : State) (r : Rx) (rec : Receiver) (frames : List HighwayFrame) : State :=
  if rec.slotChange then s.setReceiver r (some { rec with slotChange := false, detector := .quiet })
  else s.moveDetector r rec (s.classifyBlock rec.line frames)

/-- The hundredth sample of a block is delivered to a receiver that is ASSIGNED, started and not held, at the boundary a hundred
frames after the block's beginning (R68, R84).  A receiver that forms no block takes nothing from the arrival, nor does one from an
arrival off the grid (log entry 2), nor from another number of frames than 100, with which no block completes (DESIGN CHOICE, log
entry 18). -/
def State.blockDone (s : State) (r : Rx) (frames : List HighwayFrame) : State :=
  match s.pool.grid, s.receiver r with
  | some b, some rec =>
    match rec.blockStart with
    | some f =>
      if !rec.held && frames.length == 100 && onGrid b (f + 100) s.partTime then
        (s.reachBoundary (f + 100)).completeBlock r { rec with blockStart := some (f + 100) } frames
      else s
    | none => s
  | _, _ => s

/-- BLOCK_COMPLETION. -/
def execBlockCompletion (now : Time) (r : Rx) (frames : List HighwayFrame) (s : State) : Host.Outcome State Fault Refusal :=
  .next (s.arrive now fun s => s.blockDone r frames)

end Sys2Proof.Machine
end

