-- ==== Sys2Proof/Machine/Dispatch.lean ====
section
/-! DEFINITION. The meaning of every command, one arm per row of spec/opcode_table.json. -/

namespace Sys2Proof.Machine

def exec (i : Instr) (s : State) : Host.Outcome State Fault Refusal :=
  match i with
  | .powerUpReset => Sys2Proof.Machine.execPowerUpReset s
  | .resetnLow => Sys2Proof.Machine.execResetnLow s
  | .pinReset => Sys2Proof.Machine.execPinReset s
  | .commandResetEffect => Sys2Proof.Machine.execCommandResetEffect s
  | .identify now => Sys2Proof.Machine.execIdentify now s
  | .deviceStatus now => Sys2Proof.Machine.execDeviceStatus now s
  | .lineStatus now line => Sys2Proof.Machine.execLineStatus now line s
  | .setProfile now profile fields => Sys2Proof.Machine.execSetProfile now profile fields s
  | .getProfile now profile => Sys2Proof.Machine.execGetProfile now profile s
  | .setLineProfile now line profile => Sys2Proof.Machine.execSetLineProfile now line profile s
  | .setServiceOut now line => Sys2Proof.Machine.execSetServiceOut now line s
  | .setServiceIn now line => Sys2Proof.Machine.execSetServiceIn now line s
  | .setTimeslot now line slot => Sys2Proof.Machine.execSetTimeslot now line slot s
  | .setMask now line kinds => Sys2Proof.Machine.execSetMask now line kinds s
  | .setClassMap now classes => Sys2Proof.Machine.execSetClassMap now classes s
  | .setToneParams now values => Sys2Proof.Machine.execSetToneParams now values s
  | .setScan now setting index => Sys2Proof.Machine.execSetScan now setting index s
  | .setSweep now enabled interval steps => Sys2Proof.Machine.execSetSweep now enabled interval steps s
  | .collectOn now line => Sys2Proof.Machine.execCollectOn now line s
  | .collectOff now line => Sys2Proof.Machine.execCollectOff now line s
  | .readDigits now line clear => Sys2Proof.Machine.execReadDigits now line clear s
  | .testLine now line steps force => Sys2Proof.Machine.execTestLine now line steps force s
  | .abortTest now line => Sys2Proof.Machine.execAbortTest now line s
  | .resumeTests now => Sys2Proof.Machine.execResumeTests now s
  | .getResult now line => Sys2Proof.Machine.execGetResult now line s
  | .ackFaults now line faults => Sys2Proof.Machine.execAckFaults now line faults s
  | .releaseQuarantine now line => Sys2Proof.Machine.execReleaseQuarantine now line s
  | .reset now => Sys2Proof.Machine.execReset now s
  | .unknownKindFrame now kind => Sys2Proof.Machine.execUnknownKindFrame now kind s
  | .frameError now => Sys2Proof.Machine.execFrameError now s
  | .interbyteGapTimeout now => Sys2Proof.Machine.execInterbyteGapTimeout now s
  | .frameDiscardedBusy now => Sys2Proof.Machine.execFrameDiscardedBusy now s
  | .transmitFrameEnd now => Sys2Proof.Machine.execTransmitFrameEnd now s
  | .sampleRecord now line current ov => Sys2Proof.Machine.execSampleRecord now line current ov s
  | .receiverStart boundary rx => Sys2Proof.Machine.execReceiverStart boundary rx s
  | .blockCompletion now rx frames => Sys2Proof.Machine.execBlockCompletion now rx frames s
  | .firstDigitTimeout now line => Sys2Proof.Machine.execFirstDigitTimeout now line s
  | .endDiallingTimerExpiry now line => Sys2Proof.Machine.execEndDiallingTimerExpiry now line s
  | .retestTimerExpiry now line => Sys2Proof.Machine.execRetestTimerExpiry now line s
  | .sweepTimerExpiry now => Sys2Proof.Machine.execSweepTimerExpiry now s
  | .batteryReading now volts => Sys2Proof.Machine.execBatteryReading now volts s
  | .settlePeriodCompletion now => Sys2Proof.Machine.execSettlePeriodCompletion now s
  | .stepCompletion now first second => Sys2Proof.Machine.execStepCompletion now first second s
  | .frameByteArrival now byte => Sys2Proof.Machine.execFrameByteArrival now byte s
  | .firstFrameSyncPulse now => Sys2Proof.Machine.execFirstFrameSyncPulse now s

end Sys2Proof.Machine
end

