-- ==== Sys2Proof/Safety.lean ====
section
/-! DEFINITION. The laws that the spec states of the part's own state, as predicates of a state, and the words that statements
use for a command frame's reception and reply. -/

namespace Sys2Proof.Machine

/-! ## The Event Reporter (R161 to R163, Law 11) -/

/-- START and POWER_CROSS events, which stand only in the PRIORITY queue (R163). -/
def Event.priorityOnly : Event → Bool
  | .line _ _ b => b.kind == 12
  | .device _ (.start _) => true
  | .device _ (.battery _ _) => false
  | .device _ (.scanMode _) => false
  | .device _ (.overflow _) => false

/-- Law 11 (R163): the queues keep their capacities, and START and POWER_CROSS stand only in the PRIORITY queue, to which the
class map fixes them (R162). An overflow flag stands only beside a full queue (R163, R164). -/
structure LawEleven (s : State) : Prop where
  prioCap : s.reporter.prio.length ≤ 16
  normCap : s.reporter.norm.length ≤ 48
  prioFlag : s.reporter.prioOverflow = true → s.reporter.prio.length = 16
  normFlag : s.reporter.normOverflow = true → s.reporter.norm.length = 48
  onlyPrio : ∀ e ∈ s.reporter.norm, e.priorityOnly = false
  powerCrossClass : s.reporter.classMap.get 12 = .priority
  startClass : s.reporter.classMap.get 16 = .priority

/-- A transmitter that is free has nothing to send, unless RESETN is low: it begins a frame at once when there is one (R170). -/
def FreeMeansNothingToSend (s : State) : Prop :=
  s.link.resetnLow = false → s.link.tx = none →
    s.link.slot = none ∧ s.link.busyPending = false ∧ s.reporter.prio = [] ∧ s.reporter.norm = []

/-! ## The settings -/

/-- POWER_CROSS stands in every mask (R161), no two lines map to one timeslot (Law 5, R70), and the effective scan mode is the
one that the scan setting and the battery state give (R154). -/
structure SettingsLaws (s : State) : Prop where
  masks : ∀ l, (s.line l).rep.mask.getLsbD 12 = true
  lawFive : ∀ l m, (s.line l).pool.slot = (s.line m).pool.slot → l = m
  mode : s.battery.mode = scanModeOf s.battery.setting s.battery.state

/-! ## Profiles and the LSU (R5, R8, R140, R141) -/

/-- A record whose 23 fields lie in their ranges and whose break fields are in order (R140). -/
def Profile.valid (p : Profile) : Prop :=
  (∀ x ∈ profileRules.zip p.toFields, x.1.admits x.2 = true ∧ x.1.clamp x.2 = x.2) ∧ p.ordered = true

/-- Every record of the table and every working-parameter copy is valid (R140, R141). -/
structure ProfilesValid (s : State) : Prop where
  table : ∀ p, (s.profile p).valid
  working : ∀ l, (s.working l).valid

/-- The three ties of R141: without a pending profile the working parameters equal the record of the line's profile number, and
a profile is pending only on a busy line. -/
structure WorkingFollowsTable (s : State) : Prop where
  equal : ∀ l, (s.line l).hook.pendingProfile = false → s.working l = s.profile (s.line l).prof.number
  pendingBusy : ∀ l, (s.line l).hook.pendingProfile = true → (s.line l).hook.state.busy = true

/-- The bounds of R5 and R8 on a line's LSU fields under its working parameters. -/
structure Lsu.bounded (u : Lsu) (p : Profile) : Prop where
  baseline : u.baseline ≤ 4096 * p.leakMax
  seizeLow : 40 ≤ u.tSeize
  seizeHigh : u.tSeize ≤ 300
  relLow : 1 ≤ u.tRel
  relBelow : u.tRel < u.tSeize

/-- Every line's baseline and thresholds lie within their bounds, under valid working parameters (R5, R8), and in LEARNING and
IDLE the thresholds are those that R8 computes (R10). -/
structure LinesBounded (s : State) : Prop where
  profiles : ProfilesValid s
  lines : ∀ l, (s.line l).lsu.bounded (s.working l)
  resting : ∀ l, (s.line l).hook.state = .learning ∨ (s.line l).hook.state = .idle →
    (s.line l).lsu.tSeize = seizeThreshold (s.line l).lsu.baseline (s.working l) ∧
    (s.line l).lsu.tRel = releaseThreshold (s.line l).lsu.baseline (s.working l)

/-- Every line has the sample period of its hook state and the effective scan mode, and a next sample time exactly when it is
sampled (R2). -/
structure PeriodsFollow (s : State) : Prop where
  period : ∀ l, (s.line l).lsu.period = periodOf (s.line l).hook.state s.battery.mode
  next : ∀ l, (s.line l).lsu.nextSample = none ↔ (s.line l).lsu.period = .notSampled

/-- A line's record after an application of the profile record `v` (R146, R9): the working parameters are a copy, the baseline is
lowered to the new clamp, and in LEARNING and IDLE the thresholds are computed afresh by R8. -/
def LineRec.applied (r : LineRec) (v : Profile) : LineRec :=
  let b := min r.lsu.baseline (4096 * v.leakMax)
  let fresh : Bool := r.hook.state == .learning || r.hook.state == .idle
  { r with
    prof := { r.prof with working := v }
    lsu := { r.lsu with
      baseline := b
      tSeize := if fresh then seizeThreshold b v else r.lsu.tSeize
      tRel := if fresh then releaseThreshold b v else r.lsu.tRel } }

/-- A line's record at its entry to LEARNING at `now` under an effective scan mode (R11): the call records are clean, the learning
end time lies 512 ms ahead, the thresholds are computed by R8, and a change of period sets the next sample time. -/
def LineRec.learning (r : LineRec) (now : Time) (mode : ScanMode) : LineRec :=
  { r with
    hook := ⟨r.hook.service, .learning, none, none, none, 0, false, false⟩
    lsu := { r.lsu with
      learningEnd := some (laterBy now 512), leakClamp := none, leakReported := false
      tSeize := seizeThreshold r.lsu.baseline r.prof.working
      tRel := releaseThreshold r.lsu.baseline r.prof.working
      period := periodOf .learning mode
      nextSample := if r.lsu.period = periodOf .learning mode then r.lsu.nextSample
        else (periodOf .learning mode).nextAfter now } }

/-! ## The Line Test Engine (R101, R105, R106, Laws 8 and 10) -/

/-- A context with a phase in flight, for a sweep test or for a queued one. -/
def Engine.inFlight (e : Engine) (sweep : Bool) : Prop :=
  ∃ c, e.running = some c ∧ c.phase.isSome = true ∧ (c.origin == .sweep) = sweep

/-- What each engine state has in flight and holds (R105, R106), with Law 10 (R118): no phase is in flight while SUSPENDED. -/
structure EngineConsistent (e : Engine) : Prop where
  idle : e.state = .idle → e.running = none ∧ e.heldSweep = none ∧ e.queue = [] ∧ e.sweepDue = false ∧ e.suspendPending = false
  running : e.state = .running → e.inFlight false
  stepping : e.state = .stepping → e.inFlight true ∧ e.heldSweep = none
  suspended : e.state = .suspended → (∀ c, e.running = some c → c.phase = none ∧ c.origin ≠ .sweep) ∧ e.suspendPending = false

/-- A suspension request waits behind the completion of a last step alone (R116, R137; log entry 22). -/
def CrossWaits (e : Engine) : Prop :=
  ∀ c, e.running = some c → c.crossed = true → c.next = none ∧ ∃ q t, c.phase = some (.measure q, t)

/-- Law 8 (R101): at most 8 entries, at most one a line, every AUTO entry ahead of every HOST entry. -/
structure LawEight (s : State) : Prop where
  cap : s.engine.queue.length ≤ 8
  onePerLine : (s.engine.queue.map fun q => q.line).Nodup
  autoFirst : s.engine.queue.Pairwise fun a b => b.auto = true → a.auto = true

/-- Law 9 (R99): the test bus is connected to a line exactly while a phase is in flight on it; its relay is closed then and only
then, and a line on the bus holds no settle end (R18). A receiver is held exactly while its line is on the bus or holds a settle
end (R73, R79). -/
structure LawNine (s : State) : Prop where
  onBus : ∀ l, (s.line l).test.onTestBus = true ↔ ∃ c, s.engine.running = some c ∧ c.phase.isSome = true ∧ c.line = l
  relay : ∀ l, (s.line l).test.relayClosed = (s.line l).test.onTestBus
  window : ∀ l, (s.line l).test.onTestBus = true → (s.line l).lsu.settleEnd = none
  held : ∀ r rec, s.receiver r = some rec →
    (rec.held = true ↔ (s.line rec.line).test.onTestBus = true ∨ (s.line rec.line).lsu.settleEnd.isSome = true)

/-- A sweep test is in flight, or a sweep is held (R105). -/
def Engine.sweeping (e : Engine) : Prop := e.heldSweep.isSome = true ∨ ∃ c, e.running = some c ∧ c.origin = .sweep

/-- When the sweep timer runs (R111): while the sweep is enabled, the engine is not SUSPENDED, no sweep test is in flight or held
and the sweep is not due. It has a remaining time only while the engine is SUSPENDED. A sweep is due only
while it is enabled, and while no sweep test is in flight or held. -/
structure SweepTimerLaw (e : Engine) : Prop where
  runs : (∃ d, e.sweepTimer = .running d) ↔
    e.sweepEnabled = true ∧ e.state ≠ .suspended ∧ ¬ e.sweeping ∧ e.sweepDue = false
  remains : (∃ ms, e.sweepTimer = .remaining ms) ↔
    e.sweepEnabled = true ∧ e.state = .suspended ∧ ¬ e.sweeping ∧ e.sweepDue = false
  due : e.sweepDue = true → e.sweepEnabled = true ∧ ¬ e.sweeping

/-! ## Calls and receivers (R11, R17, R25, R36, R50, R65, R73 to R75, R124) -/

/-- OFF_HOOK and BREAK: the states of a declared call. -/
abbrev HookState.inCall (h : HookState) : Prop := h = .offHook ∨ h = .onBreak

/-- What each hook state and each collection state of a line has present (R11, R17, R25, R36, R50, R65, R124). -/
structure LineRec.consistent (r : LineRec) : Prop where
  service : r.hook.service = .serviceOut ↔ r.hook.state = .outOfService
  runStart : r.hook.runStart.isSome = true ↔ r.hook.state = .seizing
  breakStart : r.hook.breakStart.isSome = true ↔ r.hook.state = .onBreak
  makeStart : r.hook.makeStart.isSome = true → r.hook.state.inCall
  pulses : 0 < r.hook.pulseCount → r.hook.pulseCount ≤ 11 ∧ r.hook.makeStart.isSome = true ∧
    r.dial.collection ≠ .inactive ∧ r.dial.mode ≠ .tone ∧ r.prof.working.dialModes ≠ .tone
  pending : r.hook.pendingQuarantine = true ∨ r.hook.pendingProfile = true → r.hook.state.busy = true
  collects : r.dial.collection ≠ .inactive → r.hook.state.inCall
  first : r.dial.firstDeadline.isSome = true ↔ r.dial.collection = .waitFirst
  ending : r.dial.endDeadline.isSome = true ↔ r.dial.collection = .collecting
  mode : (r.dial.collection = .waitFirst → r.dial.mode = .undetermined) ∧
    (r.dial.collection = .collecting → r.dial.mode ≠ .undetermined)
  buffer : r.dial.buffer.length ≤ 24
  learning : r.lsu.learningEnd.isSome = true ↔ r.hook.state = .learning
  clamp : r.lsu.leakClamp.isSome = true ∨ r.lsu.leakReported = true → r.hook.state = .idle
  clampOnce : r.lsu.leakClamp.isSome = true → r.lsu.leakReported = false
  retest : r.fault.retestDue.isSome = true ↔ r.hook.state = .quarantined
  clears : 0 < r.fault.clearCount → r.hook.state = .quarantined

/-- Every line's record is consistent. -/
def CallLaws (s : State) : Prop := ∀ l, (s.line l).consistent

/-- Laws 3 and 4 (R73, R75): receivers and lines name each other, a line that holds a receiver or waits is collecting and has not
fixed PULSE, the wait queue holds each waiting line once with PRIORITY first, and no receiver is FREE while a line waits. -/
structure PoolLaws (s : State) : Prop where
  holds : ∀ l r, (s.line l).pool.receiver = some r ↔ ∃ rec, s.receiver r = some rec ∧ rec.line = l
  collecting : ∀ l, (s.line l).pool.receiver.isSome = true ∨ (s.line l).pool.waiting = true →
    (s.line l).dial.collection ≠ .inactive ∧ (s.line l).dial.mode ≠ .pulse
  waits : ∀ l, (s.line l).pool.waiting = true ↔ l ∈ s.pool.waitQueue.map fun e => e.line
  once : (s.pool.waitQueue.map fun e => e.line).Nodup
  waitsOnly : ∀ l, (s.line l).pool.waiting = true → (s.line l).pool.receiver = none ∧ (s.line l).dial.mode = .undetermined
  noneFree : ∀ r, s.receiver r = none → s.pool.waitQueue = []
  priorityFirst : s.pool.waitQueue.Pairwise fun a b => b.priority = true → a.priority = true

/-- A receiver newly assigned to a line (R74): not started, unmarked, QUIET, and held by the line's test-bus condition. -/
def State.assigned (s : State) (l : Line) : Receiver :=
  ⟨l, none, (s.line l).test.onTestBus || (s.line l).lsu.settleEnd.isSome, false, .quiet⟩

/-- The tap's grid (R68): every block boundary falls at a hundredth frame of the count, every block in progress began at one, not
after the latest, and a held receiver has no block in progress (R79). -/
structure GridLaws (s : State) : Prop where
  hundredth : ∀ b, s.pool.grid = some b → b.frame % 100 = 0
  blocks : ∀ r rec f, s.receiver r = some rec → rec.blockStart = some f →
    rec.held = false ∧ f % 100 = 0 ∧ ∃ b, s.pool.grid = some b ∧ f ≤ b.frame

/-- A block boundary at the beginning of frame `frame` can fall at `now`, when `b` is the latest boundary (R68; the least distance
of two boundaries on the millisecond count: log entry 8). -/
def Falls (b : Boundary) (frame : Nat) (now : Time) : Prop :=
  frame % 100 = 0 ∧ ((frame = b.frame ∧ now = b.time) ∨ (b.frame < frame ∧ 12 ≤ elapsed now b.time))

/-- Of two states, the second is the first with the collection of line `l` ended (R63): INACTIVE with no deadline, the pulse count
discarded, and the receiver or wait place given back. A returned receiver becomes FREE, or goes to the head of the wait queue
(R76); a wait place is taken out (R77). Nothing else changes. -/
structure CollectionEnded (s t : State) (l : Line) : Prop where
  rest : t = { s with lines := t.lines, pool := t.pool }
  line : t.line l = { s.line l with
    dial := { (s.line l).dial with collection := .inactive, firstDeadline := none, endDeadline := none }
    hook := { (s.line l).hook with pulseCount := 0 }
    pool := ⟨(s.line l).pool.slot, none, false⟩ }
  noReceiver : (s.line l).pool.receiver = none →
    t.pool = { s.pool with waitQueue := s.pool.waitQueue.filter fun e => e.line != l } ∧ ∀ m, m ≠ l → t.line m = s.line m
  freed : ∀ r, (s.line l).pool.receiver = some r → s.pool.waitQueue = [] →
    t.pool = { s.pool with receivers := s.pool.receivers.set r.val none r.isLt } ∧ ∀ m, m ≠ l → t.line m = s.line m
  handedOn : ∀ r e rest, (s.line l).pool.receiver = some r → s.pool.waitQueue = e :: rest →
    t.pool = { s.pool with
      receivers := s.pool.receivers.set r.val (some (s.assigned e.line)) r.isLt
      waitQueue := rest } ∧
    t.line e.line = { s.line e.line with pool := ⟨(s.line e.line).pool.slot, some r, false⟩ } ∧
    ∀ m, m ≠ l → m ≠ e.line → t.line m = s.line m

/-! ## Settings (R174) -/

/-- Two states agree on every configuration item of R174: the profile table, each line's profile number, service, timeslot and
report mask, the class map, the tone parameter set, the scan setting and threshold index, and the sweep settings. -/
structure SameSettings (s t : State) : Prop where
  profiles : t.profiles = s.profiles
  number : ∀ l, (t.line l).prof.number = (s.line l).prof.number
  service : ∀ l, (t.line l).hook.service = (s.line l).hook.service
  slot : ∀ l, (t.line l).pool.slot = (s.line l).pool.slot
  mask : ∀ l, (t.line l).rep.mask = (s.line l).rep.mask
  classMap : t.reporter.classMap = s.reporter.classMap
  tone : t.tone = s.tone
  setting : t.battery.setting = s.battery.setting
  index : t.battery.index = s.battery.index
  sweepEnabled : t.engine.sweepEnabled = s.engine.sweepEnabled
  sweepInterval : t.engine.sweepInterval = s.engine.sweepInterval
  sweepSteps : t.engine.sweepSteps = s.engine.sweepSteps

/-- The commands that may change a configuration item: the nine setting commands, the two resets that restore the defaults, and
a byte on LRX, which may complete the frame of any command. -/
def configures : Instr → Bool
  | .setProfile _ _ _ | .setLineProfile _ _ _ | .setServiceOut _ _ | .setServiceIn _ _ | .setTimeslot _ _ _ => true
  | .setMask _ _ _ | .setClassMap _ _ | .setToneParams _ _ | .setScan _ _ _ | .setSweep _ _ _ _ => true
  | .powerUpReset | .pinReset | .frameByteArrival _ _ => true
  | .resetnLow | .commandResetEffect | .identify _ | .deviceStatus _ | .lineStatus _ _ | .getProfile _ _ => false
  | .collectOn _ _ | .collectOff _ _ | .readDigits _ _ _ | .testLine _ _ _ _ | .abortTest _ _ | .resumeTests _ => false
  | .getResult _ _ | .ackFaults _ _ _ | .releaseQuarantine _ _ | .reset _ | .unknownKindFrame _ _ | .frameError _ => false
  | .interbyteGapTimeout _ | .frameDiscardedBusy _ | .transmitFrameEnd _ | .sampleRecord _ _ _ _ => false
  | .receiverStart _ _ | .blockCompletion _ _ _ | .firstDigitTimeout _ _ | .endDiallingTimerExpiry _ _ => false
  | .retestTimerExpiry _ _ | .sweepTimerExpiry _ | .batteryReading _ _ | .settlePeriodCompletion _ => false
  | .stepCompletion _ _ _ | .firstFrameSyncPulse _ => false

/-! ## Arrivals and what they leave alone -/

/-- The part time at which an arrival comes; the resets carry none. -/
def arrivalTime : Instr → Option Time
  | .powerUpReset | .resetnLow | .pinReset | .commandResetEffect => none
  | .identify now | .deviceStatus now | .lineStatus now _ | .setProfile now _ _ | .getProfile now _ => some now
  | .setLineProfile now _ _ | .setServiceOut now _ | .setServiceIn now _ | .setTimeslot now _ _ | .setMask now _ _ => some now
  | .setClassMap now _ | .setToneParams now _ | .setScan now _ _ | .setSweep now _ _ _ | .collectOn now _ => some now
  | .collectOff now _ | .readDigits now _ _ | .testLine now _ _ _ | .abortTest now _ | .resumeTests now => some now
  | .getResult now _ | .ackFaults now _ _ | .releaseQuarantine now _ | .reset now | .unknownKindFrame now _ => some now
  | .frameError now | .interbyteGapTimeout now | .frameDiscardedBusy now | .transmitFrameEnd now => some now
  | .sampleRecord now _ _ _ | .receiverStart ⟨_, now⟩ _ | .blockCompletion now _ _ | .firstDigitTimeout now _ => some now
  | .endDiallingTimerExpiry now _ | .retestTimerExpiry now _ | .sweepTimerExpiry now | .batteryReading now _ => some now
  | .settlePeriodCompletion now | .stepCompletion now _ _ | .frameByteArrival now _ | .firstFrameSyncPulse now => some now

/-- The state at the part time of an arrival. -/
def State.at (s : State) (now : Time) : State := { s with partTime := now }

/-- A sample record of line `l` is due at `now`: RESETN is high and the line's next sample time is `now` (R1). -/
structure State.due (s : State) (now : Time) (l : Line) : Prop where
  resetnHigh : s.link.resetnLow = false
  isNext : (s.line l).lsu.nextSample = some now

/-- The LSU fields of a line after stages 1 and 2 of R4: the record has become the last sample, the next sample time is the next
boundary of the line's period, and the OV indication has been counted: against the flag it adds 1, with the flag it sets the count
to 0, and the third in a row turns the flag (R20, R21). -/
def Lsu.sampled (u : Lsu) (now : Time) (i : Nat) (ov : Bool) : Lsu :=
  { u with
    lastSample := some ⟨min i 1200, ov, now⟩
    nextSample := u.period.nextAfter now
    ovRun := if ov = u.ovActive ∨ 2 ≤ u.ovRun then 0 else u.ovRun + 1
    ovActive := if 2 ≤ u.ovRun then ov else u.ovActive }

/-- The OV indication completes an over-voltage run (R20). -/
def Lsu.completesRun (u : Lsu) (ov : Bool) : Bool := !u.ovActive && ov && decide (2 ≤ u.ovRun)

/-- A line's LSU fields with another baseline and the thresholds that R8 computes from it. -/
def Lsu.withBaseline (u : Lsu) (b : Nat) (p : Profile) : Lsu :=
  { u with baseline := b, tSeize := seizeThreshold b p, tRel := releaseThreshold b p }

/-- A sample of the line is usable as it stands: the line is not on the test bus and holds no settle end (R4, stage 3). -/
structure LineRec.clear (r : LineRec) : Prop where
  offBus : r.test.onTestBus = false
  noWindow : r.lsu.settleEnd = none

/-- A line whose settle window ends at a sample at `now` (R19, R42, R80): the settle end is absent, the timings in progress begin
again at `now`, and a receiver the line holds is unheld. -/
def State.windowEnded (s : State) (now : Time) (l : Line) : State :=
  let r := s.line l
  let h := r.hook
  let hook : HookRec := match h.state with
    | .seizing => { h with runStart := some now }
    | .offHook => { h with makeStart := h.makeStart.map fun _ => now }
    | .onBreak => { h with breakStart := some now, makeStart := h.makeStart.map fun _ => now }
    | .outOfService | .learning | .idle | .quarantined => h
  let u := s.setLine l { r with hook := hook, lsu := { r.lsu with settleEnd := none } }
  match r.pool.receiver with
  | some x => u.setReceiver x ((s.receiver x).map fun rec => { rec with held := false })
  | none => u

/-- The pulse digit in progress on a line, if there is one, closed (R34): the count is 0, and 1 to 10 pulses are the digits 1 to 9
and 0 to the Digit Collector, 11 a DIGIT_ERROR. -/
def State.digitClosed (s : State) (l : Line) : State :=
  let r := s.line l
  let n := r.hook.pulseCount
  let u := s.setLine l { r with hook := { r.hook with pulseCount := 0 } }
  if n = 0 then s else if n ≤ 10 then u.collectDigit l (Fin.ofNat 16 (n % 10)) .pulse else u.raise l .digitError

/-- A line on the test bus (R18, R79, R99): relay closed, flag set, no settle end, and a receiver it holds held, not started and
QUIET. -/
def State.onBus (s : State) (l : Line) : State :=
  let r := s.line l
  let u := s.setLine l { r with
    test := { r.test with onTestBus := true, relayClosed := true }
    lsu := { r.lsu with settleEnd := none } }
  match r.pool.receiver with
  | some x => u.setReceiver x ((s.receiver x).map fun rec => { rec with held := true, blockStart := none, detector := .quiet })
  | none => u

/-- A line taken off the test bus at `now` (R19, R99): relay released, flag cleared, and the settle window begun. -/
def State.offBus (s : State) (now : Time) (l : Line) : State :=
  s.setLine l { s.line l with
    test := { (s.line l).test with onTestBus := false, relayClosed := false }
    lsu := { (s.line l).lsu with settleEnd := some (now + 20#32) } }

/-- The context of a queued test that begins at `now` (R107, R100). -/
def TestReq.begun (q : TestReq) (now : Time) : TestCtx :=
  ⟨q.line, if q.auto then .auto else .host, q.steps, ⟨none, none, none, none, none⟩, q.steps.first, some (.settle, now + 20#32),
   q.hostReport, q.force, false, false⟩

/-- The sweep timer as it starts at `now`, if the sweep is enabled (R111). -/
def Engine.timerFrom (e : Engine) (now : Time) : SweepTimer :=
  if e.sweepEnabled then .running (now + BitVec.ofNat 32 (1000 * e.sweepInterval)) else .stopped

/-- The arrival `i` at `now` completes the phase in flight of a test, which holds `values` then (R98, R100). -/
def TestCtx.completes (c : TestCtx) (now : Time) (i : Instr) (values : TestValues) : Prop :=
  (c.phase = some (.settle, now) ∧ i = .settlePeriodCompletion now ∧ values = c.values) ∨
  ∃ q a b, c.phase = some (.measure q, now) ∧ i = .stepCompletion now a b ∧ values = c.values.record q a b

/-- The line's test is in its settle period, begun at `now` (R100). -/
def TestCtx.settling (c : TestCtx) (now : Time) : TestCtx := { c with phase := some (.settle, now + 20#32) }

/-- No line has its owed-test flag at yes. -/
def State.noneOwed (s : State) : Prop := ∀ m, (s.line m).fault.owed = false

/-- A sweep timer after RESUME_TESTS at `now` (R111). -/
def SweepTimer.resumed (t : SweepTimer) (now : Time) : SweepTimer :=
  match t with
  | .remaining ms => .running (now + BitVec.ofNat 32 ms)
  | .stopped => .stopped
  | .running d => .running d

/-- A sweep timer stopped by suspension at `now` (R111). -/
def SweepTimer.paused (t : SweepTimer) (now : Time) : SweepTimer :=
  match t with
  | .running d => .remaining (elapsed d now)
  | .stopped => .stopped
  | .remaining ms => .remaining ms

/-! ## Command frames -/

/-- The part takes commands: RESETN is high, no command reset is under way, and the reply slot is empty (R169, R174). -/
structure State.ready (s : State) : Prop where
  resetnHigh : s.link.resetnLow = false
  noReset : s.link.resetRequested = false
  slotEmpty : s.link.slot = none

/-- The link after a frame has been answered: the receiver is HUNTING, and the reply waits in the slot behind the frame being
sent, or is being sent by a transmitter that was free (R167, R169, R170). -/
def Link.afterReply (k : Link) (r : Reply) : Link :=
  match k.tx with
  | some _ => { k with rx := .hunting, slot := some r }
  | none => { k with rx := .hunting, slot := none, tx := some (.reply r) }

/-- A reply has been given: it waits in the slot, or its frame is the one being sent (R169, R170). -/
def Link.gives (k : Link) (r : Reply) : Prop := k.slot = some r ∨ (k.slot = none ∧ k.tx = some (.reply r))

/-- The state after a command frame that arrives at `now` on a part ready for it has been answered with `r` and has changed
nothing. -/
def State.answered (s : State) (now : Time) (r : Reply) : State := { s with partTime := now, link := s.link.afterReply r }

/-- The frames that the Command Interpreter judges: the command frames, a frame of an unknown kind, and a frame error. -/
def isFrame : Instr → Bool
  | .unknownKindFrame _ kind => !isCommandKind kind
  | .frameError _ => true
  | i => (frameOf i).isSome

/-- The body lengths of the catalogue, kinds 0x01 to 0x16 in order (R172). -/
def bodyLengths : List Nat := [0, 0, 1, 47, 1, 2, 2, 2, 3, 19, 7, 2, 3, 2, 2, 3, 1, 0, 1, 2, 1, 0]

/-- A number as two bytes, high byte first (R172), a negative one in two's complement (R179; DEDUCED, log entry 21). -/
def twoBytes (n : Int) : List Byte := [BitVec.ofInt 8 (n / 256), BitVec.ofInt 8 n]

/-- The ranges of the 23 fields of a profile record in the order of R140, the four enumerated fields as their codes (R172). -/
def profileRanges : List (Nat × Nat) :=
  [(10, 200), (5, 100), (4, 10), (0, 200), (1, 600), (10, 200), (4, 40), (40, 150), (60, 600), (200, 2000), (100, 800), (1, 60),
   (1, 30), (0, 2), (0, 1), (0, 1), (0, 1), (10, 600), (1, 10), (1, 100), (1, 100), (10, 5000), (100, 10000)]

/-- The 23 field values of a SET_PROFILE body clamped to their ranges (R142 step 3). -/
def clampedFields (fields : List (BitVec 16)) : List Nat :=
  (profileRanges.zip fields).map fun (r, x) => clampNat r.1 r.2 x.toNat

/-- The four enumerated fields of a SET_PROFILE body lie in their sets (R142 step 2). -/
def choicesInSet (fields : List (BitVec 16)) : Prop :=
  (fields.getD 13 0).toNat ≤ 2 ∧ (fields.getD 14 0).toNat ≤ 1 ∧ (fields.getD 15 0).toNat ≤ 1 ∧ (fields.getD 16 0).toNat ≤ 1

/-- The clamped break fields are in order (R142 step 4). -/
def breakFieldsInOrder (fields : List (BitVec 16)) : Prop :=
  let c := clampedFields fields
  c.getD 6 0 < c.getD 7 0 ∧ c.getD 7 0 < c.getD 8 0 ∧ c.getD 8 0 < c.getD 9 0

/-- A reply to an accepted command with clamped fields (R171): OK where none was clamped; otherwise CLAMPED with a set of three
bytes whose bit i, bit 0 the least significant bit of the last byte, says whether field i was clamped. -/
def ClampedReply (kind : Byte) (changed : List Bool) (r : Reply) : Prop :=
  r.kind = kind ∧
  ((∀ b ∈ changed, b = false) → r.status = .ok ∧ r.data = []) ∧
  ((∃ b ∈ changed, b = true) → r.status = .clamped ∧ r.data.length = 3 ∧
    ∀ i < 24, (r.data.getD (2 - i / 8) 0).getLsbD (i % 8) = changed.getD i false)

/-- What a command that raises one event leaves in the link and the queues (R163, R169, R170): with a frame being sent, the event in
its queue and the reply in the slot; with the transmitter free, the event's frame begun and the reply in the slot, or the
reply's frame begun and the event in its queue. -/
def EventAndReply (s t : State) (c : EventClass) (e : Event) (r : Reply) : Prop :=
  (s.link.tx.isSome = true ∧ t.link = { s.link with rx := .hunting, slot := some r } ∧ t.reporter = s.reporter.enqueue c e) ∨
  (s.link.tx = none ∧ t.link = { s.link with rx := .hunting, slot := some r, tx := some (.event e) } ∧
    t.reporter = s.reporter) ∨
  (s.link.tx = none ∧ t.link = { s.link with rx := .hunting, tx := some (.reply r) } ∧ t.reporter = s.reporter.enqueue c e)

/-- The byte of a line number. -/
def lineByte (l : Line) : Byte := byteOf l.val

/-- The byte of a profile number. -/
def profileByte (p : ProfNo) : Byte := byteOf p.val

/-- A list of bytes arrives on LRX at `now`, one FRAME_BYTE_ARRIVAL each (R167). -/
def feedBytes (now : Time) : List Byte → State → Host.Outcome State Fault Refusal
  | [], s => .next s
  | b :: rest, s =>
    match exec (.frameByteArrival now b) s with
    | .next t => feedBytes now rest t
    | .fault f => .fault f
    | .refused r => .refused r

end Sys2Proof.Machine
end

