-- ==== Sys2Proof/Certificates/Slice0/Obligations.lean ====
section
/-! DEFINITION. The statements for the provers, each from the rules its docstring names. -/

open Sys2Proof Sys2Proof.Machine

/-! ## The queue, resets and arrivals -/

/-- The block takes the command at the front of its queue and runs it on the rest; with an empty queue it idles (the model's own
choice, log entry 1). -/
def Obligations.StepRunsFrontCommand : Prop :=
  (∀ (c : Instr) (s : State), step { s with pending := c :: s.pending } = exec c s) ∧
  (∀ s : State, s.pending = [] → step s = .next s)

/-- Every command is answered with a next state, leaves the queue alone, and sets the part time to its own, unless RESETN is low
or the command reset takes effect (the queue, and that an arrival carries its part time, are the model's own choice, log entry 1). -/
def Obligations.CommandsAnswerAndKeepQueue : Prop :=
  ∀ (c : Instr) (s : State), ∃ t, exec c s = .next t ∧ t.pending = s.pending ∧
    (∀ now, arrivalTime c = some now → s.link.resetnLow = false → s.sendingResetReply = false → t.partTime = now)

/-- R23, R149 (with R48, R67, R82, R96, R122, R139, R156, R165): what a power-up and a pin reset leave, field by field. That RESETN
is high after a power-up and that PIN_RESET acts in every state (log entry 10), and that the frame of START is being sent already
(log entry 19), is the model's own choice. -/
def Obligations.PowerUpAndPinReset : Prop :=
  ∀ (s : State) (c : Instr) (cause : ResetCause),
    (c = .powerUpReset ∧ cause = .power) ∨ (c = .pinReset ∧ cause = .pin) →
    ∃ t, exec c s = .next t ∧
      t.partTime = 0#32 ∧
      (∀ p, t.profile p = ⟨60, 20, 7, 80, 30, 30, 16, 90, 120, 800, 200, 15, 4, .both, true, false, true, 60, 2, 10, 20, 150, 2000⟩) ∧
      (∀ l : Line,
        (t.line l).lsu = ⟨.ms2, some 2#32, none, 0, false, 0, 60, 40, some 512#32, none, false, none⟩ ∧
        (t.line l).hook = ⟨.serviceIn, .learning, none, none, none, 0, false, false⟩ ∧
        (t.line l).dial = ⟨.inactive, .undetermined, [], false, none, none⟩ ∧
        (t.line l).pool.slot.val = l.val ∧ (t.line l).pool.receiver = none ∧ (t.line l).pool.waiting = false ∧
        (t.line l).test = ⟨false, false, none⟩ ∧
        (t.line l).fault = ⟨0#6, 0, none, false⟩ ∧
        (t.line l).prof.number = 0 ∧ (t.line l).prof.working = t.profile 0 ∧
        (t.line l).rep = ⟨0xFFFF#16, 0#16⟩) ∧
      (∀ r, t.receiver r = none) ∧ t.pool.waitQueue = [] ∧ t.pool.grid = none ∧
      t.tone = ⟨-60, 8, 16, 12, 20, 3, 2⟩ ∧
      t.engine = ⟨.idle, false, [], none, none, true, 2, 0b01111#5, 31, .running 2000#32, false⟩ ∧
      t.battery = ⟨none, 2, .normal, .auto, .normal⟩ ∧
      t.reporter.prio = [] ∧ t.reporter.norm = [] ∧ t.reporter.prioOverflow = false ∧ t.reporter.normOverflow = false ∧
      (∀ k : Fin 19, t.reporter.classMap.get k = if k.val ∈ [10, 11, 12, 13, 14, 16] then .priority else .normal) ∧
      t.link = ⟨.hunting, none, false, some (.event (.device 0#16 (.start cause))), cause, false, false⟩

/-- R24, R150 (with R49, R67, R83, R96, R123, R139, R156, R165, R174): what the command reset leaves, at the end of the RESET
reply's frame. The thresholds of a line kept out of service are DEDUCED (log entry 11). -/
def Obligations.CommandResetEffect : Prop :=
  ∀ s : State, s.link.resetnLow = false → s.link.resetRequested = true →
    s.link.tx = some (.reply ⟨0x16#8, .ok, []⟩) →
    ∃ t, exec .commandResetEffect s = .next t ∧ SameSettings s t ∧
      t.partTime = 0#32 ∧
      t.battery.mode = (if s.battery.setting = .economy then .economy else .normal) ∧
      t.battery.reading = none ∧ t.battery.state = .normal ∧
      (∀ l : Line,
        (t.line l).prof.working = s.profile (s.line l).prof.number ∧
        (t.line l).hook = ⟨(s.line l).hook.service,
          if (s.line l).hook.service = .serviceIn then .learning else .outOfService, none, none, none, 0, false, false⟩ ∧
        (t.line l).lsu.tSeize = seizeThreshold 0 (s.profile (s.line l).prof.number) ∧
        (t.line l).lsu.tRel = releaseThreshold 0 (s.profile (s.line l).prof.number) ∧
        (t.line l).lsu.lastSample = none ∧ (t.line l).lsu.ovRun = 0 ∧ (t.line l).lsu.ovActive = false ∧
        (t.line l).lsu.baseline = 0 ∧ (t.line l).lsu.leakClamp = none ∧ (t.line l).lsu.leakReported = false ∧
        (t.line l).lsu.settleEnd = none ∧
        ((s.line l).hook.service = .serviceIn → (t.line l).lsu.learningEnd = some 512#32 ∧
          (t.battery.mode = .normal → (t.line l).lsu.period = .ms2 ∧ (t.line l).lsu.nextSample = some 2#32) ∧
          (t.battery.mode = .economy → (t.line l).lsu.period = .ms8 ∧ (t.line l).lsu.nextSample = some 8#32)) ∧
        ((s.line l).hook.service = .serviceOut → (t.line l).lsu.learningEnd = none ∧
          (t.line l).lsu.period = .notSampled ∧ (t.line l).lsu.nextSample = none) ∧
        (t.line l).dial = ⟨.inactive, .undetermined, [], false, none, none⟩ ∧
        (t.line l).pool.receiver = none ∧ (t.line l).pool.waiting = false ∧
        (t.line l).test = ⟨false, false, none⟩ ∧ (t.line l).fault = ⟨0#6, 0, none, false⟩ ∧ (t.line l).rep.latched = 0#16) ∧
      (∀ r, t.receiver r = none) ∧ t.pool.waitQueue = [] ∧ t.pool.grid = none ∧
      t.engine.state = .idle ∧ t.engine.suspendPending = false ∧ t.engine.queue = [] ∧ t.engine.running = none ∧
      t.engine.heldSweep = none ∧ t.engine.cursor = 31 ∧ t.engine.sweepDue = false ∧
      t.engine.sweepTimer =
        (if s.engine.sweepEnabled then .running (BitVec.ofNat 32 (1000 * s.engine.sweepInterval)) else .stopped) ∧
      t.reporter.prio = [] ∧ t.reporter.norm = [] ∧ t.reporter.prioOverflow = false ∧ t.reporter.normOverflow = false ∧
      t.link = ⟨.hunting, none, false, some (.event (.device 0#16 (.start .command))), .command, false, false⟩

/-- R174, RESETN low (what else the part's state holds in that time is the model's own choice, log entry 10): the frame being
sent stops, and until a reset the part takes nothing. R174, the RESET command: it is answered OK and nothing else changes; from
then on every frame is discarded without a reply, and the end of the reply's frame is the reset's taking effect (that
TRANSMIT_FRAME_END and COMMAND_RESET_EFFECT tell of the same end of that frame is DEDUCED, log entry 14). -/
def Obligations.ResetsHoldThePart : Prop :=
  (∀ s : State, exec .resetnLow s = .next { s with link := { s.link with resetnLow := true, tx := none } }) ∧
  (∀ (s : State) (c : Instr) (now : Time), s.link.resetnLow = true → arrivalTime c = some now → exec c s = .next s) ∧
  (∀ s : State, s.link.resetnLow = true → exec .commandResetEffect s = .next s) ∧
  (∀ (s : State) (now : Time), s.ready →
    exec (.reset now) s = .next { s with
      partTime := now
      link := { s.link.afterReply ⟨0x16#8, .ok, []⟩ with resetRequested := true } }) ∧
  (∀ (s : State) (now : Time) (c : Instr), s.link.resetnLow = false → s.link.resetRequested = true → isFrame c = true →
    arrivalTime c = some now →
    exec c s = .next { s with partTime := now, link := { s.link with rx := .hunting } }) ∧
  (∀ (s : State) (now : Time), s.link.resetnLow = false → s.link.resetRequested = true →
    s.link.tx = some (.reply ⟨0x16#8, .ok, []⟩) → exec (.transmitFrameEnd now) s = exec .commandResetEffect s)

/-! ## Frames -/

/-- R169: while the slot holds a reply behind a frame being sent, a good frame or a frame error is not executed and sets
busy-pending. R167, R171: a frame error and a good frame of an unknown kind are answered and change nothing. A
FRAME_DISCARDED_BUSY that meets an empty slot does nothing (the model's own choice, log entry 15). -/
def Obligations.FramesAreTurnedAwayOrAnswered : Prop :=
  (∀ (s : State) (now : Time) (c : Instr) (r : Reply) (f : TxFrame),
    s.link.resetnLow = false → s.link.resetRequested = false → s.link.slot = some r → s.link.tx = some f →
    isFrame c = true ∨ c = .frameDiscardedBusy now → arrivalTime c = some now →
    exec c s = .next { s with partTime := now, link := { s.link with rx := .hunting, busyPending := true } }) ∧
  (∀ (s : State) (now : Time), s.ready → exec (.frameError now) s = .next (s.answered now ⟨0#8, .frameError, []⟩)) ∧
  (∀ (s : State) (now : Time) (kind : Byte), s.ready → isCommandKind kind = false →
    exec (.unknownKindFrame now kind) s = .next (s.answered now ⟨kind, .unknown, []⟩)) ∧
  (∀ (s : State) (now : Time), s.ready → exec (.frameDiscardedBusy now) s = .next (s.at now))

/-- R167: what a byte on LRX does to the frame receiver, short of the completion of a good frame, and what a gap does (that the
INTERBYTE_GAP_TIMEOUT acts from a count of 4 ms on is DEDUCED, log entry 13). -/
def Obligations.FrameReceiverTakesBytes : Prop :=
  ∀ (s : State) (now : Time) (b : Byte), s.link.resetnLow = false →
    let hunted : Host.Outcome State Fault Refusal := .next { s with
      partTime := now
      link := { s.link with rx := if b = 0xC3#8 then .collecting [] now else .hunting } }
    (s.link.rx = .hunting → exec (.frameByteArrival now b) s = hunted ∧ exec (.interbyteGapTimeout now) s = .next (s.at now)) ∧
    (∀ got last, s.link.rx = .collecting got last →
      let all := got ++ [b]
      let n := (all.headD 0#8).toNat
      (4 < elapsed now last → exec (.frameByteArrival now b) s = hunted) ∧
      (elapsed now last ≤ 4 → n = 0 ∨ 64 < n → exec (.frameByteArrival now b) s = exec (.frameError now) s) ∧
      (elapsed now last ≤ 4 → 1 ≤ n → n ≤ 64 → all.length < n + 3 →
        exec (.frameByteArrival now b) s =
          .next { s with partTime := now, link := { s.link with rx := .collecting all now } }) ∧
      (elapsed now last ≤ 4 → 1 ≤ n → n ≤ 64 → all.length = n + 3 →
        all.drop (n + 1) ≠ wordBytes (crc (all.take (n + 1))) →
        exec (.frameByteArrival now b) s = exec (.frameError now) s) ∧
      (4 ≤ elapsed now last →
        exec (.interbyteGapTimeout now) s = .next { s with partTime := now, link := { s.link with rx := .hunting } }) ∧
      (elapsed now last < 4 → exec (.interbyteGapTimeout now) s = .next (s.at now)))

/-- R168: the check is the remainder of x^16 times the message, its register begun at all ones, by x^16 + x^12 + x^5 + 1, each
byte most significant bit first; the nine bytes 0x31 to 0x39 give 0x29B1; and every frame sent carries the check of its length
byte, kind and body, high byte first. -/
def Obligations.FrameCheckIsPolynomialRemainder : Prop :=
  (∀ message : List Byte,
    let poly : List Bool → Polynomial (ZMod 2) :=
      fun bits => bits.foldl (fun p b => p * Polynomial.X + if b then 1 else 0) 0
    let bitsOf : List Byte → List Bool := fun bytes => bytes.flatMap fun b => (List.range 8).map fun i => b.getLsbD (7 - i)
    (Polynomial.X ^ 16 + Polynomial.X ^ 12 + Polynomial.X ^ 5 + 1 : Polynomial (ZMod 2)) ∣
      poly (List.replicate 16 true) * Polynomial.X ^ (8 * message.length) + poly (bitsOf message) * Polynomial.X ^ 16 -
        poly ((List.range 16).map fun i => (crc message).getLsbD (15 - i))) ∧
  crc [0x31#8, 0x32#8, 0x33#8, 0x34#8, 0x35#8, 0x36#8, 0x37#8, 0x38#8, 0x39#8] = 0x29B1#16 ∧
  (∀ f : TxFrame, ∃ covered : List Byte,
    f.bytes = 0xC3#8 :: covered ++ [(crc covered).extractLsb' 8 8, (crc covered).extractLsb' 0 8])

/-- R175 to R177: the bytes of reply frames, of the BUSY reply and of event frames. R171: the status codes. R158, R177: the event
codes. -/
def Obligations.SentFramesAreLaidOut : Prop :=
  (∀ r : Reply, ∃ check, check.length = 2 ∧
    (TxFrame.reply r).bytes =
      [0xC3#8, BitVec.ofNat 8 (r.data.length + 3), 0x80#8, r.kind, match r.status with
        | .ok => 0#8
        | .clamped => 1#8
        | .unknown => 2#8
        | .badLength => 3#8
        | .badArgument => 4#8
        | .badOrder => 5#8
        | .lineIdle => 6#8
        | .lineBusy => 7#8
        | .suspended => 8#8
        | .queueFull => 9#8
        | .notFound => 10#8
        | .notSuspended => 11#8
        | .stillAlarmed => 12#8
        | .slotInUse => 13#8
        | .notQuarantined => 14#8
        | .frameError => 15#8
        | .busy => 16#8] ++ r.data ++ check) ∧
  (∃ check, check.length = 2 ∧ TxFrame.busy.bytes = [0xC3#8, 3#8, 0x80#8, 0#8, 16#8] ++ check) ∧
  (∀ e : Event, ∃ (body check : List Byte), check.length = 2 ∧
    (TxFrame.event e).bytes = [0xC3#8, BitVec.ofNat 8 (body.length + 1), 0x40#8] ++ body ++ check ∧
    match e with
    | .line l time b =>
      let coded : Byte × List Byte := match b with
        | .offHook => (1#8, [])
        | .onHook => (2#8, [])
        | .flash => (3#8, [])
        | .digit k m => (4#8, [BitVec.ofNat 8 k.val, if m = .pulse then 1#8 else 2#8])
        | .digitError => (5#8, [])
        | .firstDigitTimeout => (6#8, [])
        | .diallingEnd r => (7#8, [if r = .timeout then 0#8 else 1#8])
        | .testDone r => (8#8, r.bytes)
        | .testAborted r => (9#8, r.bytes)
        | .testDropped => (10#8, [0#8])
        | .fault k => (11#8, [k.setWidth 8])
        | .leakage => (12#8, [])
        | .powerCross => (13#8, [])
        | .quarantined => (14#8, [])
        | .faultCleared => (15#8, [])
        | .profileApplied => (16#8, [])
      body = [coded.1, BitVec.ofNat 8 l.val, time.extractLsb' 8 8, time.extractLsb' 0 8] ++ coded.2
    | .device time b =>
      let coded : Byte × List Byte := match b with
        | .start cause => (17#8, [match cause with
            | .power => 0#8
            | .pin => 1#8
            | .command => 2#8, 1#8])
        | .battery volts st => (18#8, [BitVec.ofNat 8 volts, if st = .normal then 0#8 else 1#8])
        | .scanMode m => (19#8, [if m = .normal then 0#8 else 1#8])
        | .overflow q => (20#8, [if q = .priority then 0#8 else 1#8])
      body = [coded.1, 0xFF#8, time.extractLsb' 8 8, time.extractLsb' 0 8] ++ coded.2) ∧
  (∀ b : LineEvent, b.kind.val + 1 = match b with
    | .offHook => 1
    | .onHook => 2
    | .flash => 3
    | .digit _ _ => 4
    | .digitError => 5
    | .firstDigitTimeout => 6
    | .diallingEnd _ => 7
    | .testDone _ => 8
    | .testAborted _ => 9
    | .testDropped => 10
    | .fault _ => 11
    | .leakage => 12
    | .powerCross => 13
    | .quarantined => 14
    | .faultCleared => 15
    | .profileApplied => 16)

/-- R167, R168, R172, R175: the bytes of a command frame, arriving one after another, end in the command itself, for every
command of the catalogue and every value of its fields. R167, R171, R172: the bytes of every other frame. -/
def Obligations.FramesDecodeToTheirCommands : Prop :=
  (∀ (c : Instr) (kind : Byte) (body : List Byte) (now : Time) (s : State),
    frameOf c = some (kind, body) → c.wf = true → arrivalTime c = some now → s.link.rx = .hunting →
    feedBytes now (frameBytes kind body) s = exec c s) ∧
  (∀ (kind : Byte) (body : List Byte) (now : Time) (s : State), body.length ≤ 63 → s.link.rx = .hunting →
    (isCommandKind kind = false → feedBytes now (frameBytes kind body) s = exec (.unknownKindFrame now kind) s) ∧
    (s.ready → isCommandKind kind = true → body.length ≠ bodyLengths.getD (kind.toNat - 1) 0 →
      feedBytes now (frameBytes kind body) s = .next (s.answered now ⟨kind, .badLength, []⟩)) ∧
    (∀ line choice : Byte, s.ready → kind = 0x07#8 ∨ kind = 0x0E#8 → body = [line, choice] → 2 ≤ choice.toNat →
      feedBytes now (frameBytes kind body) s = .next (s.answered now ⟨kind, .badArgument, []⟩)) ∧
    (∀ a b : Byte, [a, b] ≠ wordBytes (crc (BitVec.ofNat 8 (body.length + 1) :: kind :: body)) →
      feedBytes now (0xC3#8 :: BitVec.ofNat 8 (body.length + 1) :: kind :: body ++ [a, b]) s = exec (.frameError now) s))

/-! ## The transmitter and the event queues -/

/-- R164, R170: a transmitter that finishes a frame takes the first that applies of the reply, a BUSY reply, the PRIORITY head
and the NORMAL head. A TRANSMIT_FRAME_END with no frame being sent does nothing (the model's own choice, log entry 15). -/
def Obligations.TransmitterTakesFirstThatApplies : Prop :=
  ∀ (s : State) (now : Time), s.link.resetnLow = false →
    (s.link.tx = none → exec (.transmitFrameEnd now) s = .next (s.at now)) ∧
    (∀ f, s.link.tx = some f → s.sendingResetReply = false →
      (∀ r, s.link.slot = some r → exec (.transmitFrameEnd now) s =
        .next { s with partTime := now, link := { s.link with slot := none, tx := some (.reply r) } }) ∧
      (s.link.slot = none → s.link.busyPending = true → exec (.transmitFrameEnd now) s =
        .next { s with partTime := now, link := { s.link with busyPending := false, tx := some .busy } }) ∧
      (s.link.slot = none → s.link.busyPending = false →
        (∀ e rest, s.reporter.prio = e :: rest → exec (.transmitFrameEnd now) s = .next { s with
          partTime := now
          link := { s.link with tx := some (.event e) }
          reporter := { s.reporter with
            prio := if s.reporter.prioOverflow then rest ++ [.device (now.setWidth 16) (.overflow .priority)] else rest
            prioOverflow := false } }) ∧
        (∀ e rest, s.reporter.prio = [] → s.reporter.norm = e :: rest → exec (.transmitFrameEnd now) s = .next { s with
          partTime := now
          link := { s.link with tx := some (.event e) }
          reporter := { s.reporter with
            norm := if s.reporter.normOverflow then rest ++ [.device (now.setWidth 16) (.overflow .normal)] else rest
            normOverflow := false } }) ∧
        (s.reporter.prio = [] → s.reporter.norm = [] → exec (.transmitFrameEnd now) s =
          .next { s with partTime := now, link := { s.link with tx := none } })))

/-- R170: a transmitter that is free has nothing to send, and every step keeps that so. -/
def Obligations.FreeTransmitterHasNothingToSend : Prop :=
  ∀ s t : State, FreeMeansNothingToSend s → step s = .next t → FreeMeansNothingToSend t

/-- R160 to R163, R170: what raising an event does to the latched set, the queues and a free transmitter. -/
def Obligations.RaisedEventsAreLatchedAndQueued : Prop :=
  ∀ s : State, LawEleven s → FreeMeansNothingToSend s → s.link.resetnLow = false →
    let sent (t : State) (e : Event) (c : EventClass) : Prop :=
      t = { s with lines := t.lines, reporter := t.reporter, link := t.link } ∧
      (s.link.tx = none → t.reporter = s.reporter ∧ t.link = { s.link with tx := some (.event e) }) ∧
      (s.link.tx.isSome = true → t.link = s.link ∧
        (c = .priority → t.reporter = if s.reporter.prio.length < 16
          then { s.reporter with prio := s.reporter.prio ++ [e] } else { s.reporter with prioOverflow := true }) ∧
        (c = .normal → t.reporter = if s.reporter.norm.length < 48
          then { s.reporter with norm := s.reporter.norm ++ [e] } else { s.reporter with normOverflow := true }))
    (∀ (l : Line) (b : LineEvent),
      let t := s.raise l b
      t.line l = { s.line l with rep := { (s.line l).rep with
        latched := (s.line l).rep.latched ||| BitVec.twoPow 16 b.kind.val } } ∧
      (∀ m, m ≠ l → t.line m = s.line m) ∧
      ((s.line l).rep.mask.getLsbD b.kind.val = false → t = { s with lines := t.lines }) ∧
      ((s.line l).rep.mask.getLsbD b.kind.val = true →
        sent t (.line l (s.partTime.setWidth 16) b) (s.reporter.classMap.get (Fin.castLE (by decide) b.kind)))) ∧
    (∀ (volts : Nat) (st : BatteryState),
      (s.raiseDevice (.battery volts st)).lines = s.lines ∧
      sent (s.raiseDevice (.battery volts st)) (.device (s.partTime.setWidth 16) (.battery volts st))
        (s.reporter.classMap.get 17)) ∧
    (∀ m : ScanMode,
      (s.raiseDevice (.scanMode m)).lines = s.lines ∧
      sent (s.raiseDevice (.scanMode m)) (.device (s.partTime.setWidth 16) (.scanMode m)) (s.reporter.classMap.get 18))

/-- Law 11 (R163): every step keeps it. -/
def Obligations.LawElevenIsKept : Prop :=
  ∀ s t : State, LawEleven s → step s = .next t → LawEleven t

/-! ## Queries -/

/-- R180 (with R173): IDENTIFY and DEVICE_STATUS give their data and change nothing. R181 (with R160, R173): LINE_STATUS gives
its thirty bytes and then empties the line's latched set; a line outside 0 to 31 is refused. -/
def Obligations.StatusRepliesShowTheState : Prop :=
  (∀ (s : State) (now : Time), s.ready →
    exec (.identify now) s = .next (s.answered now ⟨0x01#8, .ok,
      [0x0E#8, 0x20#8, 1#8, 32#8, 8#8, 8#8, match s.link.resetCause with
        | .power => 0#8
        | .pin => 1#8
        | .command => 2#8]⟩) ∧
    exec (.deviceStatus now) s = .next (s.answered now ⟨0x02#8, .ok,
      [if s.battery.mode = .normal then 0#8 else 1#8,
       match s.battery.reading with
        | some v => BitVec.ofNat 8 v
        | none => 0xFF#8,
       if s.battery.state = .normal then 0#8 else 1#8,
       match s.engine.state with
        | .idle => 0#8
        | .running => 1#8
        | .stepping => 2#8
        | .suspended => 3#8,
       BitVec.ofNat 8 s.engine.queue.length,
       (match s.engine.running, s.engine.heldSweep with
        | some c, h => if c.phase = none then BitVec.ofNat 8 c.line.val else (h.map fun h => BitVec.ofNat 8 h.line.val).getD 0xFF#8
        | none, some h => BitVec.ofNat 8 h.line.val
        | none, none => 0xFF#8),
       BitVec.ofNat 8 ((List.finRange 8).countP fun r => s.receiver r = none),
       BitVec.ofNat 8 s.pool.waitQueue.length,
       BitVec.ofNat 8 s.reporter.prio.length, if s.reporter.prioOverflow then 1#8 else 0#8,
       BitVec.ofNat 8 s.reporter.norm.length, if s.reporter.normOverflow then 1#8 else 0#8]⟩)) ∧
  (∀ (s : State) (now : Time) (b : Byte), s.ready → 32 ≤ b.toNat →
    exec (.lineStatus now b) s = .next (s.answered now ⟨0x03#8, .badArgument, []⟩)) ∧
  (∀ (s : State) (now : Time) (l : Line), s.ready →
    let r := s.line l
    let flag (b : Bool) : Byte := if b then 1#8 else 0#8
    exec (.lineStatus now (lineByte l)) s =
      .next ((s.setLine l { r with rep := { r.rep with latched := 0#16 } }).answered now ⟨0x03#8, .ok,
        [BitVec.ofNat 8 l.val,
         match r.hook.state with
          | .outOfService => 0#8
          | .learning => 1#8
          | .idle => 2#8
          | .seizing => 3#8
          | .offHook => 4#8
          | .onBreak => 5#8
          | .quarantined => 6#8,
         if r.hook.service = .serviceIn then 1#8 else 0#8,
         BitVec.ofNat 8 r.prof.number.val, flag r.hook.pendingProfile,
         BitVec.ofNat 8 (r.lsu.baseline / 4096)] ++
        twoBytes (r.lsu.baseline % 4096 : Nat) ++ twoBytes r.lsu.tSeize ++ twoBytes r.lsu.tRel ++
        (match r.lsu.lastSample with
          | some x => [1#8] ++ twoBytes x.current ++ [flag x.ov] ++
              [x.time.extractLsb' 8 8, x.time.extractLsb' 0 8]
          | none => [0#8, 0#8, 0#8, 0#8, 0#8, 0#8]) ++
        [match r.dial.collection with
          | .inactive => 0#8
          | .waitFirst => 1#8
          | .collecting => 2#8,
         match r.dial.mode with
          | .undetermined => 0#8
          | .pulse => 1#8
          | .tone => 2#8,
         BitVec.ofNat 8 r.dial.buffer.length,
         match r.pool.receiver with
          | some x => BitVec.ofNat 8 x.val
          | none => 0xFF#8,
         if l ∈ s.pool.waitQueue.map (fun e => e.line)
          then BitVec.ofNat 8 ((s.pool.waitQueue.map fun e => e.line).idxOf l + 1) else 0#8,
         (if r.test.onTestBus then 1#8 else 0#8) ||| (if l ∈ s.engine.queue.map (fun q => q.line) then 2#8 else 0#8) |||
          (if r.fault.owed then 4#8 else 0#8),
         r.fault.sticky.setWidth 8, flag r.hook.pendingQuarantine, BitVec.ofNat 8 r.fault.clearCount, flag r.lsu.ovActive,
         r.rep.latched.extractLsb' 8 8, r.rep.latched.extractLsb' 0 8]⟩))

/-- R144: GET_PROFILE gives the record as the table holds it and changes nothing (the codes of its enumerated fields are DEDUCED,
log entry 4). R179 (with R110): GET_RESULT gives the line's last record, which stays, or NOT_FOUND (that the signed volts are sent in
two's complement is DEDUCED, log entry 21). -/
def Obligations.ProfilesAndResultsAreShown : Prop :=
  (∀ (s : State) (now : Time) (b : Byte), s.ready → 8 ≤ b.toNat →
    exec (.getProfile now b) s = .next (s.answered now ⟨0x05#8, .badArgument, []⟩)) ∧
  (∀ (s : State) (now : Time) (p : ProfNo), s.ready →
    let v := s.profile p
    exec (.getProfile now (profileByte p)) s = .next (s.answered now ⟨0x05#8, .ok, BitVec.ofNat 8 p.val ::
      ([v.seizeMargin, v.hysteresis, v.trackShift, v.leakMax, v.leakAlarmTime, v.seizeTime, v.hitMax, v.pulseMax, v.flashMin,
        v.releaseMin, v.interdigit, v.firstDigitTimeout, v.endTimeout,
        (match v.dialModes with
          | .pulse => 0
          | .tone => 1
          | .both => 2),
        if v.autoCollect then 1 else 0, if v.receiverPriority then 1 else 0, if v.quarantineOnFault then 1 else 0,
        v.retestInterval, v.clearCount, v.fvDcLimit, v.fvAcLimit, v.irLimit, v.lowLoopLimit].flatMap
          fun x : Nat => twoBytes x)⟩)) ∧
  (∀ (s : State) (now : Time) (b : Byte), s.ready → 32 ≤ b.toNat →
    exec (.getResult now b) s = .next (s.answered now ⟨0x13#8, .badArgument, []⟩)) ∧
  (∀ (s : State) (now : Time) (l : Line), s.ready →
    ((s.line l).test.lastResult = none →
      exec (.getResult now (lineByte l)) s = .next (s.answered now ⟨0x13#8, .notFound, []⟩)) ∧
    (∀ r, (s.line l).test.lastResult = some r →
      exec (.getResult now (lineByte l)) s = .next (s.answered now ⟨0x13#8, .ok,
        [BitVec.ofNat 8 r.line.val,
         match r.origin with
          | .host => 0#8
          | .auto => 1#8
          | .sweep => 2#8,
         r.steps.setWidth 8,
         (if r.values.dcv.isSome then 1#8 else 0#8) ||| (if r.values.acv.isSome then 2#8 else 0#8) |||
          (if r.values.irt.isSome then 4#8 else 0#8) ||| (if r.values.irr.isSome then 8#8 else 0#8) |||
          (if r.values.rtr.isSome then 16#8 else 0#8),
         match r.completion with
          | .done => 0#8
          | .aborted => 1#8
          | .abandoned => 2#8,
         match r.verdict with
          | some v => v.setWidth 8
          | none => 0xFF#8] ++
        (match r.values.dcv with
          | some (tip, ring) => twoBytes tip ++ twoBytes ring
          | none => [0#8, 0#8, 0#8, 0#8]) ++
        ([r.values.acv, r.values.irt, r.values.irr, r.values.rtr].flatMap fun v => match v with
          | some x => twoBytes (x : Nat)
          | none => [0#8, 0#8])⟩)))

/-! ## Profiles, service, timeslots and masks -/

/-- R142, R171: the refusals of SET_PROFILE, in their order; a refused command changes nothing. R142, R143 (with R9, R146, R171):
an accepted SET_PROFILE replaces the record with the clamped values, applies it to every line of that number that is not busy and
stages it on every busy one. Which record the clamped values are rests on the codes of the enumerated fields (DEDUCED, log
entry 4). -/
def Obligations.SetProfileJudgesAndReplaces : Prop :=
  (∀ (s : State) (now : Time) (b : Byte) (fields : List (BitVec 16)), s.ready →
    (fields.length ≠ 23 → exec (.setProfile now b fields) s = .next (s.answered now ⟨0x04#8, .badLength, []⟩)) ∧
    (fields.length = 23 → 8 ≤ b.toNat ∨ ¬ choicesInSet fields →
      exec (.setProfile now b fields) s = .next (s.answered now ⟨0x04#8, .badArgument, []⟩)) ∧
    (fields.length = 23 → b.toNat < 8 → choicesInSet fields → ¬ breakFieldsInOrder fields →
      exec (.setProfile now b fields) s = .next (s.answered now ⟨0x04#8, .badOrder, []⟩))) ∧
  (∀ (s : State) (now : Time) (p : ProfNo) (fields : List (BitVec 16)), s.ready → fields.length = 23 → choicesInSet fields →
    breakFieldsInOrder fields →
    ∃ (v : Profile) (r : Reply), v.toFields = clampedFields fields ∧
      ClampedReply 0x04#8 ((clampedFields fields).zipWith (fun c x => c != x.toNat) fields) r ∧
      exec (.setProfile now (profileByte p) fields) s = .next { s with
        partTime := now
        profiles := s.profiles.set p.val v p.isLt
        lines := Vector.ofFn fun l =>
          if (s.line l).prof.number = p then
            if (s.line l).hook.state.busy then { s.line l with hook := { (s.line l).hook with pendingProfile := true } }
            else (s.line l).applied v
          else s.line l
        link := s.link.afterReply r })

/-- R145: SET_LINE_PROFILE by the line's hook state and its present number. -/
def Obligations.SetLineProfileAppliesOrStages : Prop :=
  (∀ (s : State) (now : Time) (b n : Byte), s.ready → 32 ≤ b.toNat ∨ 8 ≤ n.toNat →
    exec (.setLineProfile now b n) s = .next (s.answered now ⟨0x06#8, .badArgument, []⟩)) ∧
  (∀ (s : State) (now : Time) (l : Line) (p : ProfNo), s.ready →
    let r := s.line l
    ((s.line l).hook.state.busy = false →
      exec (.setLineProfile now (lineByte l) (profileByte p)) s = .next ((s.setLine l
        ({ r with prof := { r.prof with number := p } }.applied (s.profile p))).answered now ⟨0x06#8, .ok, []⟩)) ∧
    ((s.line l).hook.state.busy = true → (s.line l).prof.number = p →
      exec (.setLineProfile now (lineByte l) (profileByte p)) s = .next (s.answered now ⟨0x06#8, .ok, []⟩)) ∧
    ((s.line l).hook.state.busy = true → (s.line l).prof.number ≠ p →
      exec (.setLineProfile now (lineByte l) (profileByte p)) s = .next ((s.setLine l
        { r with prof := { r.prof with number := p }, hook := { r.hook with pendingProfile := true } }).answered now
          ⟨0x06#8, .ok, []⟩)))

/-- R46 (with R3, R9, R13, R17, R22, R63, R76, R77, R136, R147): SET_SERVICE OUT. R47 (with R3, R11): SET_SERVICE IN puts an out-of-service
line into LEARNING and leaves any other line alone. -/
def Obligations.SetServiceTakesLinesOutAndIn : Prop :=
  (∀ (s : State) (now : Time) (b : Byte), s.ready → 32 ≤ b.toNat →
    exec (.setServiceOut now b) s = .next (s.answered now ⟨0x07#8, .badArgument, []⟩)) ∧
  (∀ (s : State) (now : Time) (l : Line), s.ready → (s.line l).hook.state = .outOfService →
    exec (.setServiceOut now (lineByte l)) s = .next (s.answered now ⟨0x07#8, .ok, []⟩)) ∧
  (∀ (s : State) (now : Time) (l : Line), s.ready → CallLaws s → PoolLaws s → (s.line l).hook.state ≠ .outOfService →
    let r := s.line l
    ∃ t, exec (.setServiceOut now (lineByte l)) s = .next t ∧ t.link.gives ⟨0x07#8, .ok, []⟩ ∧
      t = { s with partTime := now, lines := t.lines, pool := t.pool, reporter := t.reporter, link := t.link,
                   freeCount := t.freeCount } ∧
      (t.line l).hook = ⟨.serviceOut, .outOfService, none, none, none, 0, false, false⟩ ∧
      (t.line l).lsu = { r.lsu with
        period := .notSampled, nextSample := none, ovRun := 0, ovActive := false, learningEnd := none, leakClamp := none
        leakReported := false
        baseline := if r.hook.pendingProfile then min r.lsu.baseline (4096 * (s.profile r.prof.number).leakMax)
          else r.lsu.baseline } ∧
      (t.line l).dial = { r.dial with collection := .inactive, firstDeadline := none, endDeadline := none } ∧
      (t.line l).pool = ⟨r.pool.slot, none, false⟩ ∧ (t.line l).test = r.test ∧
      (t.line l).fault = { r.fault with retestDue := none, clearCount := 0 } ∧
      (t.line l).prof = ⟨r.prof.number, if r.hook.pendingProfile then s.profile r.prof.number else r.prof.working⟩ ∧
      (t.line l).rep.mask = r.rep.mask ∧
      (t.line l).rep.latched = (if r.hook.pendingProfile then r.rep.latched ||| 0x8000#16 else r.rep.latched) ∧
      (∃ u, CollectionEnded (s.at now) u l ∧ t.pool = u.pool ∧ ∀ m, m ≠ l → t.line m = u.line m) ∧
      (r.hook.pendingProfile = false → t.reporter = s.reporter ∧ t.link = s.link.afterReply ⟨0x07#8, .ok, []⟩)) ∧
  (∀ (s : State) (now : Time) (b : Byte), s.ready → 32 ≤ b.toNat →
    exec (.setServiceIn now b) s = .next (s.answered now ⟨0x07#8, .badArgument, []⟩)) ∧
  (∀ (s : State) (now : Time) (l : Line), s.ready →
    let r := s.line l
    ((s.line l).hook.state ≠ .outOfService →
      exec (.setServiceIn now (lineByte l)) s = .next (s.answered now ⟨0x07#8, .ok, []⟩)) ∧
    ((s.line l).hook.state = .outOfService →
      exec (.setServiceIn now (lineByte l)) s = .next ((s.setLine l
        ({ r with hook := { r.hook with service := .serviceIn } }.learning now s.battery.mode)).answered now
          ⟨0x07#8, .ok, []⟩)))

/-- R71 (with R72, R79): SET_TIMESLOT. -/
def Obligations.SetTimeslotMovesOnlyToFreeSlots : Prop :=
  (∀ (s : State) (now : Time) (b n : Byte), s.ready → 32 ≤ b.toNat ∨ 64 ≤ n.toNat →
    exec (.setTimeslot now b n) s = .next (s.answered now ⟨0x08#8, .badArgument, []⟩)) ∧
  (∀ (s : State) (now : Time) (l : Line) (slot : Timeslot), s.ready →
    let r := s.line l
    let n : Byte := BitVec.ofNat 8 slot.val
    ((s.line l).pool.slot = slot →
      exec (.setTimeslot now (lineByte l) n) s = .next (s.answered now ⟨0x08#8, .ok, []⟩)) ∧
    ((s.line l).pool.slot ≠ slot → (∃ m, (s.line m).pool.slot = slot) →
      exec (.setTimeslot now (lineByte l) n) s = .next (s.answered now ⟨0x08#8, .slotInUse, []⟩)) ∧
    ((∀ m, (s.line m).pool.slot ≠ slot) →
      let moved := s.setLine l { r with pool := { r.pool with slot := slot } }
      ((s.line l).pool.receiver = none →
        exec (.setTimeslot now (lineByte l) n) s = .next (moved.answered now ⟨0x08#8, .ok, []⟩)) ∧
      (∀ x rec, (s.line l).pool.receiver = some x → s.receiver x = some rec →
        exec (.setTimeslot now (lineByte l) n) s =
          .next ((moved.setReceiver x (some { rec with slotChange := !rec.held })).answered now ⟨0x08#8, .ok, []⟩))))

/-- R161, R162: SET_MASK, with POWER_CROSS always in the mask, and SET_CLASS_MAP, with START and POWER_CROSS fixed to PRIORITY.
R95: SET_TONE_PARAMS replaces the set as a whole with the clamped values. -/
def Obligations.MasksClassesAndToneParamsAreSet : Prop :=
  (∀ (s : State) (now : Time) (b : Byte) (kinds : BitVec 16), s.ready → 32 ≤ b.toNat →
    exec (.setMask now b kinds) s = .next (s.answered now ⟨0x09#8, .badArgument, []⟩)) ∧
  (∀ (s : State) (now : Time) (l : Line) (kinds : BitVec 16), s.ready →
    let r := s.line l
    let mask := kinds ||| BitVec.twoPow 16 12
    exec (.setMask now (lineByte l) kinds) s = .next ((s.setLine l { r with rep := { r.rep with mask := mask } }).answered now
      ⟨0x09#8, .ok, [mask.extractLsb' 8 8, mask.extractLsb' 0 8]⟩)) ∧
  (∀ (s : State) (now : Time) (classes : List Byte), s.ready →
    (classes.length ≠ 19 → exec (.setClassMap now classes) s = .next (s.answered now ⟨0x0A#8, .badLength, []⟩)) ∧
    (classes.length = 19 → (∃ b ∈ classes, 2 ≤ b.toNat) ∨ classes.getD 16 0#8 ≠ 0#8 ∨ classes.getD 12 0#8 ≠ 0#8 →
      exec (.setClassMap now classes) s = .next (s.answered now ⟨0x0A#8, .badArgument, []⟩)) ∧
    (classes.length = 19 → (∀ b ∈ classes, b.toNat ≤ 1) → classes.getD 16 0#8 = 0#8 → classes.getD 12 0#8 = 0#8 →
      exec (.setClassMap now classes) s = .next { s with
        partTime := now
        reporter := { s.reporter with
          classMap := Vector.ofFn fun k => if classes.getD k.val 0#8 = 0#8 then .priority else .normal }
        link := s.link.afterReply ⟨0x0A#8, .ok, []⟩ })) ∧
  (∀ (s : State) (now : Time) (values : List Byte), s.ready →
    (values.length ≠ 7 → exec (.setToneParams now values) s = .next (s.answered now ⟨0x0B#8, .badLength, []⟩)) ∧
    (values.length = 7 →
      let x (i : Nat) : Int := if i < 5 then (values.getD i 0#8).toInt else ((values.getD i 0#8).toNat : Int)
      let c : List Int := [max (-80) (min (-40) (x 0)), max 0 (min 20 (x 1)), max 0 (min 24 (x 2)), max 6 (min 24 (x 3)),
        max 12 (min 40 (x 4)), max 2 (min 8 (x 5)), max 1 (min 4 (x 6))]
      ∃ r, ClampedReply 0x0B#8 ((List.range 7).map fun i => c.getD i 0 != x i) r ∧
        exec (.setToneParams now values) s = .next { s with
          partTime := now
          tone := ⟨c.getD 0 0, c.getD 1 0, c.getD 2 0, c.getD 3 0, c.getD 4 0, (c.getD 5 0).toNat, (c.getD 6 0).toNat⟩
          link := s.link.afterReply r }))

/-- R154, R155: SET_SCAN. A setting outside its set is refused, an index outside 0 to 7 becomes 7, and a change of the effective
mode raises SCAN_MODE and sets the sample periods. -/
def Obligations.SetScanDerivesTheMode : Prop :=
  (∀ (s : State) (now : Time) (setting index : Byte), s.ready → 3 ≤ setting.toNat →
    exec (.setScan now setting index) s = .next (s.answered now ⟨0x0C#8, .badArgument, []⟩)) ∧
  (∀ (s : State) (now : Time) (setting index : Byte) (v : ScanSetting), s.ready → SettingsLaws s → LawEleven s →
    FreeMeansNothingToSend s →
    (setting = 0#8 ∧ v = .normal) ∨ (setting = 1#8 ∧ v = .economy) ∨ (setting = 2#8 ∧ v = .auto) →
    let m : ScanMode := if v = .economy ∨ (v = .auto ∧ s.battery.state = .low) then .economy else .normal
    let battery : Battery := { s.battery with setting := v, index := Fin.ofNat 8 (min 7 index.toNat), mode := m }
    ∃ r, ClampedReply 0x0C#8 [decide (7 < index.toNat)] r ∧
      (m = s.battery.mode → exec (.setScan now setting index) s =
        .next { s with partTime := now, battery := battery, link := s.link.afterReply r }) ∧
      (m ≠ s.battery.mode → ∃ t, exec (.setScan now setting index) s = .next t ∧
        t = { s with partTime := now, battery := battery, lines := t.lines, reporter := t.reporter, link := t.link,
                     freeCount := t.freeCount } ∧
        (∀ l, t.line l = { s.line l with lsu := (s.line l).lsu.reperiod (s.line l).hook.state m now }) ∧
        EventAndReply s t (s.reporter.classMap.get 18) (.device (now.setWidth 16) (.scanMode m)) r))

/-- R115 (with R111): SET_SWEEP. A sweep that is enabled while the engine is SUSPENDED leaves the timer a full remaining time
(DEDUCED, log entry 7). -/
def Obligations.SetSweepReplacesTheSettings : Prop :=
  (∀ (s : State) (now : Time) (enabled interval steps : Byte), s.ready →
    2 ≤ enabled.toNat ∨ 32 ≤ steps.toNat ∨ steps = 0#8 →
    exec (.setSweep now enabled interval steps) s = .next (s.answered now ⟨0x0D#8, .badArgument, []⟩)) ∧
  (∀ (s : State) (now : Time) (on : Bool) (interval steps : Byte), s.ready → steps.toNat < 32 → steps ≠ 0#8 →
    let v := max 1 (min 60 interval.toNat)
    let e := s.engine
    let settings : Engine := { e with sweepEnabled := on, sweepInterval := v, sweepSteps := steps.setWidth 5 }
    ∃ (r : Reply) (engine : Engine), ClampedReply 0x0D#8 [v != interval.toNat] r ∧
      (on = false → engine = { settings with sweepTimer := .stopped, sweepDue := false }) ∧
      (on = true → e.sweepEnabled = true ∨ e.sweeping → engine = settings) ∧
      (on = true → e.sweepEnabled = false → ¬ e.sweeping → e.state ≠ .suspended →
        engine = { settings with sweepTimer := .running (now + BitVec.ofNat 32 (1000 * v)) }) ∧
      (on = true → e.sweepEnabled = false → ¬ e.sweeping → e.state = .suspended →
        engine = { settings with sweepTimer := .remaining (1000 * v) }) ∧
      exec (.setSweep now (if on then 1#8 else 0#8) interval steps) s =
        .next { s with partTime := now, engine := engine, link := s.link.afterReply r })

/-- POWER_CROSS stands in every mask (R161), Law 5 (R70) and the derivation of the scan mode (R154): every step keeps them. -/
def Obligations.SettingsLawsAreKept : Prop :=
  ∀ s t : State, SettingsLaws s → step s = .next t → SettingsLaws t

/-- R174 (with R70, R140, R162): no command but the setting commands, the two resets that restore the defaults, and a byte on
LRX, which may complete the frame of one, changes a configuration item. -/
def Obligations.OnlyConfigurationCommandsConfigure : Prop :=
  ∀ (c : Instr) (s t : State), configures c = false → exec c s = .next t → SameSettings s t

/-- R140, R141: without a pending profile the working parameters equal the table record, and a profile is pending only on a busy
line: every step keeps this. -/
def Obligations.WorkingParametersFollowTheTable : Prop :=
  ∀ s t : State, WorkingFollowsTable s → step s = .next t → WorkingFollowsTable t

/-! ## Collection and the receiver pool -/

/-- R52, R53, R54, R74, R75: COLLECT(on) arms collection on a line in OFF_HOOK or BREAK, with the receiver step, and is refused
on any other. -/
def Obligations.CollectOnArmsCollection : Prop :=
  (∀ (s : State) (now : Time) (b : Byte), s.ready → 32 ≤ b.toNat →
    exec (.collectOn now b) s = .next (s.answered now ⟨0x0E#8, .badArgument, []⟩)) ∧
  (∀ (s : State) (now : Time) (l : Line), s.ready → ¬ (s.line l).hook.state.inCall →
    exec (.collectOn now (lineByte l)) s = .next (s.answered now ⟨0x0E#8, .lineIdle, []⟩)) ∧
  (∀ (s : State) (now : Time) (l : Line), s.ready → PoolLaws s → (s.line l).hook.state.inCall →
    let r := s.line l
    let p := r.prof.working
    let armed : LineRec := { r with
      dial := ⟨.waitFirst, .undetermined, [], false, some (now + BitVec.ofNat 32 (1000 * p.firstDigitTimeout)), none⟩
      hook := { r.hook with pulseCount := if r.dial.collection = .inactive then r.hook.pulseCount else 0 } }
    let asks : Prop := p.dialModes ≠ .pulse ∧ r.pool.receiver = none ∧ r.pool.waiting = false
    (¬ asks → exec (.collectOn now (lineByte l)) s = .next ((s.setLine l armed).answered now ⟨0x0E#8, .ok, []⟩)) ∧
    (asks → ∀ x : Rx, s.receiver x = none → (∀ y, y < x → s.receiver y ≠ none) →
      exec (.collectOn now (lineByte l)) s = .next (((s.setLine l
        { armed with pool := { r.pool with receiver := some x } }).setReceiver x (some (s.assigned l))).answered now
          ⟨0x0E#8, .ok, []⟩)) ∧
    (asks → (∀ x, s.receiver x ≠ none) → ∀ ps ns : List WaitEntry, s.pool.waitQueue = ps ++ ns →
      (∀ e ∈ ps, e.priority = true) → (∀ e ∈ ns, e.priority = false) →
      let queue : List WaitEntry := if p.receiverPriority then ps ++ [⟨l, true⟩] ++ ns else ps ++ ns ++ [⟨l, false⟩]
      let waiting : State := { s.setLine l { armed with pool := { r.pool with waiting := true } } with
        pool := { s.pool with waitQueue := queue } }
      exec (.collectOn now (lineByte l)) s = .next (waiting.answered now ⟨0x0E#8, .ok, []⟩)))

/-- R63, R64, R66 (with R76, R77): COLLECT(off) ends an active collection without a collection event; READ_DIGITS gives the
buffer and empties it where asked. R61, R62, R63: at its deadline a collection timer ends collection and then raises its event;
at any other time, and in any other collection state, its arrival does nothing (DEDUCED, log entry 2). -/
def Obligations.CollectionEndsAndDigitsAreRead : Prop :=
  (∀ (s : State) (now : Time) (b c : Byte), s.ready → 32 ≤ b.toNat ∨ 2 ≤ c.toNat →
    (32 ≤ b.toNat → exec (.collectOff now b) s = .next (s.answered now ⟨0x0E#8, .badArgument, []⟩)) ∧
    exec (.readDigits now b c) s = .next (s.answered now ⟨0x0F#8, .badArgument, []⟩)) ∧
  (∀ (s : State) (now : Time) (l : Line), s.ready → PoolLaws s →
    ((s.line l).dial.collection = .inactive →
      exec (.collectOff now (lineByte l)) s = .next (s.answered now ⟨0x0E#8, .ok, []⟩)) ∧
    ((s.line l).dial.collection ≠ .inactive → ∃ u, CollectionEnded (s.at now) u l ∧
      exec (.collectOff now (lineByte l)) s = .next (u.answered now ⟨0x0E#8, .ok, []⟩))) ∧
  (∀ (s : State) (now : Time) (l : Line) (clear : Bool), s.ready →
    let d := (s.line l).dial
    exec (.readDigits now (lineByte l) (if clear then 1#8 else 0#8)) s =
      .next ((if clear then s.setLine l { s.line l with dial := { d with buffer := [], truncated := false } } else s).answered
        now ⟨0x0F#8, .ok, [BitVec.ofNat 8 d.buffer.length, if d.truncated then 1#8 else 0#8] ++
          d.buffer.flatMap fun e => match e with
            | .digit k m => [BitVec.ofNat 8 k.val, if m = .pulse then 1#8 else 2#8]
            | .flash => [16#8, 0#8]⟩)) ∧
  (∀ (s : State) (now : Time) (l : Line), s.link.resetnLow = false → PoolLaws s →
    let d := (s.line l).dial
    (d.collection = .waitFirst → d.firstDeadline = some now → ∃ u, CollectionEnded (s.at now) u l ∧
      exec (.firstDigitTimeout now l) s = .next (u.raise l .firstDigitTimeout)) ∧
    (d.collection ≠ .waitFirst ∨ d.firstDeadline ≠ some now → exec (.firstDigitTimeout now l) s = .next (s.at now)) ∧
    (d.collection = .collecting → d.endDeadline = some now → ∃ u, CollectionEnded (s.at now) u l ∧
      exec (.endDiallingTimerExpiry now l) s = .next (u.raise l (.diallingEnd .timeout))) ∧
    (d.collection ≠ .collecting ∨ d.endDeadline ≠ some now →
      exec (.endDiallingTimerExpiry now l) s = .next (s.at now)))

/-- R55 to R58, R60 (with R76, R77): a digit at the Digit Collector is discarded, meets a full buffer, or is taken; the first by
pulses gives up the line's receiver or wait place, and what becomes of the pool is what an end of collection makes of it (that a digit whose mode is
not allowed is discarded at a full buffer too is DEDUCED, log entry 12). R37, R59, R60: a flash at the Digit Collector. -/
def Obligations.DigitsAndFlashesAreCollected : Prop :=
  (∀ (s : State) (l : Line) (k : Key) (m : Method), PoolLaws s →
    let d := (s.line l).dial
    let allowed : Prop := d.mode = .undetermined ∨ (d.mode = .pulse ∧ m = .pulse) ∨ (d.mode = .tone ∧ m = .tone)
    (d.collection = .inactive ∨ ¬ allowed → s.collectDigit l k m = s) ∧
    (d.collection ≠ .inactive → allowed → 24 ≤ d.buffer.length → ∃ u,
      CollectionEnded (s.setLine l { s.line l with dial := { d with truncated := true } }) u l ∧
      s.collectDigit l k m = u.raise l (.diallingEnd .full)) ∧
    (d.collection ≠ .inactive → allowed → d.buffer.length < 24 →
      let t := s.collectDigit l k m
      ∃ u : State, u.reporter = s.reporter ∧ u.link = s.link ∧ (u.line l).rep = (s.line l).rep ∧ u.partTime = s.partTime ∧
        t.reporter = (u.raise l (.digit k m)).reporter ∧ t.link = (u.raise l (.digit k m)).link ∧
        (t.line l).rep = ((u.raise l (.digit k m)).line l).rep ∧
        t = { s with lines := t.lines, pool := t.pool, reporter := t.reporter, link := t.link } ∧
        (t.line l).dial = ⟨.collecting, if m = .pulse then .pulse else .tone, d.buffer ++ [.digit k m], d.truncated, none,
          some (s.partTime + BitVec.ofNat 32 (1000 * (s.line l).prof.working.endTimeout))⟩ ∧
        (t.line l).hook = (if d.mode = .undetermined ∧ m = .tone then { (s.line l).hook with pulseCount := 0 }
          else (s.line l).hook) ∧
        (t.line l).pool = (if m = .pulse then ⟨(s.line l).pool.slot, none, false⟩ else (s.line l).pool) ∧
        (m = .tone → t.pool = s.pool ∧ ∀ i, i ≠ l → t.line i = s.line i) ∧
        (m = .pulse → ∃ w, CollectionEnded s w l ∧ t.pool = w.pool ∧ ∀ i, i ≠ l → t.line i = w.line i))) ∧
  (∀ (s : State) (l : Line), PoolLaws s →
    let r := s.line l
    let d := r.dial
    let entered := d.buffer ++ [Entry.flash]
    (d.collection = .inactive → s.collectFlash l = s) ∧
    (d.collection = .waitFirst → d.buffer.length < 24 → s.collectFlash l = s.setLine l { r with dial := { d with
      buffer := entered
      firstDeadline := some (s.partTime + BitVec.ofNat 32 (1000 * r.prof.working.firstDigitTimeout)) } }) ∧
    (d.collection = .collecting → d.buffer.length < 24 → s.collectFlash l = s.setLine l { r with dial := { d with
      buffer := entered
      endDeadline := some (s.partTime + BitVec.ofNat 32 (1000 * r.prof.working.endTimeout)) } }) ∧
    (d.collection ≠ .inactive → 24 ≤ d.buffer.length → ∃ u,
      CollectionEnded (s.setLine l { r with dial := { d with truncated := true } }) u l ∧
      s.collectFlash l = u.raise l (.diallingEnd .full)))

/-- Laws 3 and 4 (R73, R75): every step keeps them. R68, R79: the tap's grid, common to all receivers; every step keeps it. -/
def Obligations.PoolLawsAreKept : Prop :=
  (∀ s t : State, PoolLaws s → step s = .next t → PoolLaws t) ∧
  (∀ s t : State, GridLaws s → step s = .next t → GridLaws t)

/-- R11, R17, R25, R36, R50, R65, R124: what each hook state and each collection state of a line has present; every step keeps
it. -/
def Obligations.CallLawsAreKept : Prop :=
  ∀ s t : State, CallLaws s → step s = .next t → CallLaws t

/-- R68, R72, R74, R80: the first frame-sync pulse begins the frame count and the block grid; at a block boundary an assigned, unheld
receiver that has not started begins its first block (a slot-change mark is then reached: DEDUCED, log entry 5). A later pulse
changes nothing, and any other receiver, any receiver before the grid, and any receiver at an arrival off the grid takes nothing
from it (DEDUCED, log entry 2). What the model keeps of the grid is its own choice (log entry 8). -/
def Obligations.ReceiversStartOnTheGrid : Prop :=
  ∀ (s : State) (now : Time), s.link.resetnLow = false →
    (s.pool.grid = none → exec (.firstFrameSyncPulse now) s =
      .next { s with partTime := now, pool := { s.pool with grid := some ⟨0, now⟩ } }) ∧
    (s.pool.grid.isSome = true → exec (.firstFrameSyncPulse now) s = .next (s.at now)) ∧
    (∀ (x : Rx) (rec : Receiver) (b : Boundary) (frame : Nat), s.receiver x = some rec → s.pool.grid = some b →
      rec.blockStart = none → rec.held = false → Falls b frame now →
      exec (.receiverStart ⟨frame, now⟩ x) s = .next ({ s.at now with pool := { s.pool with grid := some ⟨frame, now⟩ } }.setReceiver x
        (some { rec with blockStart := some frame, slotChange := false }))) ∧
    (∀ (x : Rx) (frame : Nat), (s.pool.grid = none ∨ s.receiver x = none ∨
        (∃ rec, s.receiver x = some rec ∧ (rec.blockStart.isSome = true ∨ rec.held = true)) ∨
        (∃ b, s.pool.grid = some b ∧ ¬ Falls b frame now)) →
      exec (.receiverStart ⟨frame, now⟩ x) s = .next (s.at now))

/-! ## Tone detection -/

/-- R89, R91, R92 (with R68, R70, R72, R84, R90, R93): a block of 100 highway frames completes at the boundary a hundred frames after
its beginning, and the next begins there. Its samples are those of the timeslot to which the map gives the receiver's line; it moves
the detector, and an accepted digit goes to the Digit Collector. A block at a marked slot change is discarded. A receiver that forms
no block, and one at an arrival off the grid, takes nothing from the arrival (DEDUCED, log entry 2), nor does one from another number
of frames than 100 (the model's own choice, log entry 18; the grid: log entry 8). -/
def Obligations.BlockCompletionsMoveTheDetector : Prop :=
  ∀ (s : State) (now : Time) (x : Rx) (frames : List HighwayFrame), s.link.resetnLow = false →
    (s.pool.grid = none ∨ s.receiver x = none ∨ frames.length ≠ 100 ∨
        (∃ rec, s.receiver x = some rec ∧ (rec.blockStart = none ∨ rec.held = true)) ∨
        (∃ b rec f, s.pool.grid = some b ∧ s.receiver x = some rec ∧ rec.blockStart = some f ∧ ¬ Falls b (f + 100) now) →
      exec (.blockCompletion now x frames) s = .next (s.at now)) ∧
    (∀ (rec : Receiver) (b : Boundary) (f : Nat), s.pool.grid = some b → s.receiver x = some rec → rec.blockStart = some f →
      rec.held = false → frames.length = 100 → Falls b (f + 100) now →
      let reached : State := { s.at now with pool := { s.pool with grid := some ⟨f + 100, now⟩ } }
      let next : Receiver := { rec with blockStart := some (f + 100) }
      (rec.slotChange = true → exec (.blockCompletion now x frames) s =
        .next (reached.setReceiver x (some { next with slotChange := false, detector := .quiet }))) ∧
      (rec.slotChange = false →
        let bytes := frames.map fun frame => tapByte frame (s.line rec.line).pool.slot
        let block := classify s.tone (blockLevels (bytes.map expandSample))
        let becomes (d : Detector) : Prop := exec (.blockCompletion now x frames) s =
          .next (reached.setReceiver x (some { next with detector := d }))
        let accepts (d : Key) : Prop := exec (.blockCompletion now x frames) s =
          .next ((reached.setReceiver x (some { next with detector := .held d })).collectDigit rec.line d .tone)
        (rec.detector = .quiet → (∀ d, block = some d → becomes (.candidate d 1)) ∧ (block = none → becomes .quiet)) ∧
        (∀ d n, rec.detector = .candidate d n →
          (block = some d → s.tone.minBlocks ≤ n + 1 → accepts d) ∧
          (block = some d → n + 1 < s.tone.minBlocks → becomes (.candidate d (n + 1))) ∧
          (∀ e, e ≠ d → block = some e → becomes (.candidate e 1)) ∧
          (block = none → becomes .quiet)) ∧
        (∀ d, rec.detector = .held d →
          (block.isSome = true → becomes (.held d)) ∧
          (block = none → 2 ≤ s.tone.pauseBlocks → becomes (.gap d 1)) ∧
          (block = none → s.tone.pauseBlocks ≤ 1 → becomes .quiet)) ∧
        (∀ d k, rec.detector = .gap d k →
          (block = some d → becomes (.held d)) ∧
          (∀ e, e ≠ d → block = some e → becomes (.candidate e 1)) ∧
          (block = none → s.tone.pauseBlocks ≤ k + 1 → becomes .quiet) ∧
          (block = none → k + 1 < s.tone.pauseBlocks → becomes (.gap d (k + 1))))))

/-- R68: the bits of a timeslot's byte in a highway frame. R69: the expansion of a highway byte, its range, and that it is never 0. R86,
R87: a block is a digit exactly when one low and one high frequency pass the four tests, and the two give the digit by the key table.
The group margin is positive, as R95 keeps it. -/
def Obligations.BytesExpandAndBlocksAreClassified : Prop :=
  (∀ (frame : HighwayFrame) (slot : Timeslot) (i : Nat), i < 8 →
    (tapByte frame slot).getMsbD i = frame.getMsbD (8 * slot.val + i)) ∧
  (∀ code : Byte,
    let v := (code ^^^ 0x55#8).toNat
    let seg := v / 16 % 8
    let q := v % 16
    let magnitude : Int := if seg = 0 then 2 * q + 1 else (2 * q + 33) * 2 ^ (seg - 1)
    expandSample code = (if 128 ≤ v then magnitude else -magnitude) ∧
      -4032 ≤ expandSample code ∧ expandSample code ≤ 4032 ∧ expandSample code ≠ 0) ∧
  (∀ (p : ToneParams) (low high : Fin 4 → Int) (residual : Int) (d : Key), 0 < p.groupMargin →
    (classify p ⟨[low 0, low 1, low 2, low 3, high 0, high 1, high 2, high 3], residual⟩ = some d ↔
      ∃ i j : Fin 4,
        d = (![![1, 2, 3, 12], ![4, 5, 6, 13], ![7, 8, 9, 14], ![10, 0, 11, 15]] : Fin 4 → Fin 4 → Key) i j ∧
        p.levelFloor ≤ low i ∧ p.levelFloor ≤ high j ∧
        high j - low i ≤ p.fwdTwist ∧ low i - high j ≤ p.revTwist ∧
        (∀ k, k ≠ i → p.groupMargin ≤ low i - low k) ∧ (∀ k, k ≠ j → p.groupMargin ≤ high j - high k) ∧
        residual ≤ max (low i) (high j) - p.purityMargin))

/-- R85: the resonator coefficients are 2 cos(2π f / 8000) to 128 binary places; and wherever the coefficients are so to `n` places, the
nine exact levels of a block lie between the model's two ends at `n` places (how the model computes the levels is DEDUCED, log entry
9). Component f has the amplitude 2 √(y(100)² + y(99)² − c y(100) y(99)) / 100, the residual is the mean square less the component
powers, and each level is rounded down to half a decibel and clamped to −60.0 to +3.0. Where the ends at 128 places agree, the levels
of the block are the exact ones. -/
def Obligations.LevelsFollowTheResonators : Prop :=
  let c (f : Fin 8) : ℝ := 2 * Real.cos (2 * Real.pi * ((![697, 770, 852, 941, 1209, 1336, 1477, 1633] : Fin 8 → ℝ) f) / 8000)
  (∀ f, (toneCoeff 128 f : ℤ) = ⌊2 ^ 128 * c f⌋) ∧
  ∀ xs : List Int, xs.length = 100 → (∀ x ∈ xs, -4032 ≤ x ∧ x ≤ 4032) →
    let y (f : Fin 8) : ℝ × ℝ := xs.foldl (fun y x => ((x : ℝ) + c f * y.1 - y.2, y.1)) (0, 0)
    let amplitude (f : Fin 8) : ℝ := 2 * √((y f).1 ^ 2 + (y f).2 ^ 2 - c f * (y f).1 * (y f).2) / 100
    let residual : ℝ := (xs.map fun x => (x : ℝ) ^ 2).sum / 100 - ∑ f, amplitude f ^ 2 / 2
    let level (power : ℝ) : Int := if power ≤ 0 then -120 else
      max (-120) (min 6 ⌊2 * (10 * Real.logb 10 (power / (2854 ^ 2 / 2)))⌋)
    (∀ n : Nat, (∀ f, (toneCoeff n f : ℤ) = ⌊2 ^ n * c f⌋) →
      (∀ f : Fin 8, (lowerLevels n xs).tone.getD f.val 0 ≤ level (amplitude f ^ 2 / 2) ∧
        level (amplitude f ^ 2 / 2) ≤ (upperLevels n xs).tone.getD f.val 0) ∧
      (lowerLevels n xs).residual ≤ level residual ∧ level residual ≤ (upperLevels n xs).residual) ∧
    (lowerLevels 128 xs = upperLevels 128 xs →
      blockLevels xs = ⟨(List.finRange 8).map fun f => level (amplitude f ^ 2 / 2), level residual⟩)

/-! ## The Line Test Engine -/

/-- R98: the five steps, their order, their durations and the values they record. R100, R108, R113: at its completion time a
settle period or a step is followed at once by the next requested step, a step having recorded its value; an arrival at any other
time does nothing (DEDUCED, log entry 2). -/
def Obligations.StepsFollowInTheirOrder : Prop :=
  (∀ (set : StepSet) (p : Step), set.first = some p ↔ set.has p = true ∧ ∀ q, set.has q = true → p.bit ≤ q.bit) ∧
  (∀ (set : StepSet) (p q : Step), set.after p = some q ↔
    set.has q = true ∧ p.bit < q.bit ∧ ∀ r, set.has r = true → p.bit < r.bit → q.bit ≤ r.bit) ∧
  ([Step.dcv, .acv, .irt, .irr, .rtr].map Step.durationMs = [40, 100, 200, 200, 60]) ∧
  (∀ (v : TestValues) (a b : Int),
    v.record .dcv a b = { v with dcv := some (max (-250) (min 250 a), max (-250) (min 250 b)) } ∧
    v.record .acv a b = { v with acv := some (max 0 (min 250 a)).toNat } ∧
    v.record .irt a b = { v with irt := some (max 0 (min 9999 a)).toNat } ∧
    v.record .irr a b = { v with irr := some (max 0 (min 9999 a)).toNat } ∧
    v.record .rtr a b = { v with rtr := some (max 0 (min 19999 a)).toNat }) ∧
  (∀ (s : State) (now : Time) (a b : Int), s.link.resetnLow = false →
    let e := s.engine
    let begun (c : TestCtx) (p : Step) : Host.Outcome State Fault Refusal := .next { s with
      partTime := now
      engine := { e with running := some { c with
        next := c.steps.after p
        phase := some (.measure p, now + BitVec.ofNat 32 p.durationMs) } } }
    ((∀ c, e.running = some c → c.phase ≠ some (.settle, now)) →
      exec (.settlePeriodCompletion now) s = .next (s.at now)) ∧
    ((∀ c p, e.running = some c → c.phase ≠ some (.measure p, now)) →
      exec (.stepCompletion now a b) s = .next (s.at now)) ∧
    (∀ c p, e.running = some c → c.abortRequested = false → e.suspendPending = false → c.next = some p →
      e.state = .running ∨ e.state = .stepping →
      (c.phase = some (.settle, now) → exec (.settlePeriodCompletion now) s = begun c p) ∧
      (∀ q, c.phase = some (.measure q, now) → e.state = .running ∨ e.queue = [] →
        exec (.stepCompletion now a b) s = begun { c with values := c.values.record q a b } p)))

/-- R102: the cases of TEST_LINE while the engine is not IDLE. R99, R100, R102, R107: on an IDLE engine an accepted TEST_LINE
begins its test at once, the line on the bus in its settle period. -/
def Obligations.TestLineIsQueuedOrBegun : Prop :=
  (∀ (s : State) (now : Time) (b steps force : Byte), s.ready →
    32 ≤ b.toNat ∨ steps = 0#8 ∨ 32 ≤ steps.toNat ∨ 2 ≤ force.toNat →
    exec (.testLine now b steps force) s = .next (s.answered now ⟨0x10#8, .badArgument, []⟩)) ∧
  (∀ (s : State) (now : Time) (l : Line) (set : StepSet) (force : Bool), s.ready → set ≠ 0#5 →
    let e := s.engine
    let c : Instr := .testLine now (lineByte l) (set.setWidth 8) (if force then 1#8 else 0#8)
    let free : Prop := (s.line l).hook.state.busy = false ∨ force = true
    let entered : Prop := ∃ q ∈ e.queue, q.line = l
    (e.state = .suspended → exec c s = .next (s.answered now ⟨0x10#8, .suspended, []⟩)) ∧
    (e.state ≠ .suspended → ¬ free → exec c s = .next (s.answered now ⟨0x10#8, .lineBusy, []⟩)) ∧
    (e.state ≠ .suspended → free → entered → exec c s = .next { s with
      partTime := now
      engine := { e with queue := e.queue.map fun q =>
        if q.line = l then { q with steps := q.steps ||| set, hostReport := true, force := q.force || force } else q }
      link := s.link.afterReply ⟨0x10#8, .ok, []⟩ }) ∧
    (e.state ≠ .suspended → free → ¬ entered → 8 ≤ e.queue.length →
      exec c s = .next (s.answered now ⟨0x10#8, .queueFull, []⟩)) ∧
    (e.state = .running ∨ e.state = .stepping → free → ¬ entered → e.queue.length < 8 → exec c s = .next { s with
      partTime := now
      engine := { e with queue := e.queue ++ [⟨l, set, false, true, force⟩] }
      link := s.link.afterReply ⟨0x10#8, .ok, []⟩ })) ∧
  (∀ (s : State) (now : Time) (l : Line) (set : StepSet) (force : Bool), s.ready → set ≠ 0#5 → EngineConsistent s.engine →
    s.noneOwed → s.engine.state = .idle → (s.line l).hook.state.busy = false ∨ force = true →
    exec (.testLine now (lineByte l) (set.setWidth 8) (if force then 1#8 else 0#8)) s =
      .next ({ s.onBus l with engine := { s.engine with
        state := .running
        running := some ⟨l, .host, set, ⟨none, none, none, none, none⟩, set.first, some (.settle, now + 20#32), true, force,
          false, false⟩ } }.answered now ⟨0x10#8, .ok, []⟩))

/-- R103, R104: where an AUTO full request goes, that an IDLE engine takes it at once (R107: its test begins, or it is dropped without
an event), and that a place freed in the queue serves the lowest-numbered owed line. -/
def Obligations.AutoRequestsAreFiled : Prop :=
  (∀ (s : State) (l : Line),
    let e := s.engine
    (e.state = .suspended → s.fileAuto l = s) ∧
    (e.state = .idle → EngineConsistent e → s.noneOwed →
      ((s.line l).hook.state.busy = false → s.fileAuto l = { s.onBus l with engine := { e with
        state := .running
        running := some ⟨l, .auto, 0b11111#5, ⟨none, none, none, none, none⟩, some .dcv, some (.settle, s.partTime + 20#32), false,
          false, false, false⟩ } }) ∧
      ((s.line l).hook.state.busy = true → s.fileAuto l = s)) ∧
    (e.state = .running ∨ e.state = .stepping → LawEight s →
      (∀ q ∈ e.queue, q.line = l → q.auto = true → s.fileAuto l = { s with engine := { e with
        queue := e.queue.map fun x => if x.line = l then { x with steps := 0b11111#5 } else x } }) ∧
      (∀ autos hosts : List TestReq, e.queue = autos ++ hosts → (∀ q ∈ autos, q.auto = true) →
        (∀ q ∈ hosts, q.auto = false) →
        (∀ q ∈ hosts, q.line = l → s.fileAuto l = { s with engine := { e with
          queue := autos ++ [{ q with auto := true, steps := 0b11111#5 }] ++ hosts.filter fun x => x.line != l } }) ∧
        ((∀ q ∈ e.queue, q.line ≠ l) → e.queue.length < 8 → s.fileAuto l = { s with engine := { e with
          queue := autos ++ [⟨l, 0b11111#5, true, false, false⟩] ++ hosts } })) ∧
      ((∀ q ∈ e.queue, q.line ≠ l) → e.queue.length = 8 →
        s.fileAuto l = s.setLine l { s.line l with fault := { (s.line l).fault with owed := true } }))) ∧
  (∀ s : State, s.engine.state ≠ .suspended →
    (s.noneOwed → s.serveOwed = s) ∧
    (∀ l, (s.line l).fault.owed = true → (∀ m, m < l → (s.line m).fault.owed = false) →
      s.serveOwed = (s.setLine l { s.line l with fault := { (s.line l).fault with owed := false } }).placeAuto l))

/-- R117 (with R104, R109, R111): ABORT_TEST takes every action of its table that applies. -/
def Obligations.AbortTestTakesEveryAction : Prop :=
  (∀ (s : State) (now : Time) (b : Byte), s.ready → 32 ≤ b.toNat →
    exec (.abortTest now b) s = .next (s.answered now ⟨0x11#8, .badArgument, []⟩)) ∧
  (∀ (s : State) (now : Time) (l : Line), s.ready → EngineConsistent s.engine → s.noneOwed →
    let e := s.engine
    let none : Prop := (∀ c, e.running = some c → c.line ≠ l) ∧ (∀ q ∈ e.queue, q.line ≠ l) ∧
      (∀ h, e.heldSweep = some h → h.line ≠ l)
    let engine : Engine := { e with
      queue := e.queue.filter fun q => q.line != l
      heldSweep := e.heldSweep.filter fun h => h.line != l
      sweepTimer := if (e.heldSweep.any fun h => h.line == l) = true then
          if e.sweepEnabled then
            if e.state = .suspended then .remaining (1000 * e.sweepInterval)
            else .running (now + BitVec.ofNat 32 (1000 * e.sweepInterval))
          else .stopped
        else e.sweepTimer }
    (none → exec (.abortTest now (lineByte l)) s = .next (s.answered now ⟨0x11#8, .notFound, []⟩)) ∧
    (¬ none → (∀ c, e.running = some c → c.line = l → c.phase.isSome = true) →
      exec (.abortTest now (lineByte l)) s = .next { s with
        partTime := now
        engine := { engine with
          running := e.running.map fun c => if c.line = l then { c with abortRequested := true } else c }
        link := s.link.afterReply ⟨0x11#8, .ok, []⟩ }) ∧
    (∀ c, e.running = some c → c.line = l → c.phase = .none → LawEleven s → FreeMeansNothingToSend s →
      let record : ResultRec := ⟨l, c.origin, c.steps, c.values, .aborted, .none⟩
      ∃ t, exec (.abortTest now (lineByte l)) s = .next t ∧
        t = { s with partTime := now, engine := { engine with running := .none }, lines := t.lines, reporter := t.reporter,
                     link := t.link, freeCount := t.freeCount } ∧
        t.line l = { s.line l with
          test := { (s.line l).test with lastResult := some record }
          rep := { (s.line l).rep with latched := (s.line l).rep.latched ||| 0x0100#16 } } ∧
        (∀ m, m ≠ l → t.line m = s.line m) ∧
        ((s.line l).rep.mask.getLsbD 8 = true →
          EventAndReply s t (s.reporter.classMap.get 8) (.line l (now.setWidth 16) (.testAborted record)) ⟨0x11#8, .ok, []⟩) ∧
        ((s.line l).rep.mask.getLsbD 8 = false →
          t.reporter = s.reporter ∧ t.link = s.link.afterReply ⟨0x11#8, .ok, []⟩)))

/-- R120 (with R104, R107, R111): RESUME_TESTS: its refusals; a held test that resumes; a held test that is dropped and, with
nothing else to do, leaves the engine IDLE; an owed line served; and an engine with nothing to do. -/
def Obligations.ResumeTestsLeavesSuspended : Prop :=
  ∀ (s : State) (now : Time), s.ready →
    let e := s.engine
    let ok : Reply := ⟨0x12#8, .ok, []⟩
    let timer := e.sweepTimer.resumed now
    (e.state ≠ .suspended → exec (.resumeTests now) s = .next (s.answered now ⟨0x12#8, .notSuspended, []⟩)) ∧
    (e.state = .suspended → (∃ m, (s.line m).lsu.ovActive = true) →
      exec (.resumeTests now) s = .next (s.answered now ⟨0x12#8, .stillAlarmed, []⟩)) ∧
    (e.state = .suspended → (∀ m, (s.line m).lsu.ovActive = false) → EngineConsistent e → SweepTimerLaw e →
      (∀ c, s.noneOwed → e.running = some c → (s.line c.line).hook.state.busy = false ∨ c.force = true →
        exec (.resumeTests now) s = .next ({ s.onBus c.line with engine := { e with
          state := .running, running := some (c.settling now), sweepTimer := timer } }.answered now ok)) ∧
      (s.noneOwed → e.running = none → e.queue = [] → e.heldSweep = none → e.sweepDue = false →
        exec (.resumeTests now) s = .next ({ s with engine := { e with state := .idle, sweepTimer := timer } }.answered now
          ok)) ∧
      (∀ m, (s.line m).fault.owed = true → (∀ k, k ≠ m → (s.line k).fault.owed = false) → e.running = none → e.queue = [] →
        (s.line m).hook.state.busy = false →
        exec (.resumeTests now) s = .next ({ (s.setLine m { s.line m with fault := { (s.line m).fault with owed := false } }).onBus
          m with engine := { e with
            state := .running, sweepTimer := timer
            running := some ⟨m, .auto, 0b11111#5, ⟨none, none, none, none, none⟩, some .dcv, some (.settle, now + 20#32),
              false, false, false, false⟩ } }.answered now ok)) ∧
      (∀ c, s.noneOwed → e.running = some c → (s.line c.line).hook.state.busy = true → c.force = false → e.queue = [] →
        e.heldSweep = none → e.sweepDue = false →
        ∃ t, exec (.resumeTests now) s = .next t ∧ t.link.gives ok ∧
          t = { s with partTime := now, lines := t.lines, reporter := t.reporter, link := t.link, freeCount := t.freeCount
                       engine := { e with state := .idle, running := none, sweepTimer := timer } } ∧
          t.line c.line = { s.line c.line with rep := { (s.line c.line).rep with
            latched := if c.hostReport then (s.line c.line).rep.latched ||| 0x0200#16 else (s.line c.line).rep.latched } } ∧
          ∀ m, m ≠ c.line → t.line m = s.line m))

/-- R111, R112: the sweep timer's deadline makes the sweep due, and on an IDLE engine the line at the advanced cursor is tested
if it is IDLE and skipped otherwise; an arrival at any other time does nothing (DEDUCED, log entry 2). -/
def Obligations.SweepTimerStartsTheSweep : Prop :=
  ∀ (s : State) (now : Time), s.link.resetnLow = false → EngineConsistent s.engine →
    let e := s.engine
    let l := e.cursor + 1
    (e.sweepTimer ≠ .running now → exec (.sweepTimerExpiry now) s = .next (s.at now)) ∧
    (e.sweepTimer = .running now → e.state ≠ .idle →
      exec (.sweepTimerExpiry now) s =
        .next { s with partTime := now, engine := { e with sweepTimer := .stopped, sweepDue := true } }) ∧
    (e.sweepTimer = .running now → e.state = .idle → (s.line l).hook.state = .idle →
      exec (.sweepTimerExpiry now) s = .next { (s.at now).onBus l with engine := { e with
        state := .stepping, cursor := l, sweepTimer := .stopped
        running := some ⟨l, .sweep, e.sweepSteps, ⟨none, none, none, none, none⟩, e.sweepSteps.first,
          some (.settle, now + 20#32), false, false, false, false⟩ } }) ∧
    (e.sweepTimer = .running now → e.state = .idle → (s.line l).hook.state ≠ .idle → e.sweepEnabled = true →
      exec (.sweepTimerExpiry now) s = .next { s with
        partTime := now
        engine := { e with cursor := l, sweepTimer := .running (now + BitVec.ofNat 32 (1000 * e.sweepInterval)) } })

/-- R106, R107, R112, R114 (with R104, R111): with no phase in flight the engine takes the first that applies: it is suspended, the
head of the queue is tested or dropped, a held sweep resumes or is abandoned, a due sweep starts or skips its line, or it is IDLE. -/
def Obligations.EngineTakesFirstWorkThatApplies : Prop :=
  ∀ s : State,
    let e := s.engine
    let now := s.partTime
    (e.suspendPending = true → s.chooseWork = { s with engine := { e with
      state := .suspended, suspendPending := false, sweepTimer := e.sweepTimer.paused now } }) ∧
    (e.suspendPending = false →
      (∀ q rest, e.queue = q :: rest →
        let u := { s with engine := { e with queue := rest } }.serveOwed
        ((s.line q.line).hook.state.busy = false ∨ q.force = true →
          s.chooseWork = { u.onBus q.line with engine := { u.engine with state := .running, running := some (q.begun now) } }) ∧
        ((s.line q.line).hook.state.busy = true → q.force = false →
          s.chooseWork = (if q.hostReport then u.raise q.line .testDropped else u).chooseWork)) ∧
      (e.queue = [] →
        (∀ h, e.heldSweep = some h →
          ((s.line h.line).hook.state = .idle → s.chooseWork = { s.onBus h.line with engine := { e with
            state := .stepping, heldSweep := none
            running := some ⟨h.line, .sweep, h.steps, h.values, h.next, some (.settle, now + 20#32), false, false, false, false⟩ } }) ∧
          ((s.line h.line).hook.state ≠ .idle →
            s.chooseWork = { s with engine := { e with heldSweep := none, sweepTimer := e.timerFrom now } }.chooseWork)) ∧
        (e.heldSweep = none → e.sweepDue = true →
          let l := e.cursor + 1
          ((s.line l).hook.state = .idle → s.chooseWork = { s.onBus l with engine := { e with
            state := .stepping, sweepDue := false, cursor := l
            running := some ⟨l, .sweep, e.sweepSteps, ⟨none, none, none, none, none⟩, e.sweepSteps.first,
              some (.settle, now + 20#32), false, false, false, false⟩ } }) ∧
          ((s.line l).hook.state ≠ .idle → s.chooseWork = { s with engine := { e with
            state := .idle, sweepDue := false, cursor := l, sweepTimer := e.timerFrom now } })) ∧
        (e.heldSweep = none → e.sweepDue = false → s.chooseWork = { s with engine := { e with state := .idle } })))

/-- R108, R113, R118: with suspension pending and steps left, the test is held at the completion of its phase, a sweep test in
the held-sweep context, and the engine is SUSPENDED; and after a step a sweep test yields to a waiting entry, of its own line or of
another, whereupon the engine chooses its work: one that is eligible runs at once. R109 (with R99, R106, R111, R117, R126 to R128):
the last step of a test ends it DONE, with its verdict, its record and its TEST_DONE, and an abort requested ends it ABORTED, with its
record and its TEST_ABORTED; the sweep timer restarts after a sweep test, and the engine chooses its work. A suspension request that
waits behind the completion (R116; log entry 22) then follows. -/
def Obligations.TestsAreHeldYieldAndEnd : Prop :=
  ∀ (s : State) (now : Time) (c : TestCtx) (i : Instr) (values : TestValues), s.link.resetnLow = false →
    s.engine.running = some c → c.completes now i values →
    let e := s.engine
    let l := c.line
    let off := (s.at now).offBus now l
    (∀ p, c.abortRequested = false → c.next = some p →
      let held : Engine := { e with running := none, heldSweep := some ⟨l, c.steps, values, some p⟩ }
      (e.state = .running → e.suspendPending = true → exec i s = .next { off with engine := { e with
        state := .suspended, suspendPending := false, sweepTimer := e.sweepTimer.paused now
        running := some { c with values := values, phase := none } } }) ∧
      (e.state = .stepping → e.suspendPending = true → exec i s = .next { off with engine := { held with
        state := .suspended, suspendPending := false, sweepTimer := e.sweepTimer.paused now } }) ∧
      (e.state = .stepping → e.suspendPending = false → c.phase ≠ some (.settle, now) →
        (e.queue ≠ [] → exec i s = .next { off with engine := held }.chooseWork) ∧
        (s.noneOwed → ∀ r rest, e.queue = r :: rest → (s.line r.line).hook.state.busy = false ∨ r.force = true →
          exec i s = .next { off.onBus r.line with engine := { held with
            state := .running, queue := rest, running := some (r.begun now) } }))) ∧
    (e.state = .running ∨ e.state = .stepping →
      let free : Engine := { e with
        running := none, sweepTimer := if c.origin = .sweep then e.timerFrom now else e.sweepTimer }
      let chosen (u : State) : State := if c.crossed then u.chooseWork.requestSuspension l else u.chooseWork
      let rested : Engine := if c.crossed then { free with state := .suspended, sweepTimer := free.sweepTimer.paused now }
        else { free with state := .idle }
      (c.abortRequested = false → c.next = none →
        let record : ResultRec := ⟨l, c.origin, c.steps, values, .done, some (verdictOf values (s.line l).prof.working)⟩
        let judged := off.takeVerdict l (verdictOf values (s.line l).prof.working)
        let stored := judged.setLine l { judged.line l with test := ⟨false, false, some record⟩ }
        let told := if c.hostReport then stored.raise l (.testDone record) else stored
        exec i s = .next (chosen { told with engine := free }) ∧
        (e.queue = [] → e.heldSweep = none → e.sweepDue = false → e.suspendPending = false →
          exec i s = .next { told with engine := rested })) ∧
      (c.abortRequested = true →
        let record : ResultRec := ⟨l, c.origin, c.steps, values, .aborted, none⟩
        let told := (off.setLine l { off.line l with test := ⟨false, false, some record⟩ }).raise l (.testAborted record)
        exec i s = .next (chosen { told with engine := free }) ∧
        (e.queue = [] → e.heldSweep = none → e.sweepDue = false → e.suspendPending = false →
          exec i s = .next { told with engine := rested })))

/-- R105, R106, Law 10 (R118): what each engine state has in flight and holds; every step keeps it. R111: when the sweep timer
runs, beside what each engine state holds; every step keeps it. Law 8 (R101): every step keeps it. R116: a suspension request
waits behind the completion of a last step alone (log entry 22); every step keeps this. -/
def Obligations.EngineStatesTimerAndQueueAreKept : Prop :=
  (∀ s t : State, EngineConsistent s.engine → step s = .next t → EngineConsistent t.engine) ∧
  (∀ s t : State, EngineConsistent s.engine → SweepTimerLaw s.engine → step s = .next t → SweepTimerLaw t.engine) ∧
  (∀ s t : State, LawEight s → step s = .next t → LawEight t) ∧
  (∀ s t : State, EngineConsistent s.engine → CrossWaits s.engine → step s = .next t → CrossWaits t.engine)

/-- Law 9 (R99), with the hold of receivers (R73, R79), beside the laws it rests on: every step keeps them. -/
def Obligations.LawNineIsKept : Prop :=
  ∀ s t : State, PoolLaws s → EngineConsistent s.engine → LawNine s → step s = .next t → LawNine t

/-! ## Faults and quarantine -/

/-- R125: the verdict of a DONE test, kind by kind. R126 to R129, R44: what a verdict does, by its kinds, the working
quarantineOnFault and clearCount and the hook state, with its events: FAULT naming exactly the kinds that have just joined, and then
QUARANTINED or FAULT_CLEARED. -/
def Obligations.VerdictsAreFormedAndActedOn : Prop :=
  (∀ (v : TestValues) (p : Profile),
    ((verdictOf v p).getLsbD 0 = false ∧ (verdictOf v p).getLsbD 1 = false) ∧
    ((verdictOf v p).getLsbD 2 = true ↔
      (∃ tip ring : Int, v.dcv = some (tip, ring) ∧ ((p.fvDcLimit : Int) < |tip| ∨ (p.fvDcLimit : Int) < |ring|)) ∨
      (∃ x, v.acv = some x ∧ p.fvAcLimit < x)) ∧
    ((verdictOf v p).getLsbD 3 = true ↔ ∃ x, v.irt = some x ∧ x < p.irLimit) ∧
    ((verdictOf v p).getLsbD 4 = true ↔ ∃ x, v.irr = some x ∧ x < p.irLimit) ∧
    ((verdictOf v p).getLsbD 5 = true ↔ ∃ x, v.rtr = some x ∧ x < p.lowLoopLimit)) ∧
  (∀ (s : State) (l : Line) (v : FaultSet), CallLaws s →
    let r := s.line l
    let p := r.prof.working
    let new := v &&& ~~~r.fault.sticky
    let sticky := r.fault.sticky ||| v
    let noted := s.setLine l { r with fault := { r.fault with sticky := sticky } }
    let joined := if new = 0#6 then noted else noted.raise l (.fault new)
    let t := s.takeVerdict l v
    (r.hook.state ≠ .quarantined → v = 0#6 ∨ p.quarantineOnFault = false ∨ r.hook.state = .outOfService → t = joined) ∧
    (v ≠ 0#6 → p.quarantineOnFault = true → r.hook.state.busy = true →
      t = joined.setLine l { joined.line l with hook := { r.hook with pendingQuarantine := true } }) ∧
    (v ≠ 0#6 → p.quarantineOnFault = true → r.hook.state = .learning ∨ r.hook.state = .idle →
      r.pool.receiver = none → r.pool.waiting = false →
      let told := joined.raise l .quarantined
      t = told.setLine l { told.line l with
        hook := ⟨r.hook.service, .quarantined, none, none, none, 0, false, false⟩
        lsu := { r.lsu with learningEnd := none, leakClamp := none, leakReported := false }.reperiod
          .quarantined s.battery.mode s.partTime
        fault := ⟨sticky, 0, some (s.partTime + BitVec.ofNat 32 (1000 * p.retestInterval)), r.fault.owed⟩ }) ∧
    (r.hook.state = .quarantined → v ≠ 0#6 →
      t = joined.setLine l { joined.line l with fault := { r.fault with sticky := sticky, clearCount := 0 } }) ∧
    (r.hook.state = .quarantined → v = 0#6 → r.fault.clearCount + 1 < p.clearCount →
      t = s.setLine l { r with fault := { r.fault with clearCount := r.fault.clearCount + 1 } }) ∧
    (r.hook.state = .quarantined → v = 0#6 → p.clearCount ≤ r.fault.clearCount + 1 →
      t = (s.setLine l ({ r with fault := { r.fault with retestDue := none, clearCount := 0 } }.learning s.partTime
        s.battery.mode)).raise l .faultCleared))

/-- R134, R135 (with R45): ACK_FAULTS removes kinds and answers with the set left; RELEASE_QUARANTINE puts the line in LEARNING.
R130: at the retest due an AUTO full test is filed unless the line is OV-active or the engine SUSPENDED, and the due is set
afresh; an arrival at any other time does nothing (DEDUCED, log entry 2). -/
def Obligations.AckReleaseAndRetest : Prop :=
  (∀ (s : State) (now : Time) (b k : Byte), s.ready → 32 ≤ b.toNat ∨ 64 ≤ k.toNat →
    exec (.ackFaults now b k) s = .next (s.answered now ⟨0x14#8, .badArgument, []⟩) ∧
    (32 ≤ b.toNat → exec (.releaseQuarantine now b) s = .next (s.answered now ⟨0x15#8, .badArgument, []⟩))) ∧
  (∀ (s : State) (now : Time) (l : Line) (kinds : FaultSet), s.ready →
    let r := s.line l
    let left := r.fault.sticky &&& ~~~kinds
    exec (.ackFaults now (lineByte l) (kinds.setWidth 8)) s =
      .next ((s.setLine l { r with fault := { r.fault with sticky := left } }).answered now
        ⟨0x14#8, .ok, [left.setWidth 8]⟩)) ∧
  (∀ (s : State) (now : Time) (l : Line), s.ready →
    let r := s.line l
    (r.hook.state ≠ .quarantined →
      exec (.releaseQuarantine now (lineByte l)) s = .next (s.answered now ⟨0x15#8, .notQuarantined, []⟩)) ∧
    (r.hook.state = .quarantined → r.lsu.ovActive = true →
      exec (.releaseQuarantine now (lineByte l)) s = .next (s.answered now ⟨0x15#8, .stillAlarmed, []⟩)) ∧
    (r.hook.state = .quarantined → r.lsu.ovActive = false →
      exec (.releaseQuarantine now (lineByte l)) s = .next ((s.setLine l
        ({ r with fault := { r.fault with retestDue := none, clearCount := 0 } }.learning now s.battery.mode)).answered now
          ⟨0x15#8, .ok, []⟩))) ∧
  (∀ (s : State) (now : Time) (l : Line), s.link.resetnLow = false →
    let due : Time := now + BitVec.ofNat 32 (1000 * (s.line l).prof.working.retestInterval)
    let afresh (u : State) : State := u.setLine l { u.line l with fault := { (u.line l).fault with retestDue := some due } }
    ((s.line l).hook.state ≠ .quarantined ∨ (s.line l).fault.retestDue ≠ some now →
      exec (.retestTimerExpiry now l) s = .next (s.at now)) ∧
    ((s.line l).hook.state = .quarantined → (s.line l).fault.retestDue = some now →
      ((s.line l).lsu.ovActive = true ∨ s.engine.state = .suspended →
        exec (.retestTimerExpiry now l) s = .next (afresh (s.at now))) ∧
      ((s.line l).lsu.ovActive = false → s.engine.state ≠ .suspended →
        exec (.retestTimerExpiry now l) s = .next (afresh ((s.at now).fileAuto l)))))

/-- R20, R118, R129, R131, R132 (with R9, R43, R63, R76, R77, R109, R111, R126, R147): the sample that completes an over-voltage run
isolates its line at once and suspends testing; on a line in quarantine already it only adds PX, sets the clear count to 0 and asks
for suspension. Its events, in order: FAULT naming PX if PX is new, POWER_CROSS, QUARANTINED, PROFILE_APPLIED, and TEST_ABORTED of a
test abandoned on the line. R116, R137: where the last step on the line completes at that instant, the engine takes the completion
before the suspension request or after it, as a free value says (log entry 22). R137, last two rows: a CLEAR verdict that reaches
clearCount and a power cross at one instant, taken in either order; the power cross first, the verdict then counts 1. -/
def Obligations.PowerCrossIsolatesTheLine : Prop :=
  (∀ (s : State) (now : Time) (l : Line) (i : Nat), s.due now l → CallLaws s → PoolLaws s → EngineConsistent s.engine →
    (s.line l).lsu.completesRun true = true → (s.line l).hook.state ≠ .outOfService →
    let r := s.line l
    let e := s.engine
    let p := if r.hook.pendingProfile then s.profile r.prof.number else r.prof.working
    let abandons (c : TestCtx) : Prop := e.running = some c ∧ c.line = l ∧ c.phase.isSome = true
    let meets (c : TestCtx) : Prop := (∃ q, c.phase = some (.measure q, now)) ∧ c.next = none ∧ c.abortRequested = false ∧
      c.crossed = false
    let faulted := if r.fault.sticky.getLsbD 0 then s.at now else (s.at now).raise l (.fault 1#6)
    let crossed := faulted.raise l .powerCross
    let isolated := if r.hook.state = .quarantined then crossed else
      let v := crossed.raise l .quarantined
      if r.hook.pendingProfile then v.raise l .profileApplied else v
    ∃ t, exec (.sampleRecord now l i true) s = .next t ∧
      t = { s with partTime := now, lines := t.lines, pool := t.pool, engine := t.engine, reporter := t.reporter,
                   link := t.link, freeCount := t.freeCount } ∧
      (t.line l).hook.state = .quarantined ∧ (t.line l).lsu.ovActive = true ∧ (t.line l).lsu.ovRun = 0 ∧
      (t.line l).lsu.lastSample = some ⟨min i 1200, true, now⟩ ∧ (t.line l).fault.sticky = r.fault.sticky ||| 1#6 ∧
      (t.line l).fault.clearCount = 0 ∧
      (r.hook.state = .quarantined → (t.line l).hook = r.hook ∧ (t.line l).fault.retestDue = r.fault.retestDue ∧
        (t.line l).dial = r.dial ∧ (t.line l).prof = r.prof ∧ t.pool = s.pool ∧ ∀ m, m ≠ l → t.line m = s.line m) ∧
      (r.hook.state ≠ .quarantined →
        (t.line l).hook = ⟨r.hook.service, .quarantined, none, none, none, 0, false, false⟩ ∧
        (t.line l).dial = { r.dial with collection := .inactive, firstDeadline := none, endDeadline := none } ∧
        (t.line l).pool = ⟨r.pool.slot, none, false⟩ ∧ (t.line l).prof = ⟨r.prof.number, p⟩ ∧
        (t.line l).lsu.baseline = (if r.hook.pendingProfile then min r.lsu.baseline (4096 * p.leakMax) else r.lsu.baseline) ∧
        (t.line l).lsu.learningEnd = none ∧ (t.line l).lsu.leakClamp = none ∧ (t.line l).lsu.leakReported = false ∧
        (t.line l).fault.retestDue = some (now + BitVec.ofNat 32 (1000 * p.retestInterval)) ∧
        ∃ u, CollectionEnded (s.at now) u l ∧ t.pool = u.pool ∧ ∀ m, m ≠ l → t.line m = u.line m) ∧
      let others : Prop := (t.line l).test = r.test ∧ (t.line l).lsu.settleEnd = r.lsu.settleEnd ∧
        t.reporter = isolated.reporter ∧ t.link = isolated.link ∧ (t.line l).rep = (isolated.line l).rep
      let abandoned (c : TestCtx) : Prop :=
        let record : ResultRec := ⟨l, c.origin, c.steps, c.values, .abandoned, none⟩
        let told := if c.hostReport = true ∨ c.abortRequested = true then isolated.raise l (.testAborted record) else isolated
        t.engine = { e with
          state := .suspended, running := none, suspendPending := false
          sweepTimer := if c.origin = .sweep then if e.sweepEnabled then .remaining (1000 * e.sweepInterval) else .stopped
            else e.sweepTimer.paused now } ∧
        (t.line l).test = ⟨false, false, some record⟩ ∧ (t.line l).lsu.settleEnd = some (now + 20#32) ∧
        t.reporter = told.reporter ∧ t.link = told.link ∧ (t.line l).rep = (told.line l).rep
      (e.state = .suspended → t.engine = e ∧ others) ∧
      (e.state = .idle → t.engine = { e with state := .suspended, sweepTimer := e.sweepTimer.paused now } ∧ others) ∧
      (e.state = .running ∨ e.state = .stepping → (¬ ∃ c, abandons c) → t.engine = { e with suspendPending := true } ∧ others) ∧
      (∀ c, abandons c → ¬ meets c → abandoned c) ∧
      (∀ c, abandons c → meets c → t.freeCount = s.freeCount + 1 ∧
        if Config.completionFirst s.freeCount then t.engine = { e with running := some { c with crossed := true } } ∧ others
        else abandoned c) ∧
      ((¬ ∃ c, abandons c ∧ meets c) → t.freeCount = s.freeCount)) ∧
  (∀ (s : State) (now : Time) (l : Line) (i : Nat) (c : TestCtx) (q : Step) (a b : Int), s.due now l → CallLaws s → PoolLaws s →
    EngineConsistent s.engine → PeriodsFollow s → (s.line l).lsu.completesRun true = true → (s.line l).hook.state = .quarantined →
    s.engine.running = some c → c.line = l → c.phase = some (.measure q, now) → c.next = none → c.abortRequested = false →
    c.crossed = false → s.engine.queue = [] → s.engine.heldSweep = none → s.engine.sweepDue = false →
    let r := s.line l
    let p := r.prof.working
    let values := c.values.record q a b
    verdictOf values p = 0#6 →
    let done : ResultRec := ⟨l, c.origin, c.steps, values, .done, some 0#6⟩
    let first := Config.completionFirst s.freeCount
    let ended (u : State) (record : ResultRec) (count : Nat) (retest : Option Time) : Prop :=
      (u.line l).hook.state = .quarantined ∧ (u.line l).lsu.ovActive = true ∧ (u.line l).fault.sticky = r.fault.sticky ||| 1#6 ∧
      (u.line l).test = ⟨false, false, some record⟩ ∧ (u.line l).fault.clearCount = count ∧ (u.line l).fault.retestDue = retest ∧
      u.engine.state = .suspended ∧ u.engine.running = none
    (1 < p.clearCount → ∃ t u, exec (.sampleRecord now l i true) s = .next t ∧ exec (.stepCompletion now a b) t = .next u ∧
      ended u (if first then done else ⟨l, c.origin, c.steps, c.values, .abandoned, none⟩) (if first then 1 else 0)
        r.fault.retestDue) ∧
    (p.clearCount ≤ r.fault.clearCount + 1 → ∃ t u, exec (.stepCompletion now a b) s = .next t ∧
      exec (.sampleRecord now l i true) t = .next u ∧ (t.line l).hook.state = .learning ∧
      ended u done 0 (some (now + BitVec.ofNat 32 (1000 * p.retestInterval))) ∧
      (u.line l).rep.latched &&& 0x7000#16 = 0x7000#16))

/-! ## Samples -/

/-- R2, R3: the period of each hook state and mode, and the first boundary of a period later than a moment. -/
def Obligations.SamplePeriodsAndBoundaries : Prop :=
  (∀ (h : HookState) (m : ScanMode), periodOf h m =
    if h = .outOfService then .notSampled
    else if m = .economy ∧ (h = .learning ∨ h = .idle ∨ h = .quarantined) then .ms8 else .ms2) ∧
  (∀ now : Time, Period.notSampled.nextAfter now = none) ∧
  (∀ (p : Period) (ms : Nat), (p = .ms2 ∧ ms = 2) ∨ (p = .ms8 ∧ ms = 8) → ∀ now : Time, now.toNat + 8 < 2 ^ 32 →
    ∃ t, p.nextAfter now = some t ∧ now.toNat < t.toNat ∧ t.toNat % ms = 0 ∧
      ∀ n, now.toNat < n → n % ms = 0 → t.toNat ≤ n) ∧
  (∀ (u : Lsu) (h : HookState) (m : ScanMode) (now : Time),
    (periodOf h m = u.period → u.reperiod h m now = u) ∧
    (periodOf h m ≠ u.period →
      u.reperiod h m now = { u with period := periodOf h m, nextSample := (periodOf h m).nextAfter now }))

/-- R6: a baseline update, in its three steps, with what it says of the correction and the clamp. R8: the thresholds of a
baseline within its bounds under a valid record, and those of baseline 0 under the default record. -/
def Obligations.BaselinesAndThresholds : Prop :=
  (∀ b i shift leakMax : Nat, b ≤ 4096 * leakMax →
    let d : Int := (i : Int) * 4096 - b
    let c : Int := ⌊(d : ℚ) / 2 ^ shift⌋
    (updatedBaseline b i shift leakMax : Int) = min (((4096 * leakMax : Nat) : Int)) (b + c) ∧
    (leakMax ≤ 200 → i ≤ 1200 → -819200 ≤ d ∧ d ≤ 4915200) ∧
    (d < 0 → c ≤ -1 ∧ (i : Int) * 4096 ≤ b + c) ∧ (0 ≤ d → d < 2 ^ shift → c = 0) ∧ 0 ≤ (b : Int) + c ∧
    (∀ (u : Lsu) (p : Profile), p.leakMax = leakMax → u.baseline = b →
      u.update p i shift = u.withBaseline (updatedBaseline b i shift leakMax) p)) ∧
  ((∀ (b : Nat) (p : Profile), p.valid → b ≤ 4096 * p.leakMax →
    let w := b / 4096
    seizeThreshold b p = max 40 (min 300 (w + p.seizeMargin)) ∧
    (releaseThreshold b p : Int) = max ((seizeThreshold b p : Int) - p.hysteresis) (w + 1) ∧
    40 ≤ seizeThreshold b p ∧ seizeThreshold b p ≤ 300 ∧ 1 ≤ releaseThreshold b p ∧
    releaseThreshold b p < seizeThreshold b p) ∧
  seizeThreshold 0 Profile.default = 60 ∧ releaseThreshold 0 Profile.default = 40)

/-- R1, R4, R18 to R21: a sample that is not due is not taken; one on the test bus or inside the settle window, and one of a
QUARANTINED line, is recorded and counted toward its over-voltage run and does nothing else (times compare as log entry 6 says; that
a sample that is not due does nothing: log entry 2; both DEDUCED). R19, R42, R80: the first usable sample after a test ends the
settle window, restarts the timings in progress at its own time and unholds the line's receiver, and is then handled as a sample of
the line so left: on an IDLE or LEARNING line, and where it changes the hook state, as where it does not. -/
def Obligations.SamplesAreSetAsideUntilTheWindowEnds : Prop :=
  (∀ (s : State) (now : Time) (l : Line) (i : Nat) (ov : Bool),
    (s.link.resetnLow = false → (s.line l).lsu.nextSample ≠ some now →
      exec (.sampleRecord now l i ov) s = .next (s.at now)) ∧
    (s.due now l → (s.line l).lsu.completesRun ov = false →
      (s.line l).test.onTestBus = true ∨ (∃ e, (s.line l).lsu.settleEnd = some e ∧ earlier 20 now e = true) ∨
        ((s.line l).clear ∧ (s.line l).hook.state = .quarantined) →
      exec (.sampleRecord now l i ov) s =
        .next ((s.at now).setLine l { s.line l with lsu := (s.line l).lsu.sampled now i ov }))) ∧
  (∀ (s : State) (now : Time) (l : Line) (i : Nat) (ov : Bool) (e : Time), s.due now l →
    (s.line l).lsu.completesRun ov = false → (s.line l).test.onTestBus = false → (s.line l).lsu.settleEnd = some e →
    earlier 20 now e = false →
    exec (.sampleRecord now l i ov) s = exec (.sampleRecord now l i ov) (s.windowEnded now l) ∧
    ((s.line l).prof.working.valid → (s.line l).consistent →
    let r := s.line l
    let h := r.hook
    let ended (hook : HookRec) : Prop :=
      let u := (s.at now).setLine l { r with lsu := { r.lsu.sampled now i ov with settleEnd := none }, hook := hook }
      (r.pool.receiver = none → exec (.sampleRecord now l i ov) s = .next u) ∧
      (∀ x rec, r.pool.receiver = some x → s.receiver x = some rec →
        exec (.sampleRecord now l i ov) s = .next (u.setReceiver x (some { rec with held := false })))
    (h.state = .seizing → r.lsu.tSeize ≤ min i 1200 → ended { h with runStart := some now }) ∧
    (h.state = .offHook → r.lsu.tRel ≤ min i 1200 → ended { h with makeStart := h.makeStart.map fun _ => now }) ∧
    (h.state = .onBreak → min i 1200 < r.lsu.tSeize →
      ended { h with breakStart := some now, makeStart := h.makeStart.map fun _ => now }) ∧
    (h.state = .quarantined → ended h)))

/-- R6, R12, R27: a learning sample updates the baseline with shift 2 and considers no seize; the first at or after the learning
end time makes the line IDLE and is its first resting sample (times compare as log entry 6 says, DEDUCED). -/
def Obligations.LearningSamples : Prop :=
  ∀ (s : State) (now : Time) (l : Line) (i : Nat) (ov : Bool) (e : Time), s.due now l → (s.line l).consistent →
    PeriodsFollow s → (s.line l).lsu.completesRun ov = false → (s.line l).clear → (s.line l).hook.state = .learning →
    (s.line l).lsu.learningEnd = some e →
    let r := s.line l
    let p := r.prof.working
    let u := r.lsu.sampled now i ov
    let c := min i 1200
    (earlier 512 now e = true → exec (.sampleRecord now l i ov) s = .next ((s.at now).setLine l
      { r with lsu := u.withBaseline (updatedBaseline r.lsu.baseline c 2 p.leakMax) p })) ∧
    (earlier 512 now e = false → c < r.lsu.tSeize →
      let b := updatedBaseline r.lsu.baseline c p.trackShift p.leakMax
      exec (.sampleRecord now l i ov) s = .next ((s.at now).setLine l { r with
        hook := ⟨r.hook.service, .idle, none, none, none, 0, false, false⟩
        lsu := { u.withBaseline b p with
          learningEnd := none
          leakClamp := if b = 4096 * p.leakMax ∧ p.leakMax < c then some ⟨now, 1000 * p.leakAlarmTime⟩ else none } })) ∧
    (earlier 512 now e = false → r.lsu.tSeize ≤ c → exec (.sampleRecord now l i ov) s = .next ((s.at now).setLine l { r with
      hook := ⟨r.hook.service, .seizing, some now, none, none, 0, false, false⟩
      lsu := { u with learningEnd := none }.reperiod .seizing s.battery.mode now }))

/-- R14 to R17, R28, R133: a resting sample seizes the line, or updates the baseline and judges the leak clamp; a clamp held for
its alarm limit is reported. -/
def Obligations.RestingSamples : Prop :=
  ∀ (s : State) (now : Time) (l : Line) (i : Nat) (ov : Bool), s.due now l → (s.line l).lsu.completesRun ov = false →
    (s.line l).clear → (s.line l).hook.state = .idle →
    let r := s.line l
    let p := r.prof.working
    let u := r.lsu.sampled now i ov
    let c := min i 1200
    let b := updatedBaseline r.lsu.baseline c p.trackShift p.leakMax
    let rested := u.withBaseline b p
    let becomes (lsu : Lsu) : Prop := exec (.sampleRecord now l i ov) s = .next ((s.at now).setLine l { r with lsu := lsu })
    let presses : Prop := b = 4096 * p.leakMax ∧ p.leakMax < c
    (r.lsu.tSeize ≤ c → exec (.sampleRecord now l i ov) s = .next ((s.at now).setLine l { r with
      hook := { r.hook with state := .seizing, runStart := some now }
      lsu := { u with leakClamp := none, leakReported := false }.reperiod .seizing s.battery.mode now })) ∧
    (c < r.lsu.tSeize →
      (¬ presses → becomes { rested with leakClamp := none, leakReported := false }) ∧
      (presses → r.lsu.leakClamp = none →
        becomes (if r.lsu.leakReported then rested else { rested with leakClamp := some ⟨now, 1000 * p.leakAlarmTime⟩ })) ∧
      (∀ k, presses → r.lsu.leakClamp = some k → elapsed now k.start < k.limit → becomes rested) ∧
      (∀ k, presses → r.lsu.leakClamp = some k → k.limit ≤ elapsed now k.start →
        let v := (s.at now).setLine l { r with
          lsu := { rested with leakClamp := none, leakReported := true }
          fault := { r.fault with sticky := r.fault.sticky ||| 2#6 } }
        exec (.sampleRecord now l i ov) s =
          .next (((if r.fault.sticky.getLsbD 1 then v else v.raise l (.fault 2#6)).raise l .leakage).fileAuto l)))

/-- R29 to R31: a SEIZING line stays, falls back to IDLE, or is declared off-hook after seizeTime, where OFF_HOOK comes before
the arming of collection. -/
def Obligations.SeizingSamples : Prop :=
  ∀ (s : State) (now : Time) (l : Line) (i : Nat) (ov : Bool) (start : Time), s.due now l →
    (s.line l).lsu.completesRun ov = false → (s.line l).clear → (s.line l).hook.state = .seizing →
    (s.line l).hook.runStart = some start →
    let r := s.line l
    let p := r.prof.working
    let u := r.lsu.sampled now i ov
    let c := min i 1200
    let back : LineRec := { r with
      hook := { r.hook with state := .idle, runStart := none }
      lsu := (u.withBaseline u.baseline p).reperiod .idle s.battery.mode now }
    (r.lsu.tSeize ≤ c → elapsed now start < p.seizeTime →
      exec (.sampleRecord now l i ov) s = .next ((s.at now).setLine l { r with lsu := u })) ∧
    (r.lsu.tSeize ≤ c → p.seizeTime ≤ elapsed now start →
      let raised := ((s.at now).setLine l { r with
        lsu := u
        hook := { r.hook with state := .offHook, runStart := none, makeStart := none, pulseCount := 0 } }).raise l .offHook
      exec (.sampleRecord now l i ov) s = .next (if p.autoCollect then raised.armCollection l else raised)) ∧
    (c < r.lsu.tSeize → r.hook.pendingQuarantine = false →
      (r.hook.pendingProfile = false → exec (.sampleRecord now l i ov) s = .next ((s.at now).setLine l back)) ∧
      (r.hook.pendingProfile = true → exec (.sampleRecord now l i ov) s =
        .next (((s.at now).setLine l ({ back with hook := { back.hook with pendingProfile := false } }.applied
          (s.profile r.prof.number))).raise l .profileApplied))) ∧
    (c < r.lsu.tSeize → r.hook.pendingQuarantine = true → exec (.sampleRecord now l i ov) s =
      .next (((s.at now).setLine l { back with hook := { back.hook with pendingQuarantine := false } }).enterQuarantine l))

/-- R32, R34: an OFF_HOOK sample: the interdigit check, which closes the digit in progress, and then the break check. R33 to R37:
a BREAK sample short of release: a continued break, with the closure of a digit once the break has lasted pulseMax; and a make,
classed as a hit, a pulse break, an invalid break or a flash, the last two after the closure of a digit still in progress. -/
def Obligations.OffHookAndBreakSamples : Prop :=
  (∀ (s : State) (now : Time) (l : Line) (i : Nat) (ov : Bool), s.due now l → (s.line l).lsu.completesRun ov = false →
    (s.line l).clear → (s.line l).hook.state = .offHook →
    let r := s.line l
    let p := r.prof.working
    let c := min i 1200
    let n := r.hook.pulseCount
    let v := (s.at now).setLine l { r with lsu := r.lsu.sampled now i ov }
    let broken (t : State) : State := if c < r.lsu.tRel
      then t.setLine l { t.line l with hook := { (t.line l).hook with state := .onBreak, breakStart := some now } } else t
    let closed := v.setLine l { v.line l with hook := { r.hook with pulseCount := 0 } }
    let due : Prop := 0 < n ∧ ∃ m, r.hook.makeStart = some m ∧ p.interdigit ≤ elapsed now m
    (¬ due → exec (.sampleRecord now l i ov) s = .next (broken v)) ∧
    (due → ∀ k : Key, (n = k.val ∧ 1 ≤ n ∧ n ≤ 9) ∨ (n = 10 ∧ k = 0) →
      exec (.sampleRecord now l i ov) s = .next (broken (closed.collectDigit l k .pulse))) ∧
    (due → n = 11 → exec (.sampleRecord now l i ov) s = .next (broken (closed.raise l .digitError)))) ∧
  (∀ (s : State) (now : Time) (l : Line) (i : Nat) (ov : Bool) (start : Time), s.due now l →
    (s.line l).lsu.completesRun ov = false → (s.line l).clear → (s.line l).hook.state = .onBreak →
    (s.line l).hook.breakStart = some start →
    let r := s.line l
    let h := r.hook
    let p := r.prof.working
    let c := min i 1200
    let len := elapsed now start
    let v := (s.at now).setLine l { r with lsu := r.lsu.sampled now i ov }
    let hooked (hook : HookRec) : State := v.setLine l { v.line l with hook := hook }
    let counted : Nat := if r.dial.collection ≠ .inactive ∧ p.dialModes ≠ .tone ∧ r.dial.mode ≠ .tone
      then min 11 (h.pulseCount + 1) else h.pulseCount
    p.hitMax < p.pulseMax → p.pulseMax < p.flashMin → len < p.releaseMin →
    (c < r.lsu.tSeize →
      (h.pulseCount = 0 ∨ len < p.pulseMax → exec (.sampleRecord now l i ov) s = .next v) ∧
      (p.pulseMax ≤ len → ∀ k : Key, (h.pulseCount = k.val ∧ 1 ≤ h.pulseCount ∧ h.pulseCount ≤ 9) ∨
          (h.pulseCount = 10 ∧ k = 0) →
        exec (.sampleRecord now l i ov) s = .next ((hooked { h with pulseCount := 0 }).collectDigit l k .pulse)) ∧
      (p.pulseMax ≤ len → h.pulseCount = 11 →
        exec (.sampleRecord now l i ov) s = .next ((hooked { h with pulseCount := 0 }).raise l .digitError))) ∧
    (r.lsu.tSeize ≤ c →
      (len < p.hitMax →
        exec (.sampleRecord now l i ov) s = .next (hooked { h with state := .offHook, breakStart := none })) ∧
      (p.hitMax ≤ len → len ≤ p.pulseMax → exec (.sampleRecord now l i ov) s =
        .next (hooked { h with state := .offHook, breakStart := none, makeStart := some now, pulseCount := counted })) ∧
      (p.pulseMax < len →
        let closed := v.digitClosed l
        let made := closed.setLine l { closed.line l with hook := { (closed.line l).hook with
          state := .offHook, breakStart := none, makeStart := some now } }
        (len < p.flashMin → exec (.sampleRecord now l i ov) s = .next made) ∧
        (p.flashMin ≤ len → exec (.sampleRecord now l i ov) s = .next ((made.raise l .flash).collectFlash l)))))

/-- R38 (with R31, R34, R63, R76, R77): release at a break of releaseMin, whatever the current: a digit still in progress is closed,
ON_HOOK is raised, collection ends, and the line returns to IDLE. R31, R38, R44, R129, R147: a pending profile alone is applied there,
with PROFILE_APPLIED; a pending quarantine is entered, with QUARANTINED and then PROFILE_APPLIED if a profile was pending too. -/
def Obligations.ReleaseReturnsToIdle : Prop :=
  ∀ (s : State) (now : Time) (l : Line) (i : Nat) (ov : Bool) (start : Time), s.due now l → CallLaws s → PoolLaws s →
    (s.line l).lsu.completesRun ov = false → (s.line l).clear → (s.line l).hook.state = .onBreak →
    (s.line l).hook.breakStart = some start → (s.line l).prof.working.releaseMin ≤ elapsed now start →
    (s.line l).prof.working.pulseMax < elapsed now start →
    let r := s.line l
    let closed := ((s.at now).setLine l { r with lsu := r.lsu.sampled now i ov }).digitClosed l
    let raised := closed.raise l .onHook
    ∃ u, CollectionEnded raised u l ∧
      let back : LineRec := { u.line l with
        hook := ⟨r.hook.service, .idle, none, none, none, 0, false, false⟩
        lsu := ((u.line l).lsu.withBaseline r.lsu.baseline r.prof.working).reperiod .idle s.battery.mode now }
      let v := s.profile r.prof.number
      (r.hook.pendingQuarantine = false → r.hook.pendingProfile = false →
        exec (.sampleRecord now l i ov) s = .next (u.setLine l back)) ∧
      (r.hook.pendingQuarantine = false → r.hook.pendingProfile = true →
        exec (.sampleRecord now l i ov) s = .next ((u.setLine l (back.applied v)).raise l .profileApplied)) ∧
      (r.hook.pendingQuarantine = true →
        let isolated := (u.setLine l { back with hook := { back.hook with state := .quarantined } }).raise l .quarantined
        let applied := if r.hook.pendingProfile
          then (isolated.setLine l ((isolated.line l).applied v)).raise l .profileApplied else isolated
        let p := (applied.line l).prof.working
        exec (.sampleRecord now l i ov) s = .next (applied.setLine l { applied.line l with fault := { r.fault with
          clearCount := 0, retestDue := some (now + BitVec.ofNat 32 (1000 * p.retestInterval)) } }))

/-- R5, R8, R10, R140, R141: bounds and thresholds of every line, and valid records; every step keeps them. -/
def Obligations.LinesStayBounded : Prop :=
  ∀ s t : State, LinesBounded s → step s = .next t → LinesBounded t

/-- R2, R3: every line has the period of its hook state and the effective scan mode; every step keeps this. -/
def Obligations.PeriodsFollowStateAndMode : Prop :=
  ∀ s t : State, PeriodsFollow s → step s = .next t → PeriodsFollow t

/-! ## The battery -/

/-- R152 to R154: a reading is stored and judged; a change of battery state raises BATTERY, and then, where the mode follows,
SCAN_MODE, with every line's period set by the new mode. At any other time the arrival does nothing (DEDUCED, log entry 2). -/
def Obligations.BatteryReadingsAreJudged : Prop :=
  ∀ (s : State) (now : Time) (volts : Nat), s.link.resetnLow = false → SettingsLaws s →
    let v := min volts 80
    let low := 40 + 2 * s.battery.index.val
    let b : BatteryState := if s.battery.state = .normal then if v < low then .low else .normal
      else if low + 1 ≤ v then .normal else .low
    let m : ScanMode := if s.battery.setting = .economy ∨ (s.battery.setting = .auto ∧ b = .low) then .economy else .normal
    let read : State := { s with partTime := now, battery := { s.battery with reading := some v, state := b } }
    (now.toNat % 1000 ≠ 0 ∨ now = 0#32 → exec (.batteryReading now volts) s = .next (s.at now)) ∧
    (now.toNat % 1000 = 0 → now ≠ 0#32 →
      (b = s.battery.state → exec (.batteryReading now volts) s = .next read) ∧
      (b ≠ s.battery.state → m = s.battery.mode →
        exec (.batteryReading now volts) s = .next (read.raiseDevice (.battery v b))) ∧
      (b ≠ s.battery.state → m ≠ s.battery.mode →
        let raised := read.raiseDevice (.battery v b)
        exec (.batteryReading now volts) s = .next ({ raised with
          battery := { s.battery with reading := some v, state := b, mode := m }
          lines := Vector.ofFn fun l => { s.line l with
            lsu := (s.line l).lsu.reperiod (s.line l).hook.state m now } }.raiseDevice (.scanMode m))))

/-! ## The laws at reset -/

/-- Every law above holds in the state right after a power-up reset. -/
def Obligations.LawsHoldAfterReset : Prop :=
  FreeMeansNothingToSend State.reset ∧ LawEleven State.reset ∧ SettingsLaws State.reset ∧ WorkingFollowsTable State.reset ∧
  LinesBounded State.reset ∧ PeriodsFollow State.reset ∧ EngineConsistent State.reset.engine ∧ LawEight State.reset ∧
  LawNine State.reset ∧ SweepTimerLaw State.reset.engine ∧ CallLaws State.reset ∧ PoolLaws State.reset ∧ GridLaws State.reset ∧
  CrossWaits State.reset.engine
end

