-- ==== Sys2Proof/Laws/State.lean ====
section
/-! SUPPORT. One lemma per field per update of State, and the reading of a line's record after each. -/

namespace Sys2Proof.Machine

variable (s : State) (l : Line)

/-! ## setLine -/

@[simp] theorem line_setLine_self (r : LineRec) : (s.setLine l r).line l = r := by
  simp [State.line, State.setLine, Vector.get, Fin.cast]

@[simp] theorem line_setLine_ne (r : LineRec) {m : Line} (h : m ≠ l) : (s.setLine l r).line m = s.line m := by
  have : l.val ≠ m.val := fun e => h (Fin.ext e.symm)
  simp [State.line, State.setLine, Vector.get, Fin.cast, this]

theorem line_setLine (r : LineRec) (m : Line) : (s.setLine l r).line m = if m = l then r else s.line m := by
  by_cases h : m = l
  · subst h; simp
  · simp [h]

/-- States with the same records read the same. -/
theorem line_congr {t : State} (h : t.lines = s.lines) (m : Line) : t.line m = s.line m := by simp [State.line, h]

@[simp] theorem setLine_partTime (r : LineRec) : (s.setLine l r).partTime = s.partTime := rfl
@[simp] theorem setLine_pool (r : LineRec) : (s.setLine l r).pool = s.pool := rfl
@[simp] theorem setLine_tone (r : LineRec) : (s.setLine l r).tone = s.tone := rfl
@[simp] theorem setLine_profiles (r : LineRec) : (s.setLine l r).profiles = s.profiles := rfl
@[simp] theorem setLine_engine (r : LineRec) : (s.setLine l r).engine = s.engine := rfl
@[simp] theorem setLine_battery (r : LineRec) : (s.setLine l r).battery = s.battery := rfl
@[simp] theorem setLine_reporter (r : LineRec) : (s.setLine l r).reporter = s.reporter := rfl
@[simp] theorem setLine_link (r : LineRec) : (s.setLine l r).link = s.link := rfl
@[simp] theorem setLine_freeCount (r : LineRec) : (s.setLine l r).freeCount = s.freeCount := rfl
@[simp] theorem setLine_pending (r : LineRec) : (s.setLine l r).pending = s.pending := rfl

/-! ## modLsu -/

@[simp] theorem line_modLsu_self (f : Lsu → Lsu) : (s.modLsu l f).line l = { s.line l with lsu := f (s.line l).lsu } := by
  simp [State.modLsu]

@[simp] theorem line_modLsu_ne (f : Lsu → Lsu) {m : Line} (h : m ≠ l) : (s.modLsu l f).line m = s.line m := by
  simp [State.modLsu, h]

@[simp] theorem line_modLsu_hook (f : Lsu → Lsu) (m : Line) : ((s.modLsu l f).line m).hook = (s.line m).hook := by
  by_cases h : m = l <;> simp [h]
@[simp] theorem line_modLsu_dial (f : Lsu → Lsu) (m : Line) : ((s.modLsu l f).line m).dial = (s.line m).dial := by
  by_cases h : m = l <;> simp [h]
@[simp] theorem line_modLsu_pool (f : Lsu → Lsu) (m : Line) : ((s.modLsu l f).line m).pool = (s.line m).pool := by
  by_cases h : m = l <;> simp [h]
@[simp] theorem line_modLsu_test (f : Lsu → Lsu) (m : Line) : ((s.modLsu l f).line m).test = (s.line m).test := by
  by_cases h : m = l <;> simp [h]
@[simp] theorem line_modLsu_fault (f : Lsu → Lsu) (m : Line) : ((s.modLsu l f).line m).fault = (s.line m).fault := by
  by_cases h : m = l <;> simp [h]
@[simp] theorem line_modLsu_prof (f : Lsu → Lsu) (m : Line) : ((s.modLsu l f).line m).prof = (s.line m).prof := by
  by_cases h : m = l <;> simp [h]
@[simp] theorem line_modLsu_rep (f : Lsu → Lsu) (m : Line) : ((s.modLsu l f).line m).rep = (s.line m).rep := by
  by_cases h : m = l <;> simp [h]

@[simp] theorem modLsu_partTime (f : Lsu → Lsu) : (s.modLsu l f).partTime = s.partTime := rfl
@[simp] theorem modLsu_pool (f : Lsu → Lsu) : (s.modLsu l f).pool = s.pool := rfl
@[simp] theorem modLsu_tone (f : Lsu → Lsu) : (s.modLsu l f).tone = s.tone := rfl
@[simp] theorem modLsu_profiles (f : Lsu → Lsu) : (s.modLsu l f).profiles = s.profiles := rfl
@[simp] theorem modLsu_engine (f : Lsu → Lsu) : (s.modLsu l f).engine = s.engine := rfl
@[simp] theorem modLsu_battery (f : Lsu → Lsu) : (s.modLsu l f).battery = s.battery := rfl
@[simp] theorem modLsu_reporter (f : Lsu → Lsu) : (s.modLsu l f).reporter = s.reporter := rfl
@[simp] theorem modLsu_link (f : Lsu → Lsu) : (s.modLsu l f).link = s.link := rfl
@[simp] theorem modLsu_freeCount (f : Lsu → Lsu) : (s.modLsu l f).freeCount = s.freeCount := rfl
@[simp] theorem modLsu_pending (f : Lsu → Lsu) : (s.modLsu l f).pending = s.pending := rfl

/-! ## modHook -/

@[simp] theorem line_modHook_self (f : HookRec → HookRec) : (s.modHook l f).line l = { s.line l with hook := f (s.line l).hook } := by
  simp [State.modHook]

@[simp] theorem line_modHook_ne (f : HookRec → HookRec) {m : Line} (h : m ≠ l) : (s.modHook l f).line m = s.line m := by
  simp [State.modHook, h]

@[simp] theorem line_modHook_lsu (f : HookRec → HookRec) (m : Line) : ((s.modHook l f).line m).lsu = (s.line m).lsu := by
  by_cases h : m = l <;> simp [h]
@[simp] theorem line_modHook_dial (f : HookRec → HookRec) (m : Line) : ((s.modHook l f).line m).dial = (s.line m).dial := by
  by_cases h : m = l <;> simp [h]
@[simp] theorem line_modHook_pool (f : HookRec → HookRec) (m : Line) : ((s.modHook l f).line m).pool = (s.line m).pool := by
  by_cases h : m = l <;> simp [h]
@[simp] theorem line_modHook_test (f : HookRec → HookRec) (m : Line) : ((s.modHook l f).line m).test = (s.line m).test := by
  by_cases h : m = l <;> simp [h]
@[simp] theorem line_modHook_fault (f : HookRec → HookRec) (m : Line) : ((s.modHook l f).line m).fault = (s.line m).fault := by
  by_cases h : m = l <;> simp [h]
@[simp] theorem line_modHook_prof (f : HookRec → HookRec) (m : Line) : ((s.modHook l f).line m).prof = (s.line m).prof := by
  by_cases h : m = l <;> simp [h]
@[simp] theorem line_modHook_rep (f : HookRec → HookRec) (m : Line) : ((s.modHook l f).line m).rep = (s.line m).rep := by
  by_cases h : m = l <;> simp [h]

@[simp] theorem modHook_partTime (f : HookRec → HookRec) : (s.modHook l f).partTime = s.partTime := rfl
@[simp] theorem modHook_pool (f : HookRec → HookRec) : (s.modHook l f).pool = s.pool := rfl
@[simp] theorem modHook_tone (f : HookRec → HookRec) : (s.modHook l f).tone = s.tone := rfl
@[simp] theorem modHook_profiles (f : HookRec → HookRec) : (s.modHook l f).profiles = s.profiles := rfl
@[simp] theorem modHook_engine (f : HookRec → HookRec) : (s.modHook l f).engine = s.engine := rfl
@[simp] theorem modHook_battery (f : HookRec → HookRec) : (s.modHook l f).battery = s.battery := rfl
@[simp] theorem modHook_reporter (f : HookRec → HookRec) : (s.modHook l f).reporter = s.reporter := rfl
@[simp] theorem modHook_link (f : HookRec → HookRec) : (s.modHook l f).link = s.link := rfl
@[simp] theorem modHook_freeCount (f : HookRec → HookRec) : (s.modHook l f).freeCount = s.freeCount := rfl
@[simp] theorem modHook_pending (f : HookRec → HookRec) : (s.modHook l f).pending = s.pending := rfl

/-! ## modDial -/

@[simp] theorem line_modDial_self (f : DialRec → DialRec) : (s.modDial l f).line l = { s.line l with dial := f (s.line l).dial } := by
  simp [State.modDial]

@[simp] theorem line_modDial_ne (f : DialRec → DialRec) {m : Line} (h : m ≠ l) : (s.modDial l f).line m = s.line m := by
  simp [State.modDial, h]

@[simp] theorem line_modDial_lsu (f : DialRec → DialRec) (m : Line) : ((s.modDial l f).line m).lsu = (s.line m).lsu := by
  by_cases h : m = l <;> simp [h]
@[simp] theorem line_modDial_hook (f : DialRec → DialRec) (m : Line) : ((s.modDial l f).line m).hook = (s.line m).hook := by
  by_cases h : m = l <;> simp [h]
@[simp] theorem line_modDial_pool (f : DialRec → DialRec) (m : Line) : ((s.modDial l f).line m).pool = (s.line m).pool := by
  by_cases h : m = l <;> simp [h]
@[simp] theorem line_modDial_test (f : DialRec → DialRec) (m : Line) : ((s.modDial l f).line m).test = (s.line m).test := by
  by_cases h : m = l <;> simp [h]
@[simp] theorem line_modDial_fault (f : DialRec → DialRec) (m : Line) : ((s.modDial l f).line m).fault = (s.line m).fault := by
  by_cases h : m = l <;> simp [h]
@[simp] theorem line_modDial_prof (f : DialRec → DialRec) (m : Line) : ((s.modDial l f).line m).prof = (s.line m).prof := by
  by_cases h : m = l <;> simp [h]
@[simp] theorem line_modDial_rep (f : DialRec → DialRec) (m : Line) : ((s.modDial l f).line m).rep = (s.line m).rep := by
  by_cases h : m = l <;> simp [h]

@[simp] theorem modDial_partTime (f : DialRec → DialRec) : (s.modDial l f).partTime = s.partTime := rfl
@[simp] theorem modDial_pool (f : DialRec → DialRec) : (s.modDial l f).pool = s.pool := rfl
@[simp] theorem modDial_tone (f : DialRec → DialRec) : (s.modDial l f).tone = s.tone := rfl
@[simp] theorem modDial_profiles (f : DialRec → DialRec) : (s.modDial l f).profiles = s.profiles := rfl
@[simp] theorem modDial_engine (f : DialRec → DialRec) : (s.modDial l f).engine = s.engine := rfl
@[simp] theorem modDial_battery (f : DialRec → DialRec) : (s.modDial l f).battery = s.battery := rfl
@[simp] theorem modDial_reporter (f : DialRec → DialRec) : (s.modDial l f).reporter = s.reporter := rfl
@[simp] theorem modDial_link (f : DialRec → DialRec) : (s.modDial l f).link = s.link := rfl
@[simp] theorem modDial_freeCount (f : DialRec → DialRec) : (s.modDial l f).freeCount = s.freeCount := rfl
@[simp] theorem modDial_pending (f : DialRec → DialRec) : (s.modDial l f).pending = s.pending := rfl

/-! ## modPoolLine -/

@[simp] theorem line_modPoolLine_self (f : PoolLine → PoolLine) : (s.modPoolLine l f).line l = { s.line l with pool := f (s.line l).pool } := by
  simp [State.modPoolLine]

@[simp] theorem line_modPoolLine_ne (f : PoolLine → PoolLine) {m : Line} (h : m ≠ l) : (s.modPoolLine l f).line m = s.line m := by
  simp [State.modPoolLine, h]

@[simp] theorem line_modPoolLine_lsu (f : PoolLine → PoolLine) (m : Line) : ((s.modPoolLine l f).line m).lsu = (s.line m).lsu := by
  by_cases h : m = l <;> simp [h]
@[simp] theorem line_modPoolLine_hook (f : PoolLine → PoolLine) (m : Line) : ((s.modPoolLine l f).line m).hook = (s.line m).hook := by
  by_cases h : m = l <;> simp [h]
@[simp] theorem line_modPoolLine_dial (f : PoolLine → PoolLine) (m : Line) : ((s.modPoolLine l f).line m).dial = (s.line m).dial := by
  by_cases h : m = l <;> simp [h]
@[simp] theorem line_modPoolLine_test (f : PoolLine → PoolLine) (m : Line) : ((s.modPoolLine l f).line m).test = (s.line m).test := by
  by_cases h : m = l <;> simp [h]
@[simp] theorem line_modPoolLine_fault (f : PoolLine → PoolLine) (m : Line) : ((s.modPoolLine l f).line m).fault = (s.line m).fault := by
  by_cases h : m = l <;> simp [h]
@[simp] theorem line_modPoolLine_prof (f : PoolLine → PoolLine) (m : Line) : ((s.modPoolLine l f).line m).prof = (s.line m).prof := by
  by_cases h : m = l <;> simp [h]
@[simp] theorem line_modPoolLine_rep (f : PoolLine → PoolLine) (m : Line) : ((s.modPoolLine l f).line m).rep = (s.line m).rep := by
  by_cases h : m = l <;> simp [h]

@[simp] theorem modPoolLine_partTime (f : PoolLine → PoolLine) : (s.modPoolLine l f).partTime = s.partTime := rfl
@[simp] theorem modPoolLine_pool (f : PoolLine → PoolLine) : (s.modPoolLine l f).pool = s.pool := rfl
@[simp] theorem modPoolLine_tone (f : PoolLine → PoolLine) : (s.modPoolLine l f).tone = s.tone := rfl
@[simp] theorem modPoolLine_profiles (f : PoolLine → PoolLine) : (s.modPoolLine l f).profiles = s.profiles := rfl
@[simp] theorem modPoolLine_engine (f : PoolLine → PoolLine) : (s.modPoolLine l f).engine = s.engine := rfl
@[simp] theorem modPoolLine_battery (f : PoolLine → PoolLine) : (s.modPoolLine l f).battery = s.battery := rfl
@[simp] theorem modPoolLine_reporter (f : PoolLine → PoolLine) : (s.modPoolLine l f).reporter = s.reporter := rfl
@[simp] theorem modPoolLine_link (f : PoolLine → PoolLine) : (s.modPoolLine l f).link = s.link := rfl
@[simp] theorem modPoolLine_freeCount (f : PoolLine → PoolLine) : (s.modPoolLine l f).freeCount = s.freeCount := rfl
@[simp] theorem modPoolLine_pending (f : PoolLine → PoolLine) : (s.modPoolLine l f).pending = s.pending := rfl

/-! ## modTest -/

@[simp] theorem line_modTest_self (f : TestLine → TestLine) : (s.modTest l f).line l = { s.line l with test := f (s.line l).test } := by
  simp [State.modTest]

@[simp] theorem line_modTest_ne (f : TestLine → TestLine) {m : Line} (h : m ≠ l) : (s.modTest l f).line m = s.line m := by
  simp [State.modTest, h]

@[simp] theorem line_modTest_lsu (f : TestLine → TestLine) (m : Line) : ((s.modTest l f).line m).lsu = (s.line m).lsu := by
  by_cases h : m = l <;> simp [h]
@[simp] theorem line_modTest_hook (f : TestLine → TestLine) (m : Line) : ((s.modTest l f).line m).hook = (s.line m).hook := by
  by_cases h : m = l <;> simp [h]
@[simp] theorem line_modTest_dial (f : TestLine → TestLine) (m : Line) : ((s.modTest l f).line m).dial = (s.line m).dial := by
  by_cases h : m = l <;> simp [h]
@[simp] theorem line_modTest_pool (f : TestLine → TestLine) (m : Line) : ((s.modTest l f).line m).pool = (s.line m).pool := by
  by_cases h : m = l <;> simp [h]
@[simp] theorem line_modTest_fault (f : TestLine → TestLine) (m : Line) : ((s.modTest l f).line m).fault = (s.line m).fault := by
  by_cases h : m = l <;> simp [h]
@[simp] theorem line_modTest_prof (f : TestLine → TestLine) (m : Line) : ((s.modTest l f).line m).prof = (s.line m).prof := by
  by_cases h : m = l <;> simp [h]
@[simp] theorem line_modTest_rep (f : TestLine → TestLine) (m : Line) : ((s.modTest l f).line m).rep = (s.line m).rep := by
  by_cases h : m = l <;> simp [h]

@[simp] theorem modTest_partTime (f : TestLine → TestLine) : (s.modTest l f).partTime = s.partTime := rfl
@[simp] theorem modTest_pool (f : TestLine → TestLine) : (s.modTest l f).pool = s.pool := rfl
@[simp] theorem modTest_tone (f : TestLine → TestLine) : (s.modTest l f).tone = s.tone := rfl
@[simp] theorem modTest_profiles (f : TestLine → TestLine) : (s.modTest l f).profiles = s.profiles := rfl
@[simp] theorem modTest_engine (f : TestLine → TestLine) : (s.modTest l f).engine = s.engine := rfl
@[simp] theorem modTest_battery (f : TestLine → TestLine) : (s.modTest l f).battery = s.battery := rfl
@[simp] theorem modTest_reporter (f : TestLine → TestLine) : (s.modTest l f).reporter = s.reporter := rfl
@[simp] theorem modTest_link (f : TestLine → TestLine) : (s.modTest l f).link = s.link := rfl
@[simp] theorem modTest_freeCount (f : TestLine → TestLine) : (s.modTest l f).freeCount = s.freeCount := rfl
@[simp] theorem modTest_pending (f : TestLine → TestLine) : (s.modTest l f).pending = s.pending := rfl

/-! ## modFault -/

@[simp] theorem line_modFault_self (f : FaultRec → FaultRec) : (s.modFault l f).line l = { s.line l with fault := f (s.line l).fault } := by
  simp [State.modFault]

@[simp] theorem line_modFault_ne (f : FaultRec → FaultRec) {m : Line} (h : m ≠ l) : (s.modFault l f).line m = s.line m := by
  simp [State.modFault, h]

@[simp] theorem line_modFault_lsu (f : FaultRec → FaultRec) (m : Line) : ((s.modFault l f).line m).lsu = (s.line m).lsu := by
  by_cases h : m = l <;> simp [h]
@[simp] theorem line_modFault_hook (f : FaultRec → FaultRec) (m : Line) : ((s.modFault l f).line m).hook = (s.line m).hook := by
  by_cases h : m = l <;> simp [h]
@[simp] theorem line_modFault_dial (f : FaultRec → FaultRec) (m : Line) : ((s.modFault l f).line m).dial = (s.line m).dial := by
  by_cases h : m = l <;> simp [h]
@[simp] theorem line_modFault_pool (f : FaultRec → FaultRec) (m : Line) : ((s.modFault l f).line m).pool = (s.line m).pool := by
  by_cases h : m = l <;> simp [h]
@[simp] theorem line_modFault_test (f : FaultRec → FaultRec) (m : Line) : ((s.modFault l f).line m).test = (s.line m).test := by
  by_cases h : m = l <;> simp [h]
@[simp] theorem line_modFault_prof (f : FaultRec → FaultRec) (m : Line) : ((s.modFault l f).line m).prof = (s.line m).prof := by
  by_cases h : m = l <;> simp [h]
@[simp] theorem line_modFault_rep (f : FaultRec → FaultRec) (m : Line) : ((s.modFault l f).line m).rep = (s.line m).rep := by
  by_cases h : m = l <;> simp [h]

@[simp] theorem modFault_partTime (f : FaultRec → FaultRec) : (s.modFault l f).partTime = s.partTime := rfl
@[simp] theorem modFault_pool (f : FaultRec → FaultRec) : (s.modFault l f).pool = s.pool := rfl
@[simp] theorem modFault_tone (f : FaultRec → FaultRec) : (s.modFault l f).tone = s.tone := rfl
@[simp] theorem modFault_profiles (f : FaultRec → FaultRec) : (s.modFault l f).profiles = s.profiles := rfl
@[simp] theorem modFault_engine (f : FaultRec → FaultRec) : (s.modFault l f).engine = s.engine := rfl
@[simp] theorem modFault_battery (f : FaultRec → FaultRec) : (s.modFault l f).battery = s.battery := rfl
@[simp] theorem modFault_reporter (f : FaultRec → FaultRec) : (s.modFault l f).reporter = s.reporter := rfl
@[simp] theorem modFault_link (f : FaultRec → FaultRec) : (s.modFault l f).link = s.link := rfl
@[simp] theorem modFault_freeCount (f : FaultRec → FaultRec) : (s.modFault l f).freeCount = s.freeCount := rfl
@[simp] theorem modFault_pending (f : FaultRec → FaultRec) : (s.modFault l f).pending = s.pending := rfl

/-! ## modProf -/

@[simp] theorem line_modProf_self (f : ProfLine → ProfLine) : (s.modProf l f).line l = { s.line l with prof := f (s.line l).prof } := by
  simp [State.modProf]

@[simp] theorem line_modProf_ne (f : ProfLine → ProfLine) {m : Line} (h : m ≠ l) : (s.modProf l f).line m = s.line m := by
  simp [State.modProf, h]

@[simp] theorem line_modProf_lsu (f : ProfLine → ProfLine) (m : Line) : ((s.modProf l f).line m).lsu = (s.line m).lsu := by
  by_cases h : m = l <;> simp [h]
@[simp] theorem line_modProf_hook (f : ProfLine → ProfLine) (m : Line) : ((s.modProf l f).line m).hook = (s.line m).hook := by
  by_cases h : m = l <;> simp [h]
@[simp] theorem line_modProf_dial (f : ProfLine → ProfLine) (m : Line) : ((s.modProf l f).line m).dial = (s.line m).dial := by
  by_cases h : m = l <;> simp [h]
@[simp] theorem line_modProf_pool (f : ProfLine → ProfLine) (m : Line) : ((s.modProf l f).line m).pool = (s.line m).pool := by
  by_cases h : m = l <;> simp [h]
@[simp] theorem line_modProf_test (f : ProfLine → ProfLine) (m : Line) : ((s.modProf l f).line m).test = (s.line m).test := by
  by_cases h : m = l <;> simp [h]
@[simp] theorem line_modProf_fault (f : ProfLine → ProfLine) (m : Line) : ((s.modProf l f).line m).fault = (s.line m).fault := by
  by_cases h : m = l <;> simp [h]
@[simp] theorem line_modProf_rep (f : ProfLine → ProfLine) (m : Line) : ((s.modProf l f).line m).rep = (s.line m).rep := by
  by_cases h : m = l <;> simp [h]

@[simp] theorem modProf_partTime (f : ProfLine → ProfLine) : (s.modProf l f).partTime = s.partTime := rfl
@[simp] theorem modProf_pool (f : ProfLine → ProfLine) : (s.modProf l f).pool = s.pool := rfl
@[simp] theorem modProf_tone (f : ProfLine → ProfLine) : (s.modProf l f).tone = s.tone := rfl
@[simp] theorem modProf_profiles (f : ProfLine → ProfLine) : (s.modProf l f).profiles = s.profiles := rfl
@[simp] theorem modProf_engine (f : ProfLine → ProfLine) : (s.modProf l f).engine = s.engine := rfl
@[simp] theorem modProf_battery (f : ProfLine → ProfLine) : (s.modProf l f).battery = s.battery := rfl
@[simp] theorem modProf_reporter (f : ProfLine → ProfLine) : (s.modProf l f).reporter = s.reporter := rfl
@[simp] theorem modProf_link (f : ProfLine → ProfLine) : (s.modProf l f).link = s.link := rfl
@[simp] theorem modProf_freeCount (f : ProfLine → ProfLine) : (s.modProf l f).freeCount = s.freeCount := rfl
@[simp] theorem modProf_pending (f : ProfLine → ProfLine) : (s.modProf l f).pending = s.pending := rfl

/-! ## modRep -/

@[simp] theorem line_modRep_self (f : RepLine → RepLine) : (s.modRep l f).line l = { s.line l with rep := f (s.line l).rep } := by
  simp [State.modRep]

@[simp] theorem line_modRep_ne (f : RepLine → RepLine) {m : Line} (h : m ≠ l) : (s.modRep l f).line m = s.line m := by
  simp [State.modRep, h]

@[simp] theorem line_modRep_lsu (f : RepLine → RepLine) (m : Line) : ((s.modRep l f).line m).lsu = (s.line m).lsu := by
  by_cases h : m = l <;> simp [h]
@[simp] theorem line_modRep_hook (f : RepLine → RepLine) (m : Line) : ((s.modRep l f).line m).hook = (s.line m).hook := by
  by_cases h : m = l <;> simp [h]
@[simp] theorem line_modRep_dial (f : RepLine → RepLine) (m : Line) : ((s.modRep l f).line m).dial = (s.line m).dial := by
  by_cases h : m = l <;> simp [h]
@[simp] theorem line_modRep_pool (f : RepLine → RepLine) (m : Line) : ((s.modRep l f).line m).pool = (s.line m).pool := by
  by_cases h : m = l <;> simp [h]
@[simp] theorem line_modRep_test (f : RepLine → RepLine) (m : Line) : ((s.modRep l f).line m).test = (s.line m).test := by
  by_cases h : m = l <;> simp [h]
@[simp] theorem line_modRep_fault (f : RepLine → RepLine) (m : Line) : ((s.modRep l f).line m).fault = (s.line m).fault := by
  by_cases h : m = l <;> simp [h]
@[simp] theorem line_modRep_prof (f : RepLine → RepLine) (m : Line) : ((s.modRep l f).line m).prof = (s.line m).prof := by
  by_cases h : m = l <;> simp [h]

@[simp] theorem modRep_partTime (f : RepLine → RepLine) : (s.modRep l f).partTime = s.partTime := rfl
@[simp] theorem modRep_pool (f : RepLine → RepLine) : (s.modRep l f).pool = s.pool := rfl
@[simp] theorem modRep_tone (f : RepLine → RepLine) : (s.modRep l f).tone = s.tone := rfl
@[simp] theorem modRep_profiles (f : RepLine → RepLine) : (s.modRep l f).profiles = s.profiles := rfl
@[simp] theorem modRep_engine (f : RepLine → RepLine) : (s.modRep l f).engine = s.engine := rfl
@[simp] theorem modRep_battery (f : RepLine → RepLine) : (s.modRep l f).battery = s.battery := rfl
@[simp] theorem modRep_reporter (f : RepLine → RepLine) : (s.modRep l f).reporter = s.reporter := rfl
@[simp] theorem modRep_link (f : RepLine → RepLine) : (s.modRep l f).link = s.link := rfl
@[simp] theorem modRep_freeCount (f : RepLine → RepLine) : (s.modRep l f).freeCount = s.freeCount := rfl
@[simp] theorem modRep_pending (f : RepLine → RepLine) : (s.modRep l f).pending = s.pending := rfl

/-! ## modEveryLsu -/

@[simp] theorem line_modEveryLsu (f : LineRec → Lsu) (m : Line) :
    (s.modEveryLsu f).line m = { s.line m with lsu := f (s.line m) } := by
  simp [State.modEveryLsu, State.line, Vector.get, Fin.cast]

@[simp] theorem modEveryLsu_partTime (f : LineRec → Lsu) : (s.modEveryLsu f).partTime = s.partTime := by
  unfold State.modEveryLsu; rfl
@[simp] theorem modEveryLsu_pool (f : LineRec → Lsu) : (s.modEveryLsu f).pool = s.pool := by
  unfold State.modEveryLsu; rfl
@[simp] theorem modEveryLsu_tone (f : LineRec → Lsu) : (s.modEveryLsu f).tone = s.tone := by
  unfold State.modEveryLsu; rfl
@[simp] theorem modEveryLsu_profiles (f : LineRec → Lsu) : (s.modEveryLsu f).profiles = s.profiles := by
  unfold State.modEveryLsu; rfl
@[simp] theorem modEveryLsu_engine (f : LineRec → Lsu) : (s.modEveryLsu f).engine = s.engine := by
  unfold State.modEveryLsu; rfl
@[simp] theorem modEveryLsu_battery (f : LineRec → Lsu) : (s.modEveryLsu f).battery = s.battery := by
  unfold State.modEveryLsu; rfl
@[simp] theorem modEveryLsu_reporter (f : LineRec → Lsu) : (s.modEveryLsu f).reporter = s.reporter := by
  unfold State.modEveryLsu; rfl
@[simp] theorem modEveryLsu_link (f : LineRec → Lsu) : (s.modEveryLsu f).link = s.link := by
  unfold State.modEveryLsu; rfl
@[simp] theorem modEveryLsu_freeCount (f : LineRec → Lsu) : (s.modEveryLsu f).freeCount = s.freeCount := by
  unfold State.modEveryLsu; rfl
@[simp] theorem modEveryLsu_pending (f : LineRec → Lsu) : (s.modEveryLsu f).pending = s.pending := by
  unfold State.modEveryLsu; rfl

/-! ## setReceiver -/

variable (r : Rx) (v : Option Receiver)

@[simp] theorem receiver_setReceiver_self : (s.setReceiver r v).receiver r = v := by
  simp [State.receiver, State.setReceiver, Vector.get, Fin.cast]

@[simp] theorem receiver_setReceiver_ne {q : Rx} (h : q ≠ r) : (s.setReceiver r v).receiver q = s.receiver q := by
  have : r.val ≠ q.val := fun e => h (Fin.ext e.symm)
  simp [State.receiver, State.setReceiver, Vector.get, Fin.cast, this]

@[simp] theorem setReceiver_line (m : Line) : (s.setReceiver r v).line m = s.line m := rfl
@[simp] theorem setReceiver_waitQueue : (s.setReceiver r v).pool.waitQueue = s.pool.waitQueue := rfl
@[simp] theorem setReceiver_grid : (s.setReceiver r v).pool.grid = s.pool.grid := rfl
@[simp] theorem setReceiver_lines : (s.setReceiver r v).lines = s.lines := rfl
@[simp] theorem setReceiver_partTime : (s.setReceiver r v).partTime = s.partTime := rfl
@[simp] theorem setReceiver_tone : (s.setReceiver r v).tone = s.tone := rfl
@[simp] theorem setReceiver_profiles : (s.setReceiver r v).profiles = s.profiles := rfl
@[simp] theorem setReceiver_engine : (s.setReceiver r v).engine = s.engine := rfl
@[simp] theorem setReceiver_battery : (s.setReceiver r v).battery = s.battery := rfl
@[simp] theorem setReceiver_reporter : (s.setReceiver r v).reporter = s.reporter := rfl
@[simp] theorem setReceiver_link : (s.setReceiver r v).link = s.link := rfl
@[simp] theorem setReceiver_freeCount : (s.setReceiver r v).freeCount = s.freeCount := rfl
@[simp] theorem setReceiver_pending : (s.setReceiver r v).pending = s.pending := rfl

/-! ## modEngine -/

@[simp] theorem modEngine_engine (f : Engine → Engine) : (s.modEngine f).engine = f s.engine := rfl
@[simp] theorem modEngine_line (f : Engine → Engine) (m : Line) : (s.modEngine f).line m = s.line m := rfl
@[simp] theorem modEngine_lines (f : Engine → Engine) : (s.modEngine f).lines = s.lines := rfl
@[simp] theorem modEngine_partTime (f : Engine → Engine) : (s.modEngine f).partTime = s.partTime := rfl
@[simp] theorem modEngine_pool (f : Engine → Engine) : (s.modEngine f).pool = s.pool := rfl
@[simp] theorem modEngine_tone (f : Engine → Engine) : (s.modEngine f).tone = s.tone := rfl
@[simp] theorem modEngine_profiles (f : Engine → Engine) : (s.modEngine f).profiles = s.profiles := rfl
@[simp] theorem modEngine_battery (f : Engine → Engine) : (s.modEngine f).battery = s.battery := rfl
@[simp] theorem modEngine_reporter (f : Engine → Engine) : (s.modEngine f).reporter = s.reporter := rfl
@[simp] theorem modEngine_link (f : Engine → Engine) : (s.modEngine f).link = s.link := rfl
@[simp] theorem modEngine_freeCount (f : Engine → Engine) : (s.modEngine f).freeCount = s.freeCount := rfl
@[simp] theorem modEngine_pending (f : Engine → Engine) : (s.modEngine f).pending = s.pending := rfl

/-! ## modLink -/

@[simp] theorem modLink_link (f : Link → Link) : (s.modLink f).link = f s.link := rfl
@[simp] theorem modLink_line (f : Link → Link) (m : Line) : (s.modLink f).line m = s.line m := rfl
@[simp] theorem modLink_lines (f : Link → Link) : (s.modLink f).lines = s.lines := rfl
@[simp] theorem modLink_partTime (f : Link → Link) : (s.modLink f).partTime = s.partTime := rfl
@[simp] theorem modLink_pool (f : Link → Link) : (s.modLink f).pool = s.pool := rfl
@[simp] theorem modLink_tone (f : Link → Link) : (s.modLink f).tone = s.tone := rfl
@[simp] theorem modLink_profiles (f : Link → Link) : (s.modLink f).profiles = s.profiles := rfl
@[simp] theorem modLink_engine (f : Link → Link) : (s.modLink f).engine = s.engine := rfl
@[simp] theorem modLink_battery (f : Link → Link) : (s.modLink f).battery = s.battery := rfl
@[simp] theorem modLink_reporter (f : Link → Link) : (s.modLink f).reporter = s.reporter := rfl
@[simp] theorem modLink_freeCount (f : Link → Link) : (s.modLink f).freeCount = s.freeCount := rfl
@[simp] theorem modLink_pending (f : Link → Link) : (s.modLink f).pending = s.pending := rfl

/-! ## at -/

@[simp] theorem at_partTime (now : Time) : (s.at now).partTime = now := rfl
@[simp] theorem at_line (now : Time) (m : Line) : (s.at now).line m = s.line m := rfl
@[simp] theorem at_lines (now : Time) : (s.at now).lines = s.lines := rfl
@[simp] theorem at_pool (now : Time) : (s.at now).pool = s.pool := rfl
@[simp] theorem at_tone (now : Time) : (s.at now).tone = s.tone := rfl
@[simp] theorem at_profiles (now : Time) : (s.at now).profiles = s.profiles := rfl
@[simp] theorem at_engine (now : Time) : (s.at now).engine = s.engine := rfl
@[simp] theorem at_battery (now : Time) : (s.at now).battery = s.battery := rfl
@[simp] theorem at_reporter (now : Time) : (s.at now).reporter = s.reporter := rfl
@[simp] theorem at_link (now : Time) : (s.at now).link = s.link := rfl
@[simp] theorem at_freeCount (now : Time) : (s.at now).freeCount = s.freeCount := rfl
@[simp] theorem at_pending (now : Time) : (s.at now).pending = s.pending := rfl

/-! ## reachBoundary -/

@[simp] theorem reachBoundary_grid (frame : Nat) : (s.reachBoundary frame).pool.grid = some ⟨frame, s.partTime⟩ := rfl
@[simp] theorem reachBoundary_receiver (frame : Nat) (q : Rx) : (s.reachBoundary frame).receiver q = s.receiver q := rfl
@[simp] theorem reachBoundary_waitQueue (frame : Nat) : (s.reachBoundary frame).pool.waitQueue = s.pool.waitQueue := rfl
@[simp] theorem reachBoundary_line (frame : Nat) (m : Line) : (s.reachBoundary frame).line m = s.line m := rfl
@[simp] theorem reachBoundary_lines (frame : Nat) : (s.reachBoundary frame).lines = s.lines := rfl
@[simp] theorem reachBoundary_partTime (frame : Nat) : (s.reachBoundary frame).partTime = s.partTime := rfl
@[simp] theorem reachBoundary_tone (frame : Nat) : (s.reachBoundary frame).tone = s.tone := rfl
@[simp] theorem reachBoundary_profiles (frame : Nat) : (s.reachBoundary frame).profiles = s.profiles := rfl
@[simp] theorem reachBoundary_battery (frame : Nat) : (s.reachBoundary frame).battery = s.battery := rfl
@[simp] theorem reachBoundary_reporter (frame : Nat) : (s.reachBoundary frame).reporter = s.reporter := rfl
@[simp] theorem reachBoundary_link (frame : Nat) : (s.reachBoundary frame).link = s.link := rfl
@[simp] theorem reachBoundary_freeCount (frame : Nat) : (s.reachBoundary frame).freeCount = s.freeCount := rfl
@[simp] theorem reachBoundary_pending (frame : Nat) : (s.reachBoundary frame).pending = s.pending := rfl

/-! ## Equal states -/

/-- Two states that agree in every field are equal. -/
theorem State.ext_fields {s t : State} (h1 : t.partTime = s.partTime) (h2 : ∀ m, t.line m = s.line m) (h3 : t.pool = s.pool)
    (h4 : t.tone = s.tone) (h5 : t.profiles = s.profiles) (h6 : t.engine = s.engine) (h7 : t.battery = s.battery)
    (h8 : t.reporter = s.reporter) (h9 : t.link = s.link) (h10 : t.freeCount = s.freeCount) (h11 : t.pending = s.pending) :
    t = s := by
  have hl : t.lines = s.lines := by
    apply Vector.ext
    intro i hi
    exact h2 ⟨i, hi⟩
  cases s; cases t
  simp_all

/-- Putting a line's own record back changes nothing. -/
@[simp] theorem setLine_line : s.setLine l (s.line l) = s := by
  apply State.ext_fields <;> try rfl
  intro m
  by_cases h : m = l
  · subst h; simp
  · simp [h]

end Sys2Proof.Machine
end

