-- ==== Sys2Proof/Laws/Engine.lean ====
section
/-! SUPPORT. What a suspension request can do to the Line Test Engine, once each: on the phase in flight that it meets, as a whole,
and behind a completion. -/

namespace Sys2Proof.Machine

/-- Whether the last step of a test completes now, in terms of the context's fields. -/
theorem TestCtx.lastStepDue_iff (c : TestCtx) (now : Time) : c.lastStepDue now = true ↔
    (∃ q, c.phase = some (.measure q, now)) ∧ c.next = none ∧ c.abortRequested = false ∧ c.crossed = false := by
  unfold TestCtx.lastStepDue
  split <;> rename_i h <;> simp [h, and_assoc]

/-- A power cross meets the phase in flight on its line: the phase is abandoned, unless it is the last step, completes now, and is taken
first. -/
theorem State.crossInFlight_cases (s : State) (c : TestCtx) :
    (c.lastStepDue s.partTime = false ∧ s.crossInFlight c = s.abandon c) ∨
    (c.lastStepDue s.partTime = true ∧ Config.completionFirst s.freeCount = true ∧
      s.crossInFlight c = { s with
        freeCount := s.freeCount + 1, engine := { s.engine with running := some { c with crossed := true } } }) ∨
    (c.lastStepDue s.partTime = true ∧ Config.completionFirst s.freeCount = false ∧
      s.crossInFlight c = { s with freeCount := s.freeCount + 1 }.abandon c) := by
  unfold State.crossInFlight
  cases c.lastStepDue s.partTime <;> cases Config.completionFirst s.freeCount <;> simp [State.modEngine]

/-- A suspension request: the engine is SUSPENDED already or becomes so, or it meets the phase in flight on the power-cross line, or
one on another line, behind which it waits. -/
theorem State.requestSuspension_cases (s : State) (l : Line) :
    (s.engine.state = .suspended ∧ s.requestSuspension l = s) ∨
    (s.engine.state = .idle ∧ s.requestSuspension l = s.enterSuspended) ∨
    ((s.engine.state = .running ∨ s.engine.state = .stepping) ∧
      ((∃ c, s.engine.running = some c ∧ c.line = l ∧ s.requestSuspension l = s.crossInFlight c) ∨
       ((∀ c, s.engine.running = some c → c.line ≠ l) ∧
        s.requestSuspension l = { s with engine := { s.engine with suspendPending := true } }))) := by
  unfold State.requestSuspension State.suspendInFlight
  cases s.engine.state <;> cases s.engine.running with
  | none => simp [State.modEngine]
  | some c => by_cases h : c.line = l <;> simp [h, State.modEngine]

/-- Behind a completion the request follows exactly where the context was crossed. -/
theorem State.afterCross_eq (s : State) (c : TestCtx) :
    s.afterCross c = if c.crossed = true then s.requestSuspension c.line else s := rfl

end Sys2Proof.Machine
end

