-- ==== Sys2Proof/Laws/Link.lean ====
section
/-! SUPPORT. What the transmitter's choice, a reply, the execution of a command and a frame's arrival can do, once each. -/

namespace Sys2Proof.Machine

/-! ## Arrivals -/

theorem arrive_held {s : State} (h : s.link.resetnLow = true) (now : Time) (f : State → State) : s.arrive now f = s := by
  simp [State.arrive, h]

theorem arrive_high {s : State} (h : s.link.resetnLow = false) (now : Time) (f : State → State) :
    s.arrive now f = f (s.at now) := by
  simp [State.arrive, State.at, h]

/-! ## The transmitter's choice -/

@[simp] theorem txChoose_sending {s : State} {f : TxFrame} (h : s.link.tx = some f) : s.txChoose = s := by
  simp [State.txChoose, h]

theorem txChoose_reply {s : State} {r : Reply} (h : s.link.tx = none) (hr : s.link.slot = some r) :
    s.txChoose = { s with link := { s.link with slot := none, tx := some (.reply r) } } := by
  simp [State.txChoose, h, hr]

theorem txChoose_busy {s : State} (h : s.link.tx = none) (hr : s.link.slot = none) (hb : s.link.busyPending = true) :
    s.txChoose = { s with link := { s.link with busyPending := false, tx := some .busy } } := by
  simp [State.txChoose, h, hr, hb]

theorem txChoose_prio {s : State} {e : Event} {q : List Event} (h : s.link.tx = none) (hr : s.link.slot = none)
    (hb : s.link.busyPending = false) (hq : s.reporter.prio = e :: q) :
    s.txChoose = { s with reporter := s.reporter.removeHead .priority q s.stamp,
                          link := { s.link with tx := some (.event e) } } := by
  simp [State.txChoose, h, hr, hb, hq]

theorem txChoose_norm {s : State} {e : Event} {q : List Event} (h : s.link.tx = none) (hr : s.link.slot = none)
    (hb : s.link.busyPending = false) (hp : s.reporter.prio = []) (hq : s.reporter.norm = e :: q) :
    s.txChoose = { s with reporter := s.reporter.removeHead .normal q s.stamp,
                          link := { s.link with tx := some (.event e) } } := by
  simp [State.txChoose, h, hr, hb, hp, hq]

theorem txChoose_nothing {s : State} (hr : s.link.slot = none) (hb : s.link.busyPending = false)
    (hp : s.reporter.prio = []) (hq : s.reporter.norm = []) : s.txChoose = s := by
  unfold State.txChoose
  cases s.link.tx <;> simp [hr, hb, hp, hq]

/-- Everything the transmitter's choice can do: it moves at most the slot, the busy-pending flag, the frame being sent and the
two queues. -/
theorem txChoose_rest (s : State) :
    s.txChoose = { s with reporter := s.txChoose.reporter,
                          link := { s.link with slot := s.txChoose.link.slot, busyPending := s.txChoose.link.busyPending,
                                                tx := s.txChoose.link.tx } } := by
  unfold State.txChoose
  split
  · rfl
  · split
    · simp
    · split
      · simp
      · split
        · simp
        · split <;> simp

@[simp] theorem txChoose_partTime (s : State) : s.txChoose.partTime = s.partTime := by rw [txChoose_rest]
@[simp] theorem txChoose_lines (s : State) : s.txChoose.lines = s.lines := by rw [txChoose_rest]
@[simp] theorem txChoose_line (s : State) (m : Line) : s.txChoose.line m = s.line m := by simp [State.line]
@[simp] theorem txChoose_pool (s : State) : s.txChoose.pool = s.pool := by rw [txChoose_rest]
@[simp] theorem txChoose_tone (s : State) : s.txChoose.tone = s.tone := by rw [txChoose_rest]
@[simp] theorem txChoose_profiles (s : State) : s.txChoose.profiles = s.profiles := by rw [txChoose_rest]
@[simp] theorem txChoose_engine (s : State) : s.txChoose.engine = s.engine := by rw [txChoose_rest]
@[simp] theorem txChoose_battery (s : State) : s.txChoose.battery = s.battery := by rw [txChoose_rest]
@[simp] theorem txChoose_freeCount (s : State) : s.txChoose.freeCount = s.freeCount := by rw [txChoose_rest]
@[simp] theorem txChoose_pending (s : State) : s.txChoose.pending = s.pending := by rw [txChoose_rest]
@[simp] theorem txChoose_rx (s : State) : s.txChoose.link.rx = s.link.rx := by rw [txChoose_rest]
@[simp] theorem txChoose_resetCause (s : State) : s.txChoose.link.resetCause = s.link.resetCause := by rw [txChoose_rest]
@[simp] theorem txChoose_resetRequested (s : State) : s.txChoose.link.resetRequested = s.link.resetRequested := by
  rw [txChoose_rest]
@[simp] theorem txChoose_resetnLow (s : State) : s.txChoose.link.resetnLow = s.link.resetnLow := by rw [txChoose_rest]

@[simp] theorem removeHead_classMap (r : Reporter) (c : EventClass) (q : List Event) (t : BitVec 16) :
    (r.removeHead c q t).classMap = r.classMap := by
  unfold Reporter.removeHead; split <;> cases c <;> rfl

@[simp] theorem txChoose_classMap (s : State) : s.txChoose.reporter.classMap = s.reporter.classMap := by
  unfold State.txChoose
  repeat' split
  all_goals simp

/-! ## Replies -/

/-- A reply placed in the slot waits there, or is being sent at once. -/
theorem answer_eq (s : State) (r : Reply) :
    s.answer r = { s with link := match s.link.tx with
      | some _ => { s.link with slot := some r }
      | none => { s.link with slot := none, tx := some (.reply r) } } := by
  unfold State.answer
  cases h : s.link.tx with
  | some f =>
    have : (s.modLink fun k => { k with slot := some r }).link.tx = some f := h
    rw [txChoose_sending this]
    rfl
  | none =>
    rw [txChoose_reply (r := r) (by simpa using h) (by simp)]
    rfl

theorem answer_gives (s : State) (r : Reply) : (s.answer r).link.gives r := by
  rw [answer_eq]
  unfold Link.gives
  cases s.link.tx <;> simp

/-- The execution of a command that leaves the link as it finds it. -/
theorem execute_quiet {s t : State} {run : State → State × Reply} {r : Reply} (hrun : run s = (t, r)) (hl : t.link = s.link) :
    s.execute run = t.answer r := by
  unfold State.execute
  simp only [hrun, hl]
  cases s.link.tx <;> simp

/-- The execution of a command while a frame is being sent. -/
theorem execute_sending {s : State} {f : TxFrame} (run : State → State × Reply) (h : s.link.tx = some f) :
    s.execute run = (run s).1.answer (run s).2 := by
  simp [State.execute, h]

/-- Whatever order is drawn, a command's execution is its run, eager or with the transmitter kept, and its reply. -/
theorem execute_cases (s : State) (run : State → State × Reply) :
    (∃ n, s.execute run = ({ (run s).1 with freeCount := n } : State).answer (run s).2) ∨
    (s.link.tx = none ∧ ∃ n,
      let kept := run (s.modLink fun k => { k with tx := some .busy })
      s.execute run = ({ kept.1.modLink (fun k => { k with tx := none }) with freeCount := n } : State).answer kept.2) := by
  by_cases h : (s.link.tx.isNone && (run s).1.link.tx.isSome) = true
  · by_cases hf : Config.replyFirst s.freeCount = true
    · refine .inr ⟨?_, s.freeCount + 1, by simp [State.execute, h, hf]⟩
      simpa using (Bool.and_eq_true_iff.mp h).1
    · exact .inl ⟨s.freeCount + 1, by simp [State.execute, h, hf]⟩
  · exact .inl ⟨(run s).1.freeCount, by simp [State.execute, h]⟩

/-! ## Frames -/

theorem goodFrame_ready {s : State} (h : s.ready) (run : State → State × Reply) :
    s.goodFrame run = (s.modLink fun k => { k with rx := .hunting }).execute run := by
  have := h.noReset; have := h.slotEmpty
  simp_all [State.goodFrame]

theorem at_ready {s : State} (h : s.ready) (now : Time) : (s.at now).ready := ⟨h.resetnHigh, h.noReset, h.slotEmpty⟩

/-- A command frame on a part ready for it, whose command raises no event: the state the command leaves, with its reply given. -/
theorem command_quiet {s t : State} {now : Time} {run : State → State × Reply} {r : Reply} (h : s.ready)
    (hrun : run ((s.at now).modLink fun k => { k with rx := .hunting }) = (t, r))
    (hl : t.link = { s.link with rx := .hunting }) :
    s.command now run = .next { t with link := s.link.afterReply r } := by
  unfold State.command
  rw [arrive_high h.resetnHigh, goodFrame_ready (at_ready h now), execute_quiet hrun (by simp [hl]), answer_eq]
  have := h.slotEmpty
  cases h : s.link.tx <;> simp [Link.afterReply, hl, h]

end Sys2Proof.Machine
end

