-- ==== Sys2Proof/Laws/Kept.lean ====
section
/-! SUPPORT. What the shared operations leave alone, one lemma for each operation and each of three views of the state: `kept`
(the configuration items, the part time and the rest of the device that no block's operation moves), the engine, and `calls`
(each line's LSU fields, working parameters, hook state and pending profile). -/

namespace Sys2Proof.Machine

/-! ## The three views -/

/-- What no operation of the blocks moves: the configuration items but for the engine's, the Battery Monitor, the frame
receiver and the reset fields, the part time, and the queue. -/
structure Kept where
  partTime : Time
  tone : ToneParams
  profiles : Vector Profile 8
  battery : Battery
  classMap : Vector EventClass 19
  rx : FrameRx
  resetCause : ResetCause
  resetRequested : Bool
  resetnLow : Bool
  pending : List Instr
  lines : Line → ProfNo × Service × Timeslot × KindSet

/-- The first view of a state. -/
def State.kept (s : State) : Kept :=
  ⟨s.partTime, s.tone, s.profiles, s.battery, s.reporter.classMap, s.link.rx, s.link.resetCause,
   s.link.resetRequested, s.link.resetnLow, s.pending,
   fun l => ((s.line l).prof.number, (s.line l).hook.service, (s.line l).pool.slot, (s.line l).rep.mask)⟩

/-- The sweep settings. -/
def Engine.settings (e : Engine) : Bool × Nat × StepSet := (e.sweepEnabled, e.sweepInterval, e.sweepSteps)

/-- The third view of a state. -/
def State.calls (s : State) : Line → Lsu × ProfLine × HookState × Bool := fun l =>
  ((s.line l).lsu, (s.line l).prof, (s.line l).hook.state, (s.line l).hook.pendingProfile)

theorem sameSettings_of_kept {s t : State} (h : t.kept = s.kept) (he : t.engine.settings = s.engine.settings) :
    SameSettings s t := by
  simp only [State.kept, Kept.mk.injEq] at h
  obtain ⟨-, htone, hprof, hbat, hmap, -, -, -, -, -, hl⟩ := h
  simp only [Engine.settings, Prod.mk.injEq] at he
  have hl' : ∀ l, _ := fun l => congrFun hl l
  simp only [Prod.mk.injEq] at hl'
  exact ⟨hprof, fun l => (hl' l).1, fun l => (hl' l).2.1, fun l => (hl' l).2.2.1, fun l => (hl' l).2.2.2, hmap, htone, by rw [hbat],
    by rw [hbat], he.1, he.2.1, he.2.2⟩

theorem SameSettings.refl (s : State) : SameSettings s s := by constructor <;> intros <;> rfl

theorem SameSettings.trans {s t u : State} (h : SameSettings s t) (k : SameSettings t u) : SameSettings s u where
  profiles := k.profiles.trans h.profiles
  number l := (k.number l).trans (h.number l)
  service l := (k.service l).trans (h.service l)
  slot l := (k.slot l).trans (h.slot l)
  mask l := (k.mask l).trans (h.mask l)
  classMap := k.classMap.trans h.classMap
  tone := k.tone.trans h.tone
  setting := k.setting.trans h.setting
  index := k.index.trans h.index
  sweepEnabled := k.sweepEnabled.trans h.sweepEnabled
  sweepInterval := k.sweepInterval.trans h.sweepInterval
  sweepSteps := k.sweepSteps.trans h.sweepSteps

theorem calls_congr {s t : State} (h : ∀ l, (t.line l).lsu = (s.line l).lsu ∧ (t.line l).prof = (s.line l).prof ∧
    (t.line l).hook.state = (s.line l).hook.state ∧ (t.line l).hook.pendingProfile = (s.line l).hook.pendingProfile) :
    t.calls = s.calls := by
  funext l
  obtain ⟨h1, h2, h3, h4⟩ := h l
  simp [State.calls, h1, h2, h3, h4]

/-! ## Line records -/

theorem setLine_kept (s : State) (l : Line) (r : LineRec) (h1 : r.prof.number = (s.line l).prof.number)
    (h2 : r.hook.service = (s.line l).hook.service) (h3 : r.pool.slot = (s.line l).pool.slot)
    (h4 : r.rep.mask = (s.line l).rep.mask) : (s.setLine l r).kept = s.kept := by
  simp only [State.kept, setLine_partTime, setLine_tone, setLine_profiles, setLine_battery, setLine_reporter,
    setLine_link, setLine_pending, Kept.mk.injEq, true_and]
  funext m
  by_cases h : m = l
  · subst h; simp [h1, h2, h3, h4]
  · simp [h]

theorem setLine_calls (s : State) (l : Line) (r : LineRec) (h1 : r.lsu = (s.line l).lsu) (h2 : r.prof = (s.line l).prof)
    (h3 : r.hook.state = (s.line l).hook.state) (h4 : r.hook.pendingProfile = (s.line l).hook.pendingProfile) :
    (s.setLine l r).calls = s.calls := by
  apply calls_congr
  intro m
  by_cases h : m = l
  · subst h; simp [h1, h2, h3, h4]
  · simp [h]

variable (s : State) (l : Line)

@[simp] theorem modLsu_kept (f : Lsu → Lsu) : (s.modLsu l f).kept = s.kept := by
  apply setLine_kept <;> rfl
@[simp] theorem modDial_kept (f : DialRec → DialRec) : (s.modDial l f).kept = s.kept := by
  apply setLine_kept <;> rfl
@[simp] theorem modTest_kept (f : TestLine → TestLine) : (s.modTest l f).kept = s.kept := by
  apply setLine_kept <;> rfl
@[simp] theorem modFault_kept (f : FaultRec → FaultRec) : (s.modFault l f).kept = s.kept := by
  apply setLine_kept <;> rfl
theorem modHook_kept (f : HookRec → HookRec) (h : (f (s.line l).hook).service = (s.line l).hook.service) :
    (s.modHook l f).kept = s.kept := by
  apply setLine_kept <;> first | rfl | exact h
theorem modPoolLine_kept (f : PoolLine → PoolLine) (h : (f (s.line l).pool).slot = (s.line l).pool.slot) :
    (s.modPoolLine l f).kept = s.kept := by
  apply setLine_kept <;> first | rfl | exact h
theorem modProf_kept (f : ProfLine → ProfLine) (h : (f (s.line l).prof).number = (s.line l).prof.number) :
    (s.modProf l f).kept = s.kept := by
  apply setLine_kept <;> first | rfl | exact h
theorem modRep_kept (f : RepLine → RepLine) (h : (f (s.line l).rep).mask = (s.line l).rep.mask) :
    (s.modRep l f).kept = s.kept := by
  apply setLine_kept <;> first | rfl | exact h
@[simp] theorem modEngine_kept (f : Engine → Engine) : (s.modEngine f).kept = s.kept := rfl

@[simp] theorem modDial_calls (f : DialRec → DialRec) : (s.modDial l f).calls = s.calls := by
  apply setLine_calls <;> rfl
@[simp] theorem modTest_calls (f : TestLine → TestLine) : (s.modTest l f).calls = s.calls := by
  apply setLine_calls <;> rfl
@[simp] theorem modFault_calls (f : FaultRec → FaultRec) : (s.modFault l f).calls = s.calls := by
  apply setLine_calls <;> rfl
@[simp] theorem modPoolLine_calls (f : PoolLine → PoolLine) : (s.modPoolLine l f).calls = s.calls := by
  apply setLine_calls <;> rfl
@[simp] theorem modRep_calls (f : RepLine → RepLine) : (s.modRep l f).calls = s.calls := by
  apply setLine_calls <;> rfl
theorem modHook_calls (f : HookRec → HookRec) (h1 : (f (s.line l).hook).state = (s.line l).hook.state)
    (h2 : (f (s.line l).hook).pendingProfile = (s.line l).hook.pendingProfile) : (s.modHook l f).calls = s.calls := by
  apply setLine_calls <;> first | rfl | assumption
@[simp] theorem modEngine_calls (f : Engine → Engine) : (s.modEngine f).calls = s.calls := rfl

/-! ## Events -/

@[simp] theorem txChoose_kept : s.txChoose.kept = s.kept := by simp [State.kept]
@[simp] theorem txChoose_calls : s.txChoose.calls = s.calls := calls_congr fun l => by simp

@[simp] theorem enqueue_classMap (r : Reporter) (c : EventClass) (e : Event) : (r.enqueue c e).classMap = r.classMap := by
  unfold Reporter.enqueue; split <;> cases c <;> rfl

@[simp] theorem report_kept (c : EventClass) (e : Event) : (s.report c e).kept = s.kept := by
  simp only [State.report, txChoose_kept]
  simp [State.kept, State.line]
@[simp] theorem report_engine (c : EventClass) (e : Event) : (s.report c e).engine = s.engine := by simp [State.report]
@[simp] theorem report_line (c : EventClass) (e : Event) (m : Line) : (s.report c e).line m = s.line m := by
  simp [State.report, State.line]
@[simp] theorem report_calls (c : EventClass) (e : Event) : (s.report c e).calls = s.calls :=
  calls_congr fun l => by simp

@[simp] theorem raise_kept (b : LineEvent) : (s.raise l b).kept = s.kept := by
  unfold State.raise
  split
  · rw [report_kept]; exact modRep_kept _ _ _ rfl
  · exact modRep_kept _ _ _ rfl
@[simp] theorem raise_engine (b : LineEvent) : (s.raise l b).engine = s.engine := by
  unfold State.raise; split <;> simp
@[simp] theorem raise_calls (b : LineEvent) : (s.raise l b).calls = s.calls := by
  unfold State.raise; split <;> simp

@[simp] theorem raiseDevice_kept (b : DeviceEvent) : (s.raiseDevice b).kept = s.kept := by simp [State.raiseDevice]
@[simp] theorem raiseDevice_engine (b : DeviceEvent) : (s.raiseDevice b).engine = s.engine := by simp [State.raiseDevice]
@[simp] theorem raiseDevice_calls (b : DeviceEvent) : (s.raiseDevice b).calls = s.calls := by simp [State.raiseDevice]

/-! ## The pool -/

variable (r : Rx)

@[simp] theorem setReceiver_kept (v : Option Receiver) : (s.setReceiver r v).kept = s.kept := rfl
@[simp] theorem setReceiver_calls (v : Option Receiver) : (s.setReceiver r v).calls = s.calls := rfl

@[simp] theorem assign_kept : (s.assign r l).kept = s.kept := by
  unfold State.assign; rw [modPoolLine_kept _ _ _ rfl, setReceiver_kept]
@[simp] theorem assign_engine : (s.assign r l).engine = s.engine := rfl
@[simp] theorem assign_calls : (s.assign r l).calls = s.calls := by simp [State.assign]

@[simp] theorem waitQueue_kept (q : List WaitEntry) : ({ s with pool := { s.pool with waitQueue := q } } : State).kept = s.kept :=
  rfl
@[simp] theorem waitQueue_calls (q : List WaitEntry) :
    ({ s with pool := { s.pool with waitQueue := q } } : State).calls = s.calls := rfl

@[simp] theorem joinWait_kept : (s.joinWait l).kept = s.kept := by
  unfold State.joinWait; rw [modPoolLine_kept _ _ _ rfl, waitQueue_kept]
@[simp] theorem joinWait_engine : (s.joinWait l).engine = s.engine := rfl
@[simp] theorem joinWait_calls : (s.joinWait l).calls = s.calls := by simp [State.joinWait]

@[simp] theorem requestReceiver_kept : (s.requestReceiver l).kept = s.kept := by
  unfold State.requestReceiver; repeat' split
  all_goals simp
@[simp] theorem requestReceiver_engine : (s.requestReceiver l).engine = s.engine := by
  unfold State.requestReceiver; repeat' split
  all_goals simp
@[simp] theorem requestReceiver_calls : (s.requestReceiver l).calls = s.calls := by
  unfold State.requestReceiver; repeat' split
  all_goals simp

@[simp] theorem returnReceiver_kept : (s.returnReceiver r l).kept = s.kept := by
  simp only [State.returnReceiver]; split
  · rw [setReceiver_kept, modPoolLine_kept _ _ _ rfl]
  · rw [assign_kept, modPoolLine_kept _ _ _ rfl, waitQueue_kept, modPoolLine_kept _ _ _ rfl]
@[simp] theorem returnReceiver_engine : (s.returnReceiver r l).engine = s.engine := by
  simp only [State.returnReceiver]; split <;> simp
@[simp] theorem returnReceiver_calls : (s.returnReceiver r l).calls = s.calls := by
  simp only [State.returnReceiver]; split
  · simp
  · rw [assign_calls, modPoolLine_calls, waitQueue_calls, modPoolLine_calls]

@[simp] theorem removeWait_kept : (s.removeWait l).kept = s.kept := by
  unfold State.removeWait; rw [modPoolLine_kept _ _ _ rfl, waitQueue_kept]
@[simp] theorem removeWait_engine : (s.removeWait l).engine = s.engine := rfl
@[simp] theorem removeWait_calls : (s.removeWait l).calls = s.calls := by simp [State.removeWait]

@[simp] theorem giveUpReceiver_kept : (s.giveUpReceiver l).kept = s.kept := by
  unfold State.giveUpReceiver; repeat' split
  all_goals simp
@[simp] theorem giveUpReceiver_engine : (s.giveUpReceiver l).engine = s.engine := by
  unfold State.giveUpReceiver; repeat' split
  all_goals simp
@[simp] theorem giveUpReceiver_calls : (s.giveUpReceiver l).calls = s.calls := by
  unfold State.giveUpReceiver; repeat' split
  all_goals simp

@[simp] theorem modHeldReceiver_kept (f : Receiver → Receiver) : (s.modHeldReceiver l f).kept = s.kept := by
  unfold State.modHeldReceiver; split <;> simp
@[simp] theorem modHeldReceiver_engine (f : Receiver → Receiver) : (s.modHeldReceiver l f).engine = s.engine := by
  unfold State.modHeldReceiver; split <;> simp
@[simp] theorem modHeldReceiver_line (f : Receiver → Receiver) (m : Line) : (s.modHeldReceiver l f).line m = s.line m := by
  unfold State.modHeldReceiver; split <;> simp
@[simp] theorem modHeldReceiver_calls (f : Receiver → Receiver) : (s.modHeldReceiver l f).calls = s.calls := by
  unfold State.modHeldReceiver; split <;> simp

@[simp] theorem reachBoundary_kept (frame : Nat) : (s.reachBoundary frame).kept = s.kept := rfl
@[simp] theorem reachBoundary_engine (frame : Nat) : (s.reachBoundary frame).engine = s.engine := rfl
@[simp] theorem reachBoundary_calls (frame : Nat) : (s.reachBoundary frame).calls = s.calls := rfl

@[simp] theorem startReceiver_kept (frame : Nat) : (s.startReceiver r frame).kept = s.kept := by
  unfold State.startReceiver; repeat' split
  all_goals simp
@[simp] theorem startReceiver_engine (frame : Nat) : (s.startReceiver r frame).engine = s.engine := by
  unfold State.startReceiver; repeat' split
  all_goals simp
@[simp] theorem startReceiver_calls (frame : Nat) : (s.startReceiver r frame).calls = s.calls := by
  unfold State.startReceiver; repeat' split
  all_goals simp

/-! ## The Digit Collector -/

@[simp] theorem discardPulses_kept : (s.discardPulses l).kept = s.kept := modHook_kept _ _ _ rfl
@[simp] theorem discardPulses_engine : (s.discardPulses l).engine = s.engine := rfl
@[simp] theorem discardPulses_calls : (s.discardPulses l).calls = s.calls := modHook_calls _ _ _ rfl rfl

@[simp] theorem endCollection_kept (e : Option LineEvent) : (s.endCollection l e).kept = s.kept := by
  unfold State.endCollection; split
  · cases e <;> simp
  · simp
@[simp] theorem endCollection_engine (e : Option LineEvent) : (s.endCollection l e).engine = s.engine := by
  unfold State.endCollection; split
  · cases e <;> simp
  · simp
@[simp] theorem endCollection_calls (e : Option LineEvent) : (s.endCollection l e).calls = s.calls := by
  unfold State.endCollection; split
  · cases e <;> simp
  · simp

@[simp] theorem receiverStep_kept : (s.receiverStep l).kept = s.kept := by
  unfold State.receiverStep; split <;> simp
@[simp] theorem receiverStep_engine : (s.receiverStep l).engine = s.engine := by
  unfold State.receiverStep; split <;> simp
@[simp] theorem receiverStep_calls : (s.receiverStep l).calls = s.calls := by
  unfold State.receiverStep; split <;> simp

@[simp] theorem armCollection_kept : (s.armCollection l).kept = s.kept := by
  unfold State.armCollection; simp only [receiverStep_kept, modDial_kept]; split <;> simp
@[simp] theorem armCollection_engine : (s.armCollection l).engine = s.engine := by
  unfold State.armCollection; simp only [receiverStep_engine, modDial_engine]; split <;> simp
@[simp] theorem armCollection_calls : (s.armCollection l).calls = s.calls := by
  unfold State.armCollection; simp only [receiverStep_calls, modDial_calls]; split <;> simp

@[simp] theorem offHookNotice_kept : (s.offHookNotice l).kept = s.kept := by
  unfold State.offHookNotice; split <;> simp
@[simp] theorem offHookNotice_engine : (s.offHookNotice l).engine = s.engine := by
  unfold State.offHookNotice; split <;> simp
@[simp] theorem offHookNotice_calls : (s.offHookNotice l).calls = s.calls := by
  unfold State.offHookNotice; split <;> simp

@[simp] theorem fixMode_kept (m : Method) : (s.fixMode l m).kept = s.kept := by
  unfold State.fixMode; split <;> simp
@[simp] theorem fixMode_engine (m : Method) : (s.fixMode l m).engine = s.engine := by
  unfold State.fixMode; split <;> simp
@[simp] theorem fixMode_calls (m : Method) : (s.fixMode l m).calls = s.calls := by
  unfold State.fixMode; split <;> simp

@[simp] theorem collectDigit_kept (k : Key) (m : Method) : (s.collectDigit l k m).kept = s.kept := by
  simp only [State.collectDigit, State.takeDigit, State.bufferFull]; repeat' split
  all_goals simp
@[simp] theorem collectDigit_engine (k : Key) (m : Method) : (s.collectDigit l k m).engine = s.engine := by
  simp only [State.collectDigit, State.takeDigit, State.bufferFull]; repeat' split
  all_goals simp
@[simp] theorem collectDigit_calls (k : Key) (m : Method) : (s.collectDigit l k m).calls = s.calls := by
  simp only [State.collectDigit, State.takeDigit, State.bufferFull]; repeat' split
  all_goals simp

@[simp] theorem collectFlash_kept : (s.collectFlash l).kept = s.kept := by
  simp only [State.collectFlash, State.bufferFull]; repeat' split
  all_goals simp
@[simp] theorem collectFlash_engine : (s.collectFlash l).engine = s.engine := by
  simp only [State.collectFlash, State.bufferFull]; repeat' split
  all_goals simp
@[simp] theorem collectFlash_calls : (s.collectFlash l).calls = s.calls := by
  simp only [State.collectFlash, State.bufferFull]; repeat' split
  all_goals simp

@[simp] theorem firstDigitExpiry_kept : (s.firstDigitExpiry l).kept = s.kept := by
  unfold State.firstDigitExpiry; split <;> simp
@[simp] theorem firstDigitExpiry_engine : (s.firstDigitExpiry l).engine = s.engine := by
  unfold State.firstDigitExpiry; split <;> simp
@[simp] theorem firstDigitExpiry_calls : (s.firstDigitExpiry l).calls = s.calls := by
  unfold State.firstDigitExpiry; split <;> simp

@[simp] theorem endDiallingExpiry_kept : (s.endDiallingExpiry l).kept = s.kept := by
  unfold State.endDiallingExpiry; split <;> simp
@[simp] theorem endDiallingExpiry_engine : (s.endDiallingExpiry l).engine = s.engine := by
  unfold State.endDiallingExpiry; split <;> simp
@[simp] theorem endDiallingExpiry_calls : (s.endDiallingExpiry l).calls = s.calls := by
  unfold State.endDiallingExpiry; split <;> simp

@[simp] theorem moveDetector_kept (rec : Receiver) (b : Option Key) : (s.moveDetector r rec b).kept = s.kept := by
  simp only [State.moveDetector]; split <;> simp
@[simp] theorem moveDetector_engine (rec : Receiver) (b : Option Key) : (s.moveDetector r rec b).engine = s.engine := by
  simp only [State.moveDetector]; split <;> simp
@[simp] theorem moveDetector_calls (rec : Receiver) (b : Option Key) : (s.moveDetector r rec b).calls = s.calls := by
  simp only [State.moveDetector]; split <;> simp

@[simp] theorem completeBlock_kept (rec : Receiver) (frames : List HighwayFrame) :
    (s.completeBlock r rec frames).kept = s.kept := by
  unfold State.completeBlock; split <;> simp
@[simp] theorem completeBlock_engine (rec : Receiver) (frames : List HighwayFrame) :
    (s.completeBlock r rec frames).engine = s.engine := by
  unfold State.completeBlock; split <;> simp
@[simp] theorem completeBlock_calls (rec : Receiver) (frames : List HighwayFrame) :
    (s.completeBlock r rec frames).calls = s.calls := by
  unfold State.completeBlock; split <;> simp

@[simp] theorem blockDone_kept (frames : List HighwayFrame) : (s.blockDone r frames).kept = s.kept := by
  unfold State.blockDone; repeat' split
  all_goals simp
@[simp] theorem blockDone_engine (frames : List HighwayFrame) : (s.blockDone r frames).engine = s.engine := by
  unfold State.blockDone; repeat' split
  all_goals simp
@[simp] theorem blockDone_calls (frames : List HighwayFrame) : (s.blockDone r frames).calls = s.calls := by
  unfold State.blockDone; repeat' split
  all_goals simp

/-! ## Working parameters and the Fault Supervisor -/

@[simp] theorem applyProfile_kept : (s.applyProfile l).kept = s.kept := by
  unfold State.applyProfile; rw [modLsu_kept, modProf_kept _ _ _ rfl]
@[simp] theorem applyProfile_engine : (s.applyProfile l).engine = s.engine := rfl

@[simp] theorem honourProfile_kept : (s.honourProfile l).kept = s.kept := by
  unfold State.honourProfile; split
  · rw [raise_kept, applyProfile_kept, modHook_kept _ _ _ rfl]
  · rfl
@[simp] theorem honourProfile_engine : (s.honourProfile l).engine = s.engine := by
  unfold State.honourProfile; split <;> simp

@[simp] theorem reperiodLine_kept : (s.reperiodLine l).kept = s.kept := by simp [State.reperiodLine]
@[simp] theorem reperiodLine_engine : (s.reperiodLine l).engine = s.engine := rfl
@[simp] theorem rethresholdLine_kept : (s.rethresholdLine l).kept = s.kept := by simp [State.rethresholdLine]
@[simp] theorem rethresholdLine_engine : (s.rethresholdLine l).engine = s.engine := rfl

@[simp] theorem enterLearning_kept : (s.enterLearning l).kept = s.kept := by
  unfold State.enterLearning; simp only [reperiodLine_kept, rethresholdLine_kept, modLsu_kept]
  exact modHook_kept _ _ _ rfl
@[simp] theorem enterLearning_engine : (s.enterLearning l).engine = s.engine := rfl

@[simp] theorem joinSticky_kept (k : FaultSet) : (s.joinSticky l k).kept = s.kept := by
  simp only [State.joinSticky]; split <;> simp
@[simp] theorem joinSticky_engine (k : FaultSet) : (s.joinSticky l k).engine = s.engine := by
  simp only [State.joinSticky]; split <;> simp
@[simp] theorem joinSticky_calls (k : FaultSet) : (s.joinSticky l k).calls = s.calls := by
  simp only [State.joinSticky]; split <;> simp

@[simp] theorem isolate_kept : (s.isolate l).kept = s.kept := by
  unfold State.isolate; simp only [reperiodLine_kept, modLsu_kept]
  exact modHook_kept _ _ _ rfl
@[simp] theorem isolate_engine : (s.isolate l).engine = s.engine := rfl

@[simp] theorem setRetestDue_kept : (s.setRetestDue l).kept = s.kept := by simp [State.setRetestDue]
@[simp] theorem setRetestDue_engine : (s.setRetestDue l).engine = s.engine := rfl
@[simp] theorem setRetestDue_calls : (s.setRetestDue l).calls = s.calls := by simp [State.setRetestDue]

@[simp] theorem enterQuarantine_kept : (s.enterQuarantine l).kept = s.kept := by simp [State.enterQuarantine]
@[simp] theorem enterQuarantine_engine : (s.enterQuarantine l).engine = s.engine := by simp [State.enterQuarantine]

@[simp] theorem leaveQuarantine_kept : (s.leaveQuarantine l).kept = s.kept := by simp [State.leaveQuarantine]
@[simp] theorem leaveQuarantine_engine : (s.leaveQuarantine l).engine = s.engine := rfl

@[simp] theorem countVerdict_kept (v : FaultSet) : (s.countVerdict l v).kept = s.kept := by
  unfold State.countVerdict; repeat' split
  all_goals simp
@[simp] theorem countVerdict_engine (v : FaultSet) : (s.countVerdict l v).engine = s.engine := by
  unfold State.countVerdict; repeat' split
  all_goals simp

@[simp] theorem actOnVerdict_kept (v : FaultSet) : (s.actOnVerdict l v).kept = s.kept := by
  unfold State.actOnVerdict; repeat' split
  all_goals first | rfl | exact enterQuarantine_kept s l | exact modHook_kept _ _ _ rfl
@[simp] theorem actOnVerdict_engine (v : FaultSet) : (s.actOnVerdict l v).engine = s.engine := by
  unfold State.actOnVerdict; repeat' split
  all_goals simp

@[simp] theorem takeVerdict_kept (v : FaultSet) : (s.takeVerdict l v).kept = s.kept := by
  simp only [State.takeVerdict]; split <;> simp
@[simp] theorem takeVerdict_engine (v : FaultSet) : (s.takeVerdict l v).engine = s.engine := by
  simp only [State.takeVerdict]; split <;> simp

/-! ## The Line Test Engine -/

@[simp] theorem holdReceiver_kept : (s.holdReceiver l).kept = s.kept := by simp [State.holdReceiver]
@[simp] theorem holdReceiver_engine : (s.holdReceiver l).engine = s.engine := by simp [State.holdReceiver]
@[simp] theorem connect_kept : (s.connect l).kept = s.kept := by simp [State.connect]
@[simp] theorem connect_engine : (s.connect l).engine = s.engine := by simp [State.connect]
@[simp] theorem disconnect_kept : (s.disconnect l).kept = s.kept := by simp [State.disconnect]
@[simp] theorem disconnect_engine : (s.disconnect l).engine = s.engine := rfl

@[simp] theorem beginTest_kept (c : TestCtx) (e : EngineState) : (s.beginTest c e).kept = s.kept := by simp [State.beginTest]
@[simp] theorem beginStep_kept (c : TestCtx) (p : Step) : (s.beginStep c p).kept = s.kept := rfl
@[simp] theorem enterSuspended_kept : s.enterSuspended.kept = s.kept := rfl

@[simp] theorem placeAuto_kept : (s.placeAuto l).kept = s.kept := by
  unfold State.placeAuto; repeat' split
  all_goals simp
@[simp] theorem fileOwed_kept : s.fileOwed.kept = s.kept := by
  unfold State.fileOwed; split <;> simp
@[simp] theorem serveOwed_kept : s.serveOwed.kept = s.kept := by
  unfold State.serveOwed; split <;> simp
@[simp] theorem runEntry_kept (q : TestReq) : (s.runEntry q).kept = s.kept := by simp [State.runEntry]
@[simp] theorem dropTest_kept (h : Bool) : (s.dropTest l h).kept = s.kept := by
  unfold State.dropTest; split <;> simp
@[simp] theorem dropTest_engine (h : Bool) : (s.dropTest l h).engine = s.engine := by
  unfold State.dropTest; split <;> simp
@[simp] theorem resumeSweep_kept (c : SweepCtx) : (s.resumeSweep c).kept = s.kept := by simp [State.resumeSweep]
@[simp] theorem startSweep_kept : s.startSweep.kept = s.kept := by
  simp only [State.startSweep]; split <;> simp

@[simp] theorem chooseLoop_kept (n : Nat) : (State.chooseLoop n s).kept = s.kept := by
  induction n generalizing s with
  | zero => rfl
  | succ n ih =>
    simp only [State.chooseLoop]
    repeat' split
    all_goals simp [ih]

@[simp] theorem chooseWork_kept : s.chooseWork.kept = s.kept := by simp [State.chooseWork]
@[simp] theorem fileAuto_kept : (s.fileAuto l).kept = s.kept := by
  simp only [State.fileAuto]; split <;> simp
@[simp] theorem storeResult_kept (r : ResultRec) : (s.storeResult r).kept = s.kept := by simp [State.storeResult]
@[simp] theorem storeResult_engine (r : ResultRec) : (s.storeResult r).engine = s.engine := rfl
@[simp] theorem finishDone_kept (c : TestCtx) : (s.finishDone c).kept = s.kept := by
  simp only [State.finishDone]; split <;> simp
@[simp] theorem finishDone_engine (c : TestCtx) : (s.finishDone c).engine = s.engine := by
  simp only [State.finishDone]; split <;> simp
@[simp] theorem finishAborted_kept (c : TestCtx) : (s.finishAborted c).kept = s.kept := by simp [State.finishAborted]
@[simp] theorem finishAborted_engine (c : TestCtx) : (s.finishAborted c).engine = s.engine := by simp [State.finishAborted]
@[simp] theorem finishAbandoned_kept (c : TestCtx) : (s.finishAbandoned c).kept = s.kept := by
  simp only [State.finishAbandoned]; split <;> simp
@[simp] theorem finishAbandoned_engine (c : TestCtx) : (s.finishAbandoned c).engine = s.engine := by
  simp only [State.finishAbandoned]; split <;> simp
@[simp] theorem clearRunning_kept (c : TestCtx) : (s.clearRunning c).kept = s.kept := by simp [State.clearRunning]
@[simp] theorem abandon_kept (c : TestCtx) : (s.abandon c).kept = s.kept := by
  simp only [State.abandon]; split <;> simp
@[simp] theorem crossInFlight_kept (c : TestCtx) : (s.crossInFlight c).kept = s.kept := by
  have h : ({ s with freeCount := s.freeCount + 1 } : State).kept = s.kept := rfl
  simp only [State.crossInFlight]; repeat' split
  all_goals simp [h]
@[simp] theorem requestSuspension_kept : (s.requestSuspension l).kept = s.kept := by
  unfold State.requestSuspension State.suspendInFlight; repeat' split
  all_goals simp
@[simp] theorem afterCross_kept (c : TestCtx) : (s.afterCross c).kept = s.kept := by
  unfold State.afterCross; split <;> simp
@[simp] theorem endDone_kept (c : TestCtx) : (s.endDone c).kept = s.kept := by simp [State.endDone]
@[simp] theorem endAborted_kept (c : TestCtx) : (s.endAborted c).kept = s.kept := by simp [State.endAborted]
@[simp] theorem holdSweep_kept (c : TestCtx) : (s.holdSweep c).kept = s.kept := by simp [State.holdSweep]

@[simp] theorem phaseDone_kept (c : TestCtx) (b : Bool) : (s.phaseDone c b).kept = s.kept := by
  unfold State.phaseDone State.runningPhaseDone State.steppingPhaseDone; repeat' split
  all_goals simp
@[simp] theorem settleDone_kept : s.settleDone.kept = s.kept := by
  unfold State.settleDone; repeat' split
  all_goals simp
@[simp] theorem stepDone_kept (a b : Int) : (s.stepDone a b).kept = s.kept := by
  unfold State.stepDone; repeat' split
  all_goals simp
@[simp] theorem abortTests_kept : (s.abortTests l).1.kept = s.kept := by
  have h1 : ∀ t : State, (t.abortRunning l).1.kept = t.kept := by
    intro t; unfold State.abortRunning; repeat' split
    all_goals simp
  have h2 : ∀ t : State, (t.abortQueued l).1.kept = t.kept := by
    intro t; unfold State.abortQueued; split <;> simp
  have h3 : ∀ t : State, (t.abortHeldSweep l).1.kept = t.kept := by
    intro t; unfold State.abortHeldSweep; repeat' split
    all_goals simp
  simp [State.abortTests, h1, h2, h3]

@[simp] theorem fileOwedLoop_kept (n : Nat) : (State.fileOwedLoop n s).kept = s.kept := by
  induction n generalizing s with
  | zero => rfl
  | succ n ih => unfold State.fileOwedLoop; split <;> simp [ih]
@[simp] theorem resumeHeld_kept : s.resumeHeld.kept = s.kept := by
  unfold State.resumeHeld; repeat' split
  all_goals simp
@[simp] theorem resumeTesting_kept : s.resumeTesting.kept = s.kept := by simp [State.resumeTesting]
@[simp] theorem sweepExpiry_kept : s.sweepExpiry.kept = s.kept := by
  simp only [State.sweepExpiry]; repeat' split
  all_goals simp

/-! ## Alarms, hook states and samples -/

@[simp] theorem powerCross_kept : (s.powerCross l).kept = s.kept := by
  unfold State.powerCross; split <;> simp
@[simp] theorem leakageSuspicion_kept : (s.leakageSuspicion l).kept = s.kept := by simp [State.leakageSuspicion]
@[simp] theorem retestExpiry_kept : (s.retestExpiry l).kept = s.kept := by
  unfold State.retestExpiry; repeat' split
  all_goals simp

@[simp] theorem returnToIdle_kept : (s.returnToIdle l).kept = s.kept := by
  simp only [State.returnToIdle]; split
  · rw [enterQuarantine_kept, modHook_kept _ _ _ rfl]; simp
  · simp
@[simp] theorem seize_kept : (s.seize l).kept = s.kept := by
  simp only [State.seize, reperiodLine_kept, modLsu_kept]; exact modHook_kept _ _ _ rfl
@[simp] theorem declareOffHook_kept : (s.declareOffHook l).kept = s.kept := by
  simp only [State.declareOffHook, offHookNotice_kept, raise_kept]; exact modHook_kept _ _ _ rfl
@[simp] theorem seizingSample_kept (i : Nat) : (s.seizingSample l i).kept = s.kept := by
  unfold State.seizingSample; repeat' split
  · simp
  · rfl
  · rw [returnToIdle_kept, modHook_kept _ _ _ rfl]
@[simp] theorem closeDigit_kept : (s.closeDigit l).kept = s.kept := by
  simp only [State.closeDigit]; split <;> simp
@[simp] theorem closeIf_kept (b : Bool) : (s.closeIf l b).kept = s.kept := by
  unfold State.closeIf; split <;> simp
@[simp] theorem offHookSample_kept (i : Nat) : (s.offHookSample l i).kept = s.kept := by
  simp only [State.offHookSample]; split
  · rw [modHook_kept _ _ _ rfl, closeIf_kept]
  · simp
@[simp] theorem markMake_kept : (s.markMake l).kept = s.kept := modHook_kept _ _ _ rfl
@[simp] theorem pulseBreak_kept : (s.pulseBreak l).kept = s.kept := modHook_kept _ _ _ rfl
@[simp] theorem classifyBreak_kept (n : Nat) : (s.classifyBreak l n).kept = s.kept := by
  simp only [State.classifyBreak]; repeat' split
  all_goals simp
@[simp] theorem make_kept (n : Nat) : (s.make l n).kept = s.kept := by
  simp only [State.make, classifyBreak_kept]; rw [modHook_kept _ _ _ rfl, closeIf_kept]
@[simp] theorem release_kept (n : Nat) : (s.release l n).kept = s.kept := by
  simp only [State.release, returnToIdle_kept]; rw [modHook_kept _ _ _ rfl]; simp
@[simp] theorem breakSample_kept (i : Nat) : (s.breakSample l i).kept = s.kept := by
  simp only [State.breakSample]; repeat' split
  all_goals simp

@[simp] theorem restingUpdate_kept (i : Nat) : (s.restingUpdate l i).kept = s.kept := by
  simp only [State.restingUpdate]; split <;> simp
@[simp] theorem restingSample_kept (i : Nat) : (s.restingSample l i).kept = s.kept := by
  unfold State.restingSample; split <;> simp
@[simp] theorem endLearning_kept : (s.endLearning l).kept = s.kept := by
  simp only [State.endLearning, reperiodLine_kept, modLsu_kept]; exact modHook_kept _ _ _ rfl
@[simp] theorem learningSample_kept (i : Nat) : (s.learningSample l i).kept = s.kept := by
  unfold State.learningSample; split <;> simp
@[simp] theorem dispatchSample_kept (i : Nat) : (s.dispatchSample l i).kept = s.kept := by
  unfold State.dispatchSample; split <;> simp

theorem restart_service (h : HookRec) (now : Time) : (h.restart now).service = h.service := by
  unfold HookRec.restart; split <;> rfl

@[simp] theorem endWindow_kept : (s.endWindow l).kept = s.kept := by
  simp only [State.endWindow, State.resumeReceiver, modHeldReceiver_kept]
  rw [modHook_kept _ _ _ (restart_service _ _), modLsu_kept]
@[simp] theorem usableSample_kept (i : Nat) : (s.usableSample l i).kept = s.kept := by
  unfold State.usableSample; repeat' split
  all_goals simp
@[simp] theorem takeSample_kept (i : Nat) (ov : Bool) : (s.takeSample l i ov).kept = s.kept := by
  have h0 : (s.recordSample l i ov).kept = s.kept := by simp [State.recordSample]
  unfold State.takeSample
  rcases h : ((s.recordSample l i ov).line l).lsu.evalOv ov with ⟨u, c⟩
  cases c <;> simp [h, h0]
@[simp] theorem sample_kept (i : Nat) (ov : Bool) : (s.sample l i ov).kept = s.kept := by
  unfold State.sample; split <;> simp

end Sys2Proof.Machine
end

