-- ==== Sys2Proof/Tests/Slice0.lean ====
section
/-! SUPPORT. The model's own tests: a smoke test of each well-formedness check, worked cases of the spec, and for each statement of
the certificates concrete states and operands that meet its hypotheses, clause by clause. -/

namespace Sys2Proof.Tests

open Sys2Proof.Machine

/-! ## Well-formedness: one ill-formed command for each check, and the good one beside it -/

theorem test_wf_sample_odd_time : (Instr.sampleRecord 3#32 0 15 false).wf = false ∧ (Instr.sampleRecord 4#32 0 15 false).wf = true := by
  decide
theorem test_wf_sample_current : (Instr.sampleRecord 4#32 0 1201 false).wf = false ∧
    (Instr.sampleRecord 4#32 0 1200 false).wf = true := by decide
theorem test_wf_block_boundary : (Instr.receiverStart ⟨150, 4#32⟩ 0).wf = false ∧ (Instr.receiverStart ⟨200, 4#32⟩ 0).wf = true := by
  decide
theorem test_wf_block_length : (Instr.blockCompletion 4#32 0 (List.replicate 99 0#512)).wf = false ∧
    (Instr.blockCompletion 4#32 0 (List.replicate 100 0#512)).wf = true := by simp [Instr.wf]
theorem test_wf_battery_time : (Instr.batteryReading 1001#32 44).wf = false ∧ (Instr.batteryReading 0#32 44).wf = false ∧
    (Instr.batteryReading 1000#32 44).wf = true := by decide
theorem test_wf_battery_volts : (Instr.batteryReading 1000#32 81).wf = false ∧ (Instr.batteryReading 1000#32 80).wf = true := by
  decide
theorem test_wf_profile_length : (Instr.setProfile 0#32 0#8 (List.replicate 22 0#16)).wf = false ∧
    (Instr.setProfile 0#32 0#8 (List.replicate 23 0#16)).wf = true := by decide
theorem test_wf_class_map_length : (Instr.setClassMap 0#32 (List.replicate 18 0#8)).wf = false ∧
    (Instr.setClassMap 0#32 (List.replicate 19 0#8)).wf = true := by decide
theorem test_wf_tone_length : (Instr.setToneParams 0#32 (List.replicate 6 0#8)).wf = false ∧
    (Instr.setToneParams 0#32 (List.replicate 7 0#8)).wf = true := by decide
theorem test_wf_unknown_kind : (Instr.unknownKindFrame 0#32 0x16#8).wf = false ∧ (Instr.unknownKindFrame 0#32 0x17#8).wf = true := by
  decide

/-- No word spells a command, since the table gives its rows no bits. -/
theorem test_no_word_decodes : decodeTableWord 8 0x16 = none ∧ (State.reset.withFetchWord 8 0x16) = State.reset := ⟨rfl, rfl⟩

/-! ## Worked cases of the spec -/

/-- R168: the nine bytes 0x31 to 0x39. -/
theorem test_frame_check : crc [0x31#8, 0x32#8, 0x33#8, 0x34#8, 0x35#8, 0x36#8, 0x37#8, 0x38#8, 0x39#8] = 0x29B1#16 := by decide +kernel

/-- R8: baseline 0 under the default record. -/
theorem test_default_thresholds : seizeThreshold 0 Profile.default = 60 ∧ releaseThreshold 0 Profile.default = 40 := by decide

/-- The table of R3. -/
theorem test_next_samples : Period.ms2.nextAfter 80#32 = some 82#32 ∧ Period.ms8.nextAfter 86#32 = some 88#32 ∧
    Period.ms8.nextAfter 1003#32 = some 1008#32 ∧ Period.ms2.nextAfter 1003#32 = some 1004#32 ∧
    Period.ms2.nextAfter 4711#32 = some 4712#32 := by decide

/-- R6: a fall of one unit is never lost, a rise of less than 2^s is, and the clamp holds. -/
theorem test_baseline : updatedBaseline 1 0 7 80 = 0 ∧ updatedBaseline (61440 - 127) 15 7 80 = 61440 - 127 ∧
    updatedBaseline 0 15 2 80 = 15360 ∧ updatedBaseline 327680 1200 7 80 = 327680 := by decide

/-- R153 at index 2: 43 V is LOW, 45 V is NORMAL again, and 44 V changes nothing. -/
theorem test_battery_band : judgedState .normal 2 43 = .low ∧ judgedState .normal 2 44 = .normal ∧ judgedState .low 2 44 = .low ∧
    judgedState .low 2 45 = .normal := by decide

/-- R69: 0x55 inverted in its even positions is 0x00, the smallest negative sample; 0xAA is 0xFF, the largest positive one. -/
theorem test_expand : expandSample 0x55#8 = -1 ∧ expandSample 0xD5#8 = 1 ∧ expandSample 0xAA#8 = 4032 := by decide

/-- R86, R87: a block with 770 and 1336 alone well above the floor is a 5, and 13 dB of twist is none. -/
theorem test_classify : classify ⟨-60, 8, 16, 12, 20, 3, 2⟩ ⟨[-90, -20, -90, -90, -90, -22, -90, -90], -70⟩ = some 5 ∧
    classify ⟨-60, 8, 16, 12, 20, 3, 2⟩ ⟨[-90, -20, -90, -90, -90, -46, -90, -90], -70⟩ = none := by decide

/-- R125: a limit itself does not join; one above it does. -/
theorem test_verdict : verdictOf ⟨some (-10, 10), some 20, some 150, some 149, none⟩ Profile.default = FaultSet.lr ∧
    verdictOf ⟨some (-11, 0), none, none, none, some 1999⟩ Profile.default = FaultSet.fv ||| FaultSet.ll := by decide

/-! ## States for the witnesses -/

/-- The power-up state once the START frame has been sent. -/
def free : State := { State.reset with link := { State.reset.link with tx := none } }

/-- A frame that is being sent. -/
def someFrame : TxFrame := .event (.line 3 7#16 .onHook)

/-- `free` with a frame being sent. -/
def sending : State := { free with link := { free.link with tx := some someFrame } }

/-- `free` with the record of line 0 replaced. -/
def withLine (r : LineRec) : State := free.setLine 0 r

/-- A line in a hook state with no timing in progress, due at part time 1000. -/
def lineIn (h : HookState) : LineRec := { LineRec.powerUp 0 with
  hook := ⟨if h = .outOfService then .serviceOut else .serviceIn, h, none, none, none, 0, false, false⟩
  lsu := { (LineRec.powerUp 0).lsu with
    learningEnd := if h = .learning then some 1000#32 else none
    period := periodOf h .normal
    nextSample := if h = .outOfService then none else some 1000#32 }
  fault := ⟨0#6, 0, if h = .quarantined then some 1000#32 else none, false⟩ }

/-- A seizing line whose run began at a time. -/
def seizingFrom (start : Time) : LineRec := { lineIn .seizing with
  hook := { (lineIn .seizing).hook with runStart := some start } }

/-- An off-hook line that collects in PULSE, with a make start and a pulse count. -/
def pulsing (make : Time) (n : Nat) : LineRec := { lineIn .offHook with
  hook := { (lineIn .offHook).hook with makeStart := some make, pulseCount := n }
  dial := ⟨.collecting, .pulse, [], false, none, some 4000#32⟩ }

/-- The same line in a break since a time. -/
def breaking (start : Time) (n : Nat) : LineRec := { pulsing start n with
  hook := { (pulsing start n).hook with state := .onBreak, breakStart := some start } }

/-- An off-hook line that waits for its first digit. -/
def waiting : LineRec := { lineIn .offHook with dial := ⟨.waitFirst, .undetermined, [], false, some 1000#32, none⟩ }

/-- `free` with line 0 off-hook, waiting for its first digit, and receiver 0 assigned to it. -/
def calling : State :=
  (withLine { waiting with pool := ⟨0, some 0, false⟩ }).setReceiver 0 (some ⟨0, none, false, false, .quiet⟩)

/-- A test of line 0 with a phase in flight. -/
def test0 (origin : Origin) (phase : Option (Phase × Time)) (next : Option Step) : TestCtx :=
  ⟨0, origin, 7#5, ⟨none, none, none, none, none⟩, next, phase, true, false, false, false⟩

/-- `free` with an engine state and a test. -/
def testing (st : EngineState) (c : Option TestCtx) : State := { free with engine := { free.engine with
  state := st, running := c, sweepTimer := if st = .suspended then .remaining 500 else .running 2000#32 } }

theorem powerUp_line : ∀ l, free.line l = LineRec.powerUp l := by decide

theorem line_withLine (r : LineRec) (l : Line) : (withLine r).line l = if l = 0 then r else LineRec.powerUp l := by
  unfold withLine
  rw [line_setLine]
  split
  · rfl
  · exact powerUp_line l

theorem powerUp_consistent : ∀ l, (LineRec.powerUp l).consistent := fun l => by constructor <;> revert l <;> decide

theorem withLine_calls {r : LineRec} (h : r.consistent) : CallLaws (withLine r) := by
  intro l
  rw [line_withLine]
  split
  · exact h
  · exact powerUp_consistent l

theorem lineIn_consistent (h : HookState) (hs : h ≠ .seizing) (hb : h ≠ .onBreak) : (lineIn h).consistent := by
  cases h <;> first | contradiction | (constructor <;> decide)

/-- Laws 3 and 4 where no line holds a receiver or waits. -/
theorem poolLaws_of_empty {s : State} (hr : ∀ r, s.receiver r = none) (hq : s.pool.waitQueue = [])
    (hl : ∀ l, (s.line l).pool.receiver = none ∧ (s.line l).pool.waiting = false) : PoolLaws s := by
  constructor <;> simp [hr, hq, hl]

theorem withLine_pool {r : LineRec} (h : r.pool.receiver = none ∧ r.pool.waiting = false) : PoolLaws (withLine r) := by
  refine poolLaws_of_empty (s := withLine r) (show ∀ x, free.receiver x = none by decide) rfl fun l => ?_
  rw [line_withLine]
  split
  · exact h
  · exact ⟨rfl, rfl⟩

theorem calling_calls : CallLaws calling := withLine_calls (by constructor <;> decide)

theorem calling_pool : PoolLaws calling where
  holds := fun l r => by
    have h : (calling.line l).pool.receiver = some r ↔ (calling.receiver r).map (fun x => x.line) = some l := by
      revert l r; decide
    simp [h]
  collecting := by decide
  waits := by decide
  once := by decide
  waitsOnly := by decide
  noneFree := by decide
  priorityFirst := by decide

theorem idle_consistent : EngineConsistent free.engine := by
  constructor <;> simp [free, State.reset, Engine.powerUp]

theorem testing_consistent (st : EngineState) (c : TestCtx) (h : c.phase.isSome = true)
    (ho : st = .running ∧ c.origin ≠ .sweep ∨ st = .stepping ∧ c.origin = .sweep) :
    EngineConsistent (testing st (some c)).engine := by
  rcases ho with ⟨rfl, ho⟩ | ⟨rfl, ho⟩ <;> constructor <;>
    simp_all [testing, free, State.reset, Engine.powerUp, Engine.inFlight]

theorem held_consistent (c : TestCtx) (h : c.phase = none) (ho : c.origin ≠ .sweep) :
    EngineConsistent (testing .suspended (some c)).engine := by
  constructor <;> simp_all [testing, free, State.reset, Engine.powerUp]

/-! ## Witnesses: the queue, resets and arrivals -/

theorem free_ready : free.ready := ⟨rfl, rfl, rfl⟩

theorem withLine_ready (r : LineRec) : (withLine r).ready := ⟨rfl, rfl, rfl⟩

theorem witness_StepRunsFrontCommand : free.pending = [] := rfl

theorem witness_CommandsAnswerAndKeepQueue : arrivalTime (.identify 5#32) = some 5#32 ∧ free.link.resetnLow = false ∧
    free.sendingResetReply = false := ⟨rfl, rfl, rfl⟩

theorem witness_PowerUpAndPinReset (c : Instr) (cause : ResetCause) (h : (c, cause) = (.powerUpReset, .power) ∨
    (c, cause) = (.pinReset, .pin)) : (c = .powerUpReset ∧ cause = .power) ∨ (c = .pinReset ∧ cause = .pin) := by
  simpa using h

/-- A part that is sending its reply to RESET: line 0 in service, line 1 out of service. -/
def resetting (setting : ScanSetting) : State :=
  { free.setLine 1 { free.line 1 with hook := (lineIn .outOfService).hook } with
    battery := { free.battery with setting := setting }
    link := { free.link with resetRequested := true, tx := some (.reply ⟨0x16#8, .ok, []⟩) } }

theorem witness_CommandResetEffect (setting : ScanSetting) : (resetting setting).link.resetnLow = false ∧
    (resetting setting).link.resetRequested = true ∧ (resetting setting).link.tx = some (.reply ⟨0x16#8, .ok, []⟩) ∧
    ((resetting setting).line 0).hook.service = .serviceIn ∧ ((resetting setting).line 1).hook.service = .serviceOut :=
  ⟨rfl, rfl, rfl, rfl, rfl⟩

/-- A part held by RESETN. -/
def held : State := { free with link := { free.link with resetnLow := true } }

theorem witness_ResetsHoldThePart : held.link.resetnLow = true ∧ arrivalTime (.transmitFrameEnd 7#32) = some 7#32 ∧ free.ready ∧
    (resetting .auto).link.resetnLow = false ∧ (resetting .auto).link.resetRequested = true ∧ isFrame (.frameError 7#32) = true ∧
    isFrame (.reset 7#32) = true ∧ isFrame (.unknownKindFrame 7#32 0x17#8) = true ∧
    (resetting .auto).link.tx = some (.reply ⟨0x16#8, .ok, []⟩) := ⟨rfl, rfl, free_ready, rfl, rfl, rfl, rfl, rfl, rfl⟩

/-! ## Witnesses: frames and the transmitter -/

/-- A part with a frame being sent and a reply behind it. -/
def occupied : State := { sending with link := { sending.link with slot := some ⟨0x01#8, .ok, []⟩ } }

theorem witness_FramesAreTurnedAwayOrAnswered : occupied.link.resetnLow = false ∧ occupied.link.resetRequested = false ∧
    occupied.link.slot = some ⟨0x01#8, .ok, []⟩ ∧ occupied.link.tx = some someFrame ∧ isFrame (.identify 9#32) = true ∧
    arrivalTime (.identify 9#32) = some 9#32 ∧ arrivalTime (.frameDiscardedBusy 9#32) = some 9#32 ∧ free.ready ∧
    isCommandKind 0x00#8 = false ∧ isCommandKind 0x17#8 = false := ⟨rfl, rfl, rfl, rfl, rfl, rfl, rfl, free_ready, rfl, rfl⟩

/-- A part that collects a frame since part time 10. -/
def collecting (got : List Byte) : State := { free with link := { free.link with rx := .collecting got 10#32 } }

theorem witness_FrameReceiverTakesBytes (got : List Byte) : (collecting got).link.resetnLow = false ∧ free.link.rx = .hunting ∧
    (collecting got).link.rx = .collecting got 10#32 ∧ 4 < elapsed 15#32 10#32 ∧ elapsed 14#32 10#32 ≤ 4 ∧
    4 ≤ elapsed 14#32 10#32 ∧ elapsed 13#32 10#32 < 4 := ⟨rfl, rfl, rfl, by decide, by decide, by decide, by decide⟩

/-- Length bytes 0 and 65; a frame of length 1 and one of length 64 short of their last byte; and a last byte with a bad check. -/
theorem witness_FrameReceiverTakesBytes_lengths : (([] ++ [0#8] : List Byte).headD 0#8).toNat = 0 ∧
    64 < (([] ++ [65#8] : List Byte).headD 0#8).toNat ∧ ([1#8, 1#8] ++ [0#8] : List Byte).length < 1 + 3 ∧
    ([64#8] ++ [1#8] : List Byte).length < 64 + 3 ∧ ([1#8, 1#8, 0#8] ++ [0#8] : List Byte).length = 1 + 3 ∧
    ([1#8, 1#8, 0#8] ++ [0#8] : List Byte).drop 2 ≠ wordBytes (crc (([1#8, 1#8, 0#8] ++ [0#8] : List Byte).take 2)) := by
  decide +kernel

theorem witness_FramesDecodeToTheirCommands : frameOf (.setLineProfile 3#32 31#8 7#8) = some (0x06#8, [31#8, 7#8]) ∧
    Instr.wf (.setLineProfile 3#32 31#8 7#8) = true ∧ arrivalTime (.setLineProfile 3#32 31#8 7#8) = some 3#32 ∧
    free.link.rx = .hunting ∧ free.ready ∧ (List.replicate 63 0#8).length ≤ 63 ∧ isCommandKind 0x00#8 = false ∧
    isCommandKind 0x17#8 = false ∧ isCommandKind 0x01#8 = true ∧ [0#8].length ≠ bodyLengths.getD ((0x01#8).toNat - 1) 0 ∧
    isCommandKind 0x16#8 = true ∧ [0#8].length ≠ bodyLengths.getD ((0x16#8).toNat - 1) 0 ∧ 2 ≤ (2#8).toNat ∧
    [0#8, 0#8] ≠ wordBytes (crc (BitVec.ofNat 8 1 :: 0x01#8 :: [])) :=
  ⟨rfl, rfl, rfl, rfl, free_ready, by simp, rfl, rfl, rfl, by decide, rfl, by decide, by decide, by decide +kernel⟩

/-- `sending` with two event queues of given lengths and overflow flags where they are full. -/
def queued (p n : Nat) : State := { sending with reporter := { free.reporter with
  prio := List.replicate p (.line 3 7#16 .onHook), norm := List.replicate n (.line 3 7#16 .onHook)
  prioOverflow := p == 16, normOverflow := n == 48 } }

theorem witness_TransmitterTakesFirstThatApplies : free.link.resetnLow = false ∧ free.link.tx = none ∧
    occupied.link.tx = some someFrame ∧ occupied.sendingResetReply = false ∧ occupied.link.slot = some ⟨0x01#8, .ok, []⟩ ∧
    (queued 16 1).link.slot = none ∧ (queued 16 1).link.busyPending = false ∧
    (queued 16 1).reporter.prio = .line 3 7#16 .onHook :: List.replicate 15 (.line 3 7#16 .onHook) ∧
    (queued 0 48).reporter.prio = [] ∧
    (queued 0 48).reporter.norm = .line 3 7#16 .onHook :: List.replicate 47 (.line 3 7#16 .onHook) :=
  ⟨rfl, rfl, rfl, rfl, rfl, rfl, rfl, rfl, rfl, rfl⟩

theorem witness_TransmitterTakesFirstThatApplies_busy :
    ({ sending with link := { sending.link with busyPending := true } } : State).link.slot = none ∧
    ({ sending with link := { sending.link with busyPending := true } } : State).link.busyPending = true := ⟨rfl, rfl⟩

theorem free_sendsNothing : FreeMeansNothingToSend free := fun _ _ => ⟨rfl, rfl, rfl, rfl⟩

theorem queued_eleven (p n : Nat) (hp : p ≤ 16) (hn : n ≤ 48) : LawEleven (queued p n) := by
  constructor <;> simp [queued, sending, free, State.reset, Event.priorityOnly, LineEvent.kind, hp, hn] <;> decide

theorem free_eleven : LawEleven free := by
  constructor <;> simp [free, State.reset] <;> decide

theorem witness_FreeTransmitterHasNothingToSend : FreeMeansNothingToSend { free with pending := [.frameError 3#32] } ∧
    ∃ t, step { free with pending := [.frameError 3#32] } = .next t := ⟨fun _ _ => ⟨rfl, rfl, rfl, rfl⟩, _, rfl⟩

/-- A free transmitter; a frame being sent with room in both queues, and with both at capacity; a kind in the mask and, with an
empty mask, one that is not. -/
theorem witness_RaisedEventsAreLatchedAndQueued : LawEleven free ∧ FreeMeansNothingToSend free ∧ free.link.resetnLow = false ∧
    LawEleven (queued 15 47) ∧ LawEleven (queued 16 48) ∧ FreeMeansNothingToSend (queued 16 48) ∧
    (queued 16 48).link.tx.isSome = true ∧ (free.line 0).rep.mask.getLsbD 15 = true ∧
    ((free.setLine 0 { free.line 0 with rep := ⟨0x1000#16, 0#16⟩ }).line 0).rep.mask.getLsbD 0 = false :=
  ⟨free_eleven, free_sendsNothing, rfl, queued_eleven 15 47 (by decide) (by decide), queued_eleven 16 48 (by decide) (by decide),
   (fun _ h => by cases h), rfl, rfl, rfl⟩

theorem witness_LawElevenIsKept : LawEleven (queued 16 48) ∧
    ∃ t, step { queued 16 48 with pending := [.transmitFrameEnd 3#32] } = .next t :=
  ⟨queued_eleven 16 48 (by decide) (by decide), _, rfl⟩

/-! ## Witnesses: queries and settings -/

theorem witness_StatusRepliesShowTheState : free.ready ∧ 32 ≤ (32#8).toNat := ⟨free_ready, by decide⟩

/-- A record with every value absent, and one with every value. -/
def result (v : TestValues) : ResultRec := ⟨0, .host, 31#5, v, .done, some 0#6⟩

theorem witness_ProfilesAndResultsAreShown : free.ready ∧ 8 ≤ (8#8).toNat ∧ 32 ≤ (32#8).toNat ∧ (free.line 31).test.lastResult = none ∧
    (withLine { free.line 0 with test := ⟨false, false, some (result ⟨some (-250, 250), some 250, some 0, some 9999, some 19999⟩)⟩ }).ready ∧
    ((withLine { free.line 0 with
      test := ⟨false, false, some (result ⟨some (-250, 250), some 250, some 0, some 9999, some 19999⟩)⟩ }).line 0).test.lastResult =
        some (result ⟨some (-250, 250), some 250, some 0, some 9999, some 19999⟩) :=
  ⟨free_ready, by decide, by decide, rfl, withLine_ready _, rfl⟩

/-- The default record's 23 fields as a SET_PROFILE body carries them. -/
def defaultFields : List (BitVec 16) :=
  [60, 20, 7, 80, 30, 30, 16, 90, 120, 800, 200, 15, 4, 2, 1, 0, 1, 60, 2, 10, 20, 150, 2000]

theorem witness_SetProfileJudgesAndReplaces : free.ready ∧ defaultFields.length = 23 ∧ choicesInSet defaultFields ∧
    breakFieldsInOrder defaultFields ∧ (defaultFields.drop 1).length ≠ 23 ∧ 8 ≤ (8#8).toNat ∧ (7#8).toNat < 8 ∧
    ¬ choicesInSet (defaultFields.set 13 3#16) ∧ (defaultFields.set 8 90#16).length = 23 ∧
    choicesInSet (defaultFields.set 8 90#16) ∧ ¬ breakFieldsInOrder (defaultFields.set 8 90#16) := by
  refine ⟨free_ready, ?_⟩
  unfold choicesInSet breakFieldsInOrder
  decide

theorem witness_SetLineProfileAppliesOrStages : free.ready ∧ 32 ≤ (32#8).toNat ∧ 8 ≤ (8#8).toNat ∧ (free.line 31).hook.state.busy = false ∧
    (withLine (lineIn .offHook)).ready ∧ ((withLine (lineIn .offHook)).line 0).hook.state.busy = true ∧
    ((withLine (lineIn .offHook)).line 0).prof.number = 0 ∧ ((withLine (lineIn .offHook)).line 0).prof.number ≠ 7 :=
  ⟨free_ready, by decide, by decide, rfl, withLine_ready _, rfl, rfl, by decide⟩

theorem calling_ready : calling.ready := ⟨rfl, rfl, rfl⟩

/-- A line out of service; a calling line with a receiver; and a line with nothing held and no pending profile. -/
theorem witness_SetServiceTakesLinesOutAndIn : (withLine (lineIn .outOfService)).ready ∧ 32 ≤ (32#8).toNat ∧
    ((withLine (lineIn .outOfService)).line 0).hook.state = .outOfService ∧ calling.ready ∧ CallLaws calling ∧ PoolLaws calling ∧
    (calling.line 0).hook.state ≠ .outOfService ∧ (calling.line 31).hook.pendingProfile = false ∧
    (calling.line 31).pool.receiver = none ∧ (calling.line 31).pool.waiting = false :=
  ⟨withLine_ready _, by decide, rfl, calling_ready, calling_calls, calling_pool, by decide, rfl, rfl, rfl⟩

theorem witness_SetTimeslotMovesOnlyToFreeSlots : free.ready ∧ 32 ≤ (32#8).toNat ∧ 64 ≤ (64#8).toNat ∧ (free.line 31).pool.slot = 31 ∧
    (free.line 31).pool.slot ≠ 0 ∧ (∃ m, (free.line m).pool.slot = 0) ∧ (∀ m, (free.line m).pool.slot ≠ 63) ∧
    (free.line 31).pool.receiver = none ∧ calling.ready ∧ (∀ m, (calling.line m).pool.slot ≠ 63) ∧
    (calling.line 0).pool.receiver = some 0 ∧ calling.receiver 0 = some ⟨0, none, false, false, .quiet⟩ :=
  ⟨free_ready, by decide, by decide, rfl, by decide, ⟨0, rfl⟩, by decide, rfl, calling_ready, by decide, rfl, rfl⟩

theorem witness_MasksClassesAndToneParamsAreSet : free.ready ∧ 32 ≤ (32#8).toNat ∧ (List.replicate 18 0#8).length ≠ 19 ∧
    (List.replicate 19 2#8).length = 19 ∧ (∃ b ∈ List.replicate 19 2#8, 2 ≤ b.toNat) ∧
    ((List.replicate 19 0#8).set 16 1#8).getD 16 0#8 ≠ 0#8 ∧ ((List.replicate 19 0#8).set 12 1#8).getD 12 0#8 ≠ 0#8 ∧
    (∀ b ∈ List.replicate 19 0#8, b.toNat ≤ 1) ∧ (List.replicate 19 0#8).getD 16 0#8 = 0#8 ∧
    (List.replicate 19 0#8).getD 12 0#8 = 0#8 ∧ [0#8].length ≠ 7 ∧ [196#8, 8#8, 16#8, 12#8, 20#8, 3#8, 2#8].length = 7 :=
  ⟨free_ready, by decide, by decide, by decide, by decide, by decide, by decide, by decide, by decide, by decide, by decide, by decide⟩

theorem free_settings : SettingsLaws free := ⟨by decide, by decide, rfl⟩

theorem witness_SetScanDerivesTheMode : free.ready ∧ 3 ≤ (3#8).toNat ∧ SettingsLaws free ∧ LawEleven free ∧ FreeMeansNothingToSend free ∧
    free.battery.mode = .normal ∧ free.battery.state = .normal :=
  ⟨free_ready, by decide, free_settings, free_eleven, free_sendsNothing, rfl, rfl⟩

theorem witness_SetSweepReplacesTheSettings : free.ready ∧ 2 ≤ (2#8).toNat ∧ 32 ≤ (32#8).toNat ∧ (31#8).toNat < 32 ∧ 31#8 ≠ 0#8 ∧
    free.engine.sweepEnabled = true ∧
    ({ free with engine := { free.engine with sweepEnabled := false } } : State).ready ∧
    ¬ ({ free.engine with sweepEnabled := false } : Engine).sweeping ∧ free.engine.state ≠ .suspended ∧
    ¬ (testing .suspended none).engine.sweeping ∧ (testing .suspended none).engine.state = .suspended := by
  refine ⟨free_ready, by decide, by decide, by decide, by decide, rfl, ⟨rfl, rfl, rfl⟩, ?_, by decide, ?_, rfl⟩ <;>
    simp [Engine.sweeping, testing, free, State.reset, Engine.powerUp]

theorem witness_SettingsLawsAreKept : SettingsLaws { free with pending := [.setScan 3#32 1#8 0#8] } ∧
    ∃ t, step { free with pending := [.setScan 3#32 1#8 0#8] } = .next t := ⟨⟨by decide, by decide, rfl⟩, _, rfl⟩

theorem witness_OnlyConfigurationCommandsConfigure : configures (.collectOn 3#32 0#8) = false ∧
    ∃ t, exec (.collectOn 3#32 0#8) calling = .next t := ⟨rfl, _, rfl⟩

theorem witness_WorkingParametersFollowTheTable :
    WorkingFollowsTable { withLine { seizingFrom 3#32 with hook := { (seizingFrom 3#32).hook with pendingProfile := true } } with
      pending := [.setProfile 3#32 0#8 defaultFields] } ∧
    ∃ t, step { withLine { seizingFrom 3#32 with hook := { (seizingFrom 3#32).hook with pendingProfile := true } } with
      pending := [.setProfile 3#32 0#8 defaultFields] } = .next t := ⟨⟨by decide, by decide⟩, _, rfl⟩

/-! ## Witnesses: collection, receivers and tones -/

/-- Receivers 0 to 7 serve lines 1 to 8; lines 9 (PRIORITY) and 10 wait; line 0 is off-hook and has asked for nothing yet. -/
def crowded : State := { free with
  lines := Vector.ofFn fun l =>
    if h : 1 ≤ l.val ∧ l.val ≤ 8 then { waiting with pool := ⟨⟨l.val, by omega⟩, some ⟨l.val - 1, by omega⟩, false⟩ }
    else if l = 9 ∨ l = 10 then { waiting with pool := ⟨⟨l.val, by omega⟩, none, true⟩ }
    else if l = 0 then waiting else LineRec.powerUp l
  pool := { free.pool with
    receivers := Vector.ofFn fun r => some ⟨⟨r.val + 1, by omega⟩, none, false, false, .quiet⟩
    waitQueue := [⟨9, true⟩, ⟨10, false⟩] } }

theorem crowded_pool : PoolLaws crowded where
  holds := fun l r => by
    have h : (crowded.line l).pool.receiver = some r ↔ (crowded.receiver r).map (fun x => x.line) = some l := by
      revert l r; decide
    simp [h]
  collecting := by decide
  waits := by decide
  once := by decide
  waitsOnly := by decide
  noneFree := by decide
  priorityFirst := by decide

/-- A line at rest; one that holds a receiver; one that asks with all free; and one that asks with none free. -/
theorem witness_CollectOnArmsCollection : free.ready ∧ 32 ≤ (32#8).toNat ∧ ¬ (free.line 31).hook.state.inCall ∧ calling.ready ∧
    PoolLaws calling ∧ (calling.line 0).hook.state.inCall ∧ (calling.line 0).pool.receiver ≠ none ∧ (withLine waiting).ready ∧
    PoolLaws (withLine waiting) ∧ ((withLine waiting).line 0).hook.state.inCall ∧
    (waiting.prof.working.dialModes ≠ .pulse ∧ waiting.pool.receiver = none ∧ waiting.pool.waiting = false) ∧
    (withLine waiting).receiver 0 = none ∧ (∀ y : Rx, y < 0 → (withLine waiting).receiver y ≠ none) ∧
    crowded.ready ∧ PoolLaws crowded ∧ (crowded.line 0).hook.state.inCall ∧ (crowded.line 0).pool.receiver = none ∧
    (∀ x, crowded.receiver x ≠ none) ∧ crowded.pool.waitQueue = [⟨9, true⟩] ++ [⟨10, false⟩] :=
  ⟨free_ready, by decide, by decide, calling_ready, calling_pool, by decide, by decide, withLine_ready _,
   withLine_pool ⟨rfl, rfl⟩, by decide, by decide, by decide, by decide, ⟨rfl, rfl, rfl⟩, crowded_pool, by decide, by decide,
   by decide, rfl⟩

theorem withLine_free_pool : PoolLaws free := poolLaws_of_empty (by decide) rfl (by decide)

theorem witness_CollectionEndsAndDigitsAreRead : free.ready ∧ 32 ≤ (32#8).toNat ∧ 2 ≤ (2#8).toNat ∧ PoolLaws free ∧
    (free.line 31).dial.collection = .inactive ∧ calling.ready ∧ PoolLaws calling ∧
    (calling.line 0).dial.collection = .waitFirst ∧ (calling.line 0).dial.firstDeadline = some 1000#32 ∧
    (withLine (pulsing 0#32 0)).link.resetnLow = false ∧ PoolLaws (withLine (pulsing 0#32 0)) ∧
    ((withLine (pulsing 0#32 0)).line 0).dial.collection = .collecting ∧
    ((withLine (pulsing 0#32 0)).line 0).dial.endDeadline = some 4000#32 :=
  ⟨free_ready, by decide, by decide, withLine_free_pool, rfl, calling_ready, calling_pool, rfl, rfl, rfl, withLine_pool ⟨rfl, rfl⟩,
   rfl, rfl⟩

/-- A collecting line with a buffer of `n` entries. -/
def holding (n : Nat) : LineRec := { pulsing 0#32 0 with dial := { (pulsing 0#32 0).dial with buffer := List.replicate n .flash } }

theorem witness_DigitsAndFlashesAreCollected : PoolLaws free ∧ (free.line 0).dial.collection = .inactive ∧
    PoolLaws (withLine (holding 23)) ∧ PoolLaws (withLine (holding 24)) ∧
    ((withLine (holding 23)).line 0).dial.collection = .collecting ∧ ((withLine (holding 23)).line 0).dial.mode = .pulse ∧
    ((withLine (holding 23)).line 0).dial.buffer.length < 24 ∧ 24 ≤ ((withLine (holding 24)).line 0).dial.buffer.length ∧
    PoolLaws calling ∧ (calling.line 0).dial.collection = .waitFirst ∧ (calling.line 0).dial.mode = .undetermined ∧
    (calling.line 0).dial.buffer.length < 24 :=
  ⟨withLine_free_pool, rfl, withLine_pool ⟨rfl, rfl⟩, withLine_pool ⟨rfl, rfl⟩, rfl, rfl, by decide, by decide, calling_pool, rfl, rfl,
   by decide⟩

theorem crowded_grid : GridLaws crowded :=
  ⟨(fun _ h => by cases h), fun r rec f h hf => by
    have hr : ∀ r, (crowded.receiver r).bind (fun x => x.blockStart) = none := by decide
    simpa [h, hf] using hr r⟩

theorem witness_PoolLawsAreKept : PoolLaws { crowded with pending := [.collectOff 3#32 1#8] } ∧
    GridLaws { crowded with pending := [.collectOff 3#32 1#8] } ∧
    ∃ t, step { crowded with pending := [.collectOff 3#32 1#8] } = .next t :=
  ⟨⟨crowded_pool.1, crowded_pool.2, crowded_pool.3, crowded_pool.4, crowded_pool.5, crowded_pool.6, crowded_pool.7⟩,
   ⟨crowded_grid.1, crowded_grid.2⟩, _, rfl⟩

theorem witness_CallLawsAreKept : CallLaws calling ∧ ∃ t, step { calling with pending := [.firstDigitTimeout 1000#32 0] } = .next t :=
  ⟨calling_calls, _, rfl⟩

/-- `free` with the latest boundary at frame 100, part time 13, and receiver 0 serving line 0. -/
def tapped (rec : Receiver) : State := { free with pool := { free.pool with
  receivers := free.pool.receivers.set 0 (some rec), grid := some ⟨100, 13#32⟩ } }

/-- No grid; on the grid, a receiver that waits to start, one that has started and one that is held, at the boundary just reached, at
the next, at one too soon and at a frame between. -/
theorem witness_ReceiversStartOnTheGrid : free.link.resetnLow = false ∧ free.pool.grid = none ∧
    (tapped ⟨0, none, false, true, .quiet⟩).link.resetnLow = false ∧
    (tapped ⟨0, none, false, true, .quiet⟩).pool.grid = some ⟨100, 13#32⟩ ∧
    (tapped ⟨0, none, false, true, .quiet⟩).receiver 0 = some ⟨0, none, false, true, .quiet⟩ ∧
    (tapped ⟨0, none, false, true, .quiet⟩).receiver 7 = none ∧
    (tapped ⟨0, some 0, false, false, .quiet⟩).receiver 0 = some ⟨0, some 0, false, false, .quiet⟩ ∧
    (tapped ⟨0, none, true, false, .quiet⟩).receiver 0 = some ⟨0, none, true, false, .quiet⟩ ∧
    Falls ⟨100, 13#32⟩ 100 13#32 ∧ Falls ⟨100, 13#32⟩ 200 25#32 ∧ ¬ Falls ⟨100, 13#32⟩ 200 24#32 ∧
    ¬ Falls ⟨100, 13#32⟩ 150 25#32 := by
  refine ⟨rfl, rfl, rfl, rfl, rfl, rfl, rfl, rfl, ?_⟩
  unfold Falls
  decide

/-- A block of 770 and 1336, each of peak 700. -/
def blockOfFive : List Byte :=
  [85, 138, 182, 128, 103, 5, 22, 81, 114, 5, 13, 16, 135, 177, 183, 238, 13, 52, 1, 212, 148, 202, 103, 242, 128, 138, 132, 30, 49,
   54, 28, 132, 137, 135, 202] ++
  [117, 236, 146, 81, 2, 55, 12, 235, 183, 182, 132, 17, 0, 28, 67, 113, 25, 6, 103, 130, 177, 138, 94, 11, 55, 7, 228, 156, 227, 73,
   231, 129, 142] ++
  [147, 1, 48, 55, 109, 130, 181, 135, 80, 96, 241, 233, 122, 13, 52, 7, 152, 177, 182, 146, 5, 12, 24, 71, 89, 16, 25, 217, 143,
   182, 140, 21]

/-- A highway frame with a byte in one timeslot and the smallest codes in the others. -/
def frameWith (slot : Timeslot) (b : Byte) : HighwayFrame :=
  (List.finRange 64).foldl (fun f t => f <<< 8 ||| (if t = slot then b else 0x55#8).setWidth 512) 0#512

/-- R68: timeslot 0 begins the frame, most significant bit first. -/
theorem test_tap : tapByte (0x8F#8 ++ 0#504) 0 = 0x8F#8 ∧ tapByte (0#496 ++ 0x8F#8 ++ 0#8) 62 = 0x8F#8 ∧
    tapByte (0#504 ++ 0x8F#8) 63 = 0x8F#8 := by decide +kernel

/-- R85 at 697 Hz: 2 cos(2π · 697 / 8000) = 1.707737…, its first 128 places computed outside the model with 80 decimal digits. -/
theorem test_coefficient : toneCoeff 128 0 = 0x1b52e4e194bd4c932f5e12b70b0ceb066 := by decide +kernel

/-- The frames of the block of key 5, on the timeslot of line 3. -/
def framesOfFive : List HighwayFrame := blockOfFive.map (frameWith 3)

/-- R68, R85 to R87 on a whole block: the two frequencies of key 5 on the line's timeslot, and silence on another's. -/
theorem test_tone_block : free.classifyBlock 3 framesOfFive = some 5 ∧ free.classifyBlock 4 framesOfFive = none := by
  decide +kernel

/-- For every detector state and either mark, at the boundary a hundred frames after the block's beginning, with blocks of a digit and
of none (the test above); and a receiver whose block ends later. -/
theorem witness_BlockCompletionsMoveTheDetector (d : Detector) (mark : Bool) : free.link.resetnLow = false ∧
    free.pool.grid = none ∧ (tapped ⟨3, some 0, false, mark, d⟩).link.resetnLow = false ∧
    (tapped ⟨3, some 0, false, mark, d⟩).pool.grid = some ⟨100, 13#32⟩ ∧
    (tapped ⟨3, some 0, false, mark, d⟩).receiver 0 = some ⟨3, some 0, false, mark, d⟩ ∧ framesOfFive.length = 100 ∧
    (framesOfFive.drop 1).length ≠ 100 ∧ Falls ⟨100, 13#32⟩ (0 + 100) 13#32 ∧ Falls ⟨100, 13#32⟩ (100 + 100) 25#32 ∧
    ¬ Falls ⟨100, 13#32⟩ (100 + 100) 13#32 ∧ (tapped ⟨3, some 0, false, mark, d⟩).tone = ToneParams.default := by
  refine ⟨rfl, rfl, rfl, rfl, rfl, rfl, by decide, ?_, ?_, ?_, rfl⟩ <;> unfold Falls <;> decide

theorem witness_BytesExpandAndBlocksAreClassified : 0 < ToneParams.default.groupMargin := by decide

/-- At 128 places, where the two ends of this block agree. -/
theorem witness_LevelsFollowTheResonators : (blockOfFive.map expandSample).length = 100 ∧
    (∀ x ∈ blockOfFive.map expandSample, -4032 ≤ x ∧ x ≤ 4032) ∧
    lowerLevels 128 (blockOfFive.map expandSample) = upperLevels 128 (blockOfFive.map expandSample) := by
  refine ⟨rfl, by decide +kernel, by decide +kernel⟩

/-! ## Witnesses: the test engine -/

theorem free_noneOwed : free.noneOwed := by unfold State.noneOwed; decide

/-- In a settle period, and in a step of a queued test and of a sweep test. -/
theorem witness_StepsFollowInTheirOrder :
    (testing .running (some (test0 .host (some (.settle, 1000#32)) (some .dcv)))).engine.running =
      some (test0 .host (some (.settle, 1000#32)) (some .dcv)) ∧
    (testing .stepping (some (test0 .sweep (some (.measure .dcv, 1000#32)) (some .acv)))).engine.running =
      some (test0 .sweep (some (.measure .dcv, 1000#32)) (some .acv)) ∧
    (testing .stepping (some (test0 .sweep (some (.measure .dcv, 1000#32)) (some .acv)))).engine.queue = [] ∧
    (testing .stepping none).link.resetnLow = false ∧ (testing .stepping none).engine.suspendPending = false ∧
    free.engine.running = none := ⟨rfl, rfl, rfl, rfl, rfl, rfl⟩

/-- A queue of `n` HOST entries for lines 1 to `n`, behind a running test of line 0. -/
def waitingTests (auto : Bool) (n : Nat) : State :=
  let s := testing .running (some (test0 .host (some (.measure .dcv, 1000#32)) (some .acv)))
  { s with engine := { s.engine with queue := (List.range n).map fun i => ⟨Fin.ofNat 32 (i + 1), 1#5, auto, true, false⟩ } }

theorem witness_TestLineIsQueuedOrBegun : free.ready ∧ 32 ≤ (32#8).toNat ∧ 32 ≤ (32#8).toNat ∧ 2 ≤ (2#8).toNat ∧ 31#5 ≠ 0#5 ∧
    (testing .suspended none).ready ∧ (testing .suspended none).engine.state = .suspended ∧
    ((withLine (seizingFrom 3#32)).line 0).hook.state.busy = true ∧ (waitingTests false 8).ready ∧
    (∃ q ∈ (waitingTests false 8).engine.queue, q.line = 8) ∧ (¬ ∃ q ∈ (waitingTests false 8).engine.queue, q.line = 9) ∧
    8 ≤ (waitingTests false 8).engine.queue.length ∧ (waitingTests false 7).engine.queue.length < 8 ∧
    (¬ ∃ q ∈ (waitingTests false 7).engine.queue, q.line = 8) ∧ EngineConsistent free.engine ∧ free.noneOwed ∧
    free.engine.state = .idle ∧ (free.line 31).hook.state.busy = false :=
  ⟨free_ready, by decide, by decide, by decide, by decide, ⟨rfl, rfl, rfl⟩, rfl, rfl, ⟨rfl, rfl, rfl⟩, by decide, by decide, by decide,
   by decide, by decide, idle_consistent, free_noneOwed, rfl, rfl⟩

/-- One line with its owed-test flag at yes. -/
def owing (s : State) : State := s.setLine 5 { s.line 5 with fault := { (s.line 5).fault with owed := true } }

theorem waiting_eight (a : Bool) (n : Nat) (h : n = 7 ∨ n = 8) : LawEight (waitingTests a n) := by
  rcases h with rfl | rfl <;> cases a <;> constructor <;> decide

theorem witness_AutoRequestsAreFiled : (testing .suspended none).engine.state = .suspended ∧ LawEight (waitingTests true 8) ∧
    (waitingTests true 8).engine.state = .running ∧ (∃ q ∈ (waitingTests true 8).engine.queue, q.line = 8 ∧ q.auto = true) ∧
    LawEight (waitingTests false 7) ∧ (∃ q ∈ (waitingTests false 7).engine.queue, q.line = 7 ∧ q.auto = false) ∧
    (∀ q ∈ (waitingTests false 7).engine.queue, q.line ≠ 8) ∧ (waitingTests false 7).engine.queue.length < 8 ∧
    LawEight (waitingTests false 8) ∧ (∀ q ∈ (waitingTests false 8).engine.queue, q.line ≠ 9) ∧
    (waitingTests false 8).engine.queue.length = 8 ∧ free.engine.state ≠ .suspended ∧ free.noneOwed ∧
    ((owing (waitingTests false 7)).line 5).fault.owed = true ∧
    (∀ m : Line, m < 5 → ((owing (waitingTests false 7)).line m).fault.owed = false) ∧ free.engine.state = .idle ∧
    EngineConsistent free.engine ∧ (free.line 31).hook.state.busy = false ∧ (withLine (seizingFrom 3#32)).engine.state = .idle ∧
    EngineConsistent (withLine (seizingFrom 3#32)).engine ∧ ((withLine (seizingFrom 3#32)).line 0).hook.state.busy = true :=
  ⟨rfl, waiting_eight _ _ (.inr rfl), rfl, by decide, waiting_eight _ _ (.inl rfl), by decide, by decide, by decide,
   waiting_eight _ _ (.inr rfl), by decide, by decide, by decide, free_noneOwed, by decide, by decide, rfl, idle_consistent, rfl, rfl,
   idle_consistent, rfl⟩

/-- Nothing to abort; a test in flight; and a test held by suspension. -/
theorem witness_AbortTestTakesEveryAction : free.ready ∧ 32 ≤ (32#8).toNat ∧ EngineConsistent free.engine ∧ free.noneOwed ∧
    free.engine.running = none ∧ free.engine.queue = [] ∧ free.engine.heldSweep = none ∧
    (testing .running (some (test0 .host (some (.settle, 9#32)) (some .dcv)))).ready ∧
    EngineConsistent (testing .running (some (test0 .host (some (.settle, 9#32)) (some .dcv)))).engine ∧
    (testing .running (some (test0 .host (some (.settle, 9#32)) (some .dcv)))).noneOwed ∧
    (test0 .host (some (.settle, 9#32)) (some .dcv)).phase.isSome = true ∧
    (testing .suspended (some (test0 .host none (some .acv)))).ready ∧
    EngineConsistent (testing .suspended (some (test0 .host none (some .acv)))).engine ∧
    (testing .suspended (some (test0 .host none (some .acv)))).noneOwed ∧
    LawEleven (testing .suspended (some (test0 .host none (some .acv)))) ∧
    FreeMeansNothingToSend (testing .suspended (some (test0 .host none (some .acv)))) :=
  ⟨free_ready, by decide, idle_consistent, free_noneOwed, rfl, rfl, rfl, ⟨rfl, rfl, rfl⟩,
   testing_consistent _ _ rfl (.inl ⟨rfl, by decide⟩), free_noneOwed, rfl, ⟨rfl, rfl, rfl⟩, held_consistent _ rfl (by decide),
   free_noneOwed, ⟨free_eleven.1, free_eleven.2, free_eleven.3, free_eleven.4, free_eleven.5, free_eleven.6, free_eleven.7⟩,
   fun _ _ => ⟨rfl, rfl, rfl, rfl⟩⟩

theorem suspended_sweep (c : Option TestCtx) (h : ∀ x, c = some x → x.origin ≠ .sweep) :
    SweepTimerLaw (testing .suspended c).engine := by
  have hs : ¬ (testing .suspended c).engine.sweeping := by
    simpa [Engine.sweeping, testing, free, State.reset, Engine.powerUp] using h
  constructor <;> simp [hs] <;> simp [testing, free, State.reset, Engine.powerUp]

/-- A suspended engine with nothing to do, with a held test of an idle line, and with one of a busy line; an owed line; an alarm. -/
theorem witness_ResumeTestsLeavesSuspended : free.ready ∧ free.engine.state ≠ .suspended ∧ (testing .suspended none).ready ∧
    (testing .suspended none).engine.state = .suspended ∧ (∀ m, ((testing .suspended none).line m).lsu.ovActive = false) ∧
    EngineConsistent (testing .suspended none).engine ∧ SweepTimerLaw (testing .suspended none).engine ∧
    (testing .suspended none).noneOwed ∧
    EngineConsistent (testing .suspended (some (test0 .host none (some .acv)))).engine ∧
    SweepTimerLaw (testing .suspended (some (test0 .host none (some .acv)))).engine ∧
    ((testing .suspended (some (test0 .host none (some .acv)))).line 0).hook.state.busy = false ∧
    (((testing .suspended (some (test0 .host none (some .acv)))).setLine 0 (seizingFrom 3#32)).line 0).hook.state.busy = true ∧
    ((owing (testing .suspended none)).line 5).fault.owed = true ∧
    (∀ k : Line, k ≠ 5 → ((owing (testing .suspended none)).line k).fault.owed = false) ∧
    ((owing (testing .suspended none)).line 5).hook.state.busy = false ∧
    ∃ m, (((testing .suspended none).setLine 0 { free.line 0 with
      lsu := { (free.line 0).lsu with ovActive := true } }).line m).lsu.ovActive = true :=
  ⟨free_ready, by decide, ⟨rfl, rfl, rfl⟩, rfl, by decide,
   by constructor <;> simp [testing, free, State.reset, Engine.powerUp], suspended_sweep _ (by simp), free_noneOwed,
   held_consistent _ rfl (by decide), suspended_sweep _ (by simp [test0]), rfl, rfl, by decide, by decide, by decide, 0, rfl⟩

/-- `free` whose sweep timer is due at part time 2000, with line 0 in a record. -/
theorem witness_SweepTimerStartsTheSweep (h : HookState) : (withLine (lineIn h)).link.resetnLow = false ∧
    EngineConsistent (withLine (lineIn h)).engine ∧ (withLine (lineIn h)).engine.sweepTimer = .running 2000#32 ∧
    (withLine (lineIn h)).engine.sweepTimer ≠ .running 1999#32 ∧ (withLine (lineIn h)).engine.state = .idle ∧
    (withLine (lineIn h)).engine.sweepEnabled = true ∧ (withLine (lineIn h)).engine.cursor + 1 = 0 ∧
    ((withLine (lineIn h)).line 0).hook.state = h ∧ (testing .running none).engine.sweepTimer = .running 2000#32 ∧
    EngineConsistent (testing .running (some (test0 .host (some (.settle, 9#32)) (some .dcv)))).engine :=
  ⟨rfl, idle_consistent, rfl, (by decide : SweepTimer.running 2000#32 ≠ .running 1999#32), rfl, rfl,
   (by decide : (31 : Line) + 1 = 0), by rw [line_withLine]; rfl, rfl,
   testing_consistent _ _ rfl (.inl ⟨rfl, by decide⟩)⟩

/-- `testing` with a test whose DCV step is in flight until part time 1000, a queue, and suspension pending or not. -/
def stepping (st : EngineState) (origin : Origin) (next : Option Step) (queue : List TestReq) (pending : Bool) : State :=
  let s := testing st (some (test0 origin (some (.measure .dcv, 1000#32)) next))
  { s with engine := { s.engine with queue := queue, suspendPending := pending } }

/-- `free` between two phases: a queue, a held sweep, a due sweep and suspension pending, with line 0 in a record. -/
def choosing (r : LineRec) (queue : List TestReq) (held : Option SweepCtx) (due pending : Bool) : State :=
  let s := withLine r
  { s with engine := { s.engine with
    state := .running, queue := queue, heldSweep := held, sweepDue := due, suspendPending := pending } }

/-- Suspension pending; a head that is eligible, forced, or dropped with and without an event; a held sweep of an IDLE line and of
another; a due sweep at an IDLE line and at another; and nothing to do. -/
theorem witness_EngineTakesFirstWorkThatApplies (h : HookState) (queue : List TestReq) (held : Option SweepCtx) (due pending : Bool) :
    let s := choosing (lineIn h) queue held due pending
    s.engine.suspendPending = pending ∧ s.engine.queue = queue ∧ s.engine.heldSweep = held ∧ s.engine.sweepDue = due ∧
    (s.line 0).hook.state = h ∧ s.engine.cursor + 1 = 0 :=
  ⟨rfl, rfl, rfl, rfl, by simp only [choosing]; exact congrArg (fun r => r.hook.state) (line_withLine _ _),
   (by decide : (31 : Line) + 1 = 0)⟩

/-- A line whose next over-voltage indication completes a run. -/
def crossing (h : HookState) : LineRec := { lineIn h with lsu := { (lineIn h).lsu with ovRun := 2 } }

/-- A quarantined line, one CLEAR verdict short of its release, whose next over-voltage indication completes a run. -/
def nearlyClear : LineRec := { crossing .quarantined with fault := ⟨0#6, 1, some 1000#32, false⟩ }

/-- That line with the DCV step, the last of its test, completing at the same instant; `crossed` says that a suspension request waits
behind the completion. -/
def meeting (crossed : Bool) : State := { withLine nearlyClear with
  engine := (testing .running (some { test0 .host (some (.measure .dcv, 1000#32)) none with crossed := crossed })).engine }

/-- Suspension pending with steps left, in a queued test and in a sweep test; a sweep test that meets a request for another line, and
one for its own; the last step; and an abort requested. -/
theorem witness_TestsAreHeldYieldAndEnd (st : EngineState) (origin : Origin) (next : Option Step) (queue : List TestReq)
    (pending : Bool) :
    let s := stepping st origin next queue pending
    let c := test0 origin (some (.measure .dcv, 1000#32)) next
    s.link.resetnLow = false ∧ s.engine.running = some c ∧
    c.completes 1000#32 (.stepCompletion 1000#32 (-251) 3) ⟨some (-250, 3), none, none, none, none⟩ ∧
    (test0 origin (some (.settle, 1000#32)) next).completes 1000#32 (.settlePeriodCompletion 1000#32) c.values ∧
    (meeting true).engine.running = some { test0 .host (some (.measure .dcv, 1000#32)) none with crossed := true } ∧
    c.abortRequested = false ∧ { c with abortRequested := true }.abortRequested = true ∧ c.phase ≠ some (.settle, 1000#32) ∧
    c.next = next ∧ c.origin = origin ∧ s.engine.state = st ∧ s.engine.suspendPending = pending ∧ s.engine.queue = queue ∧ s.noneOwed ∧
    s.engine.heldSweep = none ∧ s.engine.sweepDue = false ∧ (s.line 0).hook.state.busy = false ∧ (s.line 1).hook.state.busy = false :=
  ⟨rfl, rfl, .inr ⟨.dcv, -251, 3, rfl, rfl, rfl⟩, .inl ⟨rfl, rfl, rfl⟩, rfl, rfl, rfl,
   (by simp [test0]), rfl, rfl, rfl, rfl, rfl, free_noneOwed, rfl, rfl, rfl, rfl⟩

theorem witness_EngineStatesTimerAndQueueAreKept : EngineConsistent (testing .suspended none).engine ∧
    SweepTimerLaw (testing .suspended none).engine ∧
    (∃ t, step { testing .suspended none with pending := [.resumeTests 9#32] } = .next t) ∧
    LawEight { waitingTests false 7 with pending := [.testLine 9#32 8#8 1#8 0#8] } ∧
    (∃ t, step { waitingTests false 7 with pending := [.testLine 9#32 8#8 1#8 0#8] } = .next t) ∧
    EngineConsistent (meeting true).engine ∧ CrossWaits (meeting true).engine ∧
    ∃ t, step { meeting true with pending := [.abortTest 9#32 0#8] } = .next t := by
  refine ⟨by constructor <;> simp [testing, free, State.reset, Engine.powerUp], suspended_sweep _ (by simp), ⟨_, rfl⟩,
    ⟨(waiting_eight false 7 (.inl rfl)).1, (waiting_eight false 7 (.inl rfl)).2, (waiting_eight false 7 (.inl rfl)).3⟩, ⟨_, rfl⟩,
    testing_consistent _ _ rfl (.inl ⟨rfl, by simp [test0]⟩), fun c h _ => ?_, _, rfl⟩
  cases h
  exact ⟨rfl, _, _, rfl⟩

/-- A test in flight on line 0, on the bus. -/
def onBus : State := (testing .running (some (test0 .host (some (.settle, 9#32)) (some .dcv)))).onBus 0

theorem witness_LawNineIsKept : PoolLaws onBus ∧ EngineConsistent onBus.engine ∧ LawNine onBus ∧
    ∃ t, step { onBus with pending := [.settlePeriodCompletion 9#32] } = .next t := by
  refine ⟨poolLaws_of_empty (by decide) rfl (by decide), testing_consistent _ _ rfl (.inl ⟨rfl, by decide⟩), ?_, _, rfl⟩
  constructor
  · intro l
    have h : (onBus.line l).test.onTestBus = true ↔ 0 = l := by revert l; decide
    rw [h]
    constructor
    · intro e; exact ⟨_, rfl, rfl, e⟩
    · rintro ⟨c, hc, -, rfl⟩
      cases hc; rfl
  · decide
  · decide
  · intro r rec h
    have hn : ∀ r, onBus.receiver r = none := by decide
    simp [hn r] at h

/-! ## Witnesses: faults and samples -/

theorem withLine_one_calls (h : HookState) (hs : h ≠ .seizing) (hb : h ≠ .onBreak) : CallLaws (withLine (lineIn h)) :=
  withLine_calls (lineIn_consistent h hs hb)

theorem seizing_consistent (t : Time) : (seizingFrom t).consistent := by
  constructor <;> simp [seizingFrom, lineIn, LineRec.powerUp, HookState.busy]

/-- A line in service and clear, a busy line, a resting line, and lines in quarantine with a clear count short of and at the last. -/
theorem witness_VerdictsAreFormedAndActedOn : CallLaws (withLine (lineIn .outOfService)) ∧ CallLaws (withLine (lineIn .idle)) ∧
    CallLaws (withLine (lineIn .learning)) ∧ CallLaws (withLine (lineIn .quarantined)) ∧ CallLaws (withLine (seizingFrom 3#32)) ∧
    (seizingFrom 3#32).hook.state.busy = true ∧ (lineIn .idle).prof.working.quarantineOnFault = true ∧
    (lineIn .idle).pool.receiver = none ∧ (lineIn .idle).pool.waiting = false ∧
    CallLaws (withLine { lineIn .quarantined with fault := ⟨0#6, 1, some 1000#32, false⟩ }) ∧
    0 + 1 < (lineIn .quarantined).prof.working.clearCount ∧ (lineIn .quarantined).prof.working.clearCount ≤ 1 + 1 :=
  ⟨withLine_one_calls _ (by decide) (by decide), withLine_one_calls _ (by decide) (by decide),
   withLine_one_calls _ (by decide) (by decide), withLine_one_calls _ (by decide) (by decide),
   withLine_calls (seizing_consistent _), rfl, rfl, rfl, rfl, withLine_calls (by constructor <;> decide), by decide, by decide⟩

theorem witness_AckReleaseAndRetest : free.ready ∧ 32 ≤ (32#8).toNat ∧ 64 ≤ (64#8).toNat ∧ (free.line 31).hook.state ≠ .quarantined ∧
    (withLine (lineIn .quarantined)).ready ∧ ((withLine (lineIn .quarantined)).line 0).hook.state = .quarantined ∧
    ((withLine (lineIn .quarantined)).line 0).fault.retestDue = some 1000#32 ∧
    ((withLine (lineIn .quarantined)).line 0).lsu.ovActive = false ∧ (withLine (lineIn .quarantined)).engine.state ≠ .suspended ∧
    ((withLine { lineIn .quarantined with lsu := { (lineIn .quarantined).lsu with ovActive := true } }).line 0).lsu.ovActive = true :=
  ⟨free_ready, by decide, by decide, by decide, withLine_ready _, rfl, rfl, rfl, by decide, rfl⟩

theorem withLine_periodsOf {r : LineRec} (hp : r.lsu.period = periodOf r.hook.state .normal)
    (hn : r.lsu.nextSample = none ↔ r.lsu.period = .notSampled) : PeriodsFollow (withLine r) := by
  have h : ∀ l, (LineRec.powerUp l).lsu.period = periodOf (LineRec.powerUp l).hook.state .normal ∧
      ((LineRec.powerUp l).lsu.nextSample = none ↔ (LineRec.powerUp l).lsu.period = .notSampled) := by decide
  constructor <;> intro l <;> rw [line_withLine] <;> split
  · exact hp
  · exact (h l).1
  · exact hn
  · exact (h l).2

theorem withLine_periods (h : HookState) : PeriodsFollow (withLine (lineIn h)) :=
  withLine_periodsOf rfl (by cases h <;> decide)

/-- `withLine` with a test of line `m` in its settle period. -/
def crossedTest (h : HookState) (m : Line) : State := { withLine (crossing h) with
  engine := (testing .running (some { test0 .host (some (.settle, 9#32)) (some .dcv) with line := m })).engine }

/-- On an idle line and on one in quarantine: with the engine IDLE, and with a test in flight on the line itself and on another. -/
theorem witness_PowerCrossIsolatesTheLine (h : HookState) (m : Line) (hs : h = .idle ∨ h = .quarantined) :
    (withLine (crossing h)).due 1000#32 0 ∧ CallLaws (withLine (crossing h)) ∧ PoolLaws (withLine (crossing h)) ∧
    EngineConsistent (withLine (crossing h)).engine ∧ ((withLine (crossing h)).line 0).lsu.completesRun true = true ∧
    ((withLine (crossing h)).line 0).hook.state ≠ .outOfService ∧ (withLine (crossing h)).engine.state = .idle ∧
    (crossedTest h m).due 1000#32 0 ∧ CallLaws (crossedTest h m) ∧ PoolLaws (crossedTest h m) ∧
    EngineConsistent (crossedTest h m).engine ∧ ((crossedTest h m).line 0).lsu.completesRun true = true ∧
    (crossedTest h m).engine.running = some { test0 .host (some (.settle, 9#32)) (some .dcv) with line := m } := by
  have hc : CallLaws (withLine (crossing h)) := by
    rcases hs with rfl | rfl <;> exact withLine_calls (by constructor <;> decide)
  have hp : PoolLaws (withLine (crossing h)) := withLine_pool ⟨rfl, rfl⟩
  refine ⟨⟨rfl, ?_⟩, hc, hp, idle_consistent, rfl, ?_, rfl, ⟨rfl, ?_⟩, hc, ⟨hp.1, hp.2, hp.3, hp.4, hp.5, hp.6, hp.7⟩,
    testing_consistent _ _ rfl (.inl ⟨rfl, by simp [test0]⟩), rfl, rfl⟩ <;> rcases hs with rfl | rfl <;>
    first | rfl | decide

/-- The last two rows of R137: the power cross and a CLEAR verdict, the clear count at its last but one. -/
theorem witness_PowerCrossIsolatesTheLine_verdict : (meeting false).due 1000#32 0 ∧ CallLaws (meeting false) ∧
    PoolLaws (meeting false) ∧ EngineConsistent (meeting false).engine ∧ PeriodsFollow (meeting false) ∧
    ((meeting false).line 0).lsu.completesRun true = true ∧ ((meeting false).line 0).hook.state = .quarantined ∧
    (meeting false).engine.running = some (test0 .host (some (.measure .dcv, 1000#32)) none) ∧ (meeting false).engine.queue = [] ∧
    (meeting false).engine.heldSweep = none ∧ (meeting false).engine.sweepDue = false ∧
    verdictOf ((test0 .host none none).values.record .dcv (-10) 3) nearlyClear.prof.working = 0#6 ∧
    1 < nearlyClear.prof.working.clearCount ∧ nearlyClear.prof.working.clearCount ≤ nearlyClear.fault.clearCount + 1 := by
  have hp : PoolLaws (withLine nearlyClear) := withLine_pool ⟨rfl, rfl⟩
  have hf : PeriodsFollow (withLine nearlyClear) := withLine_periodsOf rfl (by decide)
  exact ⟨⟨rfl, rfl⟩, withLine_calls (r := nearlyClear) (by constructor <;> decide), ⟨hp.1, hp.2, hp.3, hp.4, hp.5, hp.6, hp.7⟩,
    testing_consistent _ _ rfl (.inl ⟨rfl, by simp [test0]⟩), ⟨hf.1, hf.2⟩, rfl, rfl, rfl, rfl, rfl, rfl, by decide, by decide, by decide⟩

/-- R137, last row: the power cross taken first has set the clear count to 0, and the CLEAR verdict that follows brings it to 1. -/
theorem test_clear_after_power_cross : ∃ t,
    exec (.stepCompletion 1000#32 (-10) 3) ((meeting true).modFault 0 fun f => { f with clearCount := 0 }) = .next t ∧
    (t.line 0).fault.clearCount = 1 ∧ (t.line 0).hook.state = .quarantined ∧ t.engine.state = .suspended :=
  ⟨_, rfl, by decide +kernel⟩

/-- Every period change, and the last moment before the count's end for which the next boundary is claimed. -/
theorem witness_SamplePeriodsAndBoundaries : (4294967287#32 : Time).toNat + 8 < 2 ^ 32 ∧ (0#32 : Time).toNat + 8 < 2 ^ 32 ∧
    periodOf .idle .economy ≠ (lineIn .idle).lsu.period ∧ periodOf .idle .normal = (lineIn .idle).lsu.period := by decide

theorem default_valid : Profile.default.valid := by unfold Profile.valid; decide

theorem witness_BaselinesAndThresholds : 4096 * 200 ≤ 4096 * 200 ∧ 0 ≤ 4096 * 0 ∧ Profile.default.valid ∧
    4096 * 80 ≤ 4096 * Profile.default.leakMax := ⟨by decide, by decide, default_valid, by decide⟩

/-- A line's record with its settle end at a time, or on the bus. -/
def settlingAt (r : LineRec) (e : Time) : LineRec := { r with lsu := { r.lsu with settleEnd := some e } }

/-- A sample before its time; one on the bus, one before the settle end and one in quarantine; and, at the settle end itself and
after it, one of each state, those included in which it changes the hook state.  A settle end of 2 to the 31 ms ago has passed. -/
theorem witness_SamplesAreSetAsideUntilTheWindowEnds : (withLine (lineIn .idle)).due 1000#32 0 ∧
    (lineIn .idle).lsu.nextSample ≠ some 998#32 ∧ (lineIn .idle).lsu.completesRun true = false ∧
    ({ lineIn .idle with test := ⟨true, true, none⟩ } : LineRec).test.onTestBus = true ∧ earlier 20 1000#32 1001#32 = true ∧
    earlier 20 1000#32 1020#32 = true ∧ earlier 20 1000#32 1000#32 = false ∧ earlier 20 0x80000001#32 1#32 = false ∧
    (lineIn .quarantined).clear ∧ (withLine (settlingAt (lineIn .idle) 1000#32)).due 1000#32 0 ∧
    (settlingAt (lineIn .idle) 1000#32).lsu.completesRun true = false ∧
    (settlingAt (lineIn .learning) 1000#32).lsu.settleEnd = some 1000#32 ∧
    (withLine (settlingAt (seizingFrom 3#32) 1000#32)).due 1000#32 0 ∧
    (settlingAt (seizingFrom 3#32) 1000#32).test.onTestBus = false ∧
    (settlingAt (seizingFrom 3#32) 1000#32).lsu.settleEnd = some 1000#32 ∧ (lineIn .seizing).prof.working.valid ∧
    (settlingAt (seizingFrom 3#32) 1000#32).consistent ∧ (seizingFrom 3#32).lsu.tSeize ≤ min 60 1200 ∧
    (settlingAt (pulsing 3#32 1) 1000#32).consistent ∧ (pulsing 3#32 1).lsu.tRel ≤ min 40 1200 ∧
    (settlingAt (breaking 3#32 1) 1000#32).consistent ∧ min 59 1200 < (breaking 3#32 1).lsu.tSeize ∧
    (settlingAt (lineIn .quarantined) 1000#32).consistent ∧ (settlingAt (lineIn .quarantined) 1000#32).pool.receiver = none :=
  ⟨⟨rfl, rfl⟩, by decide, rfl, rfl, by decide, by decide, by decide, by decide, ⟨rfl, rfl⟩, ⟨rfl, rfl⟩, rfl, rfl, ⟨rfl, rfl⟩, rfl, rfl,
   default_valid, by constructor <;> decide, by decide, by constructor <;> decide, by decide, by constructor <;> decide, by decide,
   by constructor <;> decide, rfl⟩

/-- Before the learning end and at it, below and at the seize threshold. -/
theorem witness_LearningSamples : (withLine (lineIn .learning)).due 1000#32 0 ∧ (lineIn .learning).consistent ∧
    PeriodsFollow (withLine (lineIn .learning)) ∧ (lineIn .learning).lsu.completesRun false = false ∧ (lineIn .learning).clear ∧
    (lineIn .learning).hook.state = .learning ∧ (lineIn .learning).lsu.learningEnd = some 1000#32 ∧
    earlier 512 1000#32 1000#32 = false ∧ earlier 512 998#32 1000#32 = true ∧ min 59 1200 < (lineIn .learning).lsu.tSeize ∧
    (lineIn .learning).lsu.tSeize ≤ min 60 1200 :=
  ⟨⟨rfl, rfl⟩, by constructor <;> decide, withLine_periods _, rfl, ⟨rfl, rfl⟩, rfl, rfl, by decide, by decide, by decide, by decide⟩

/-- A line whose baseline stands at its clamp, with a clamp running since part time 1 or none. -/
def pressed (clamp : Option LeakClamp) : LineRec := { lineIn .idle with
  lsu := { (lineIn .idle).lsu with baseline := 327680, tSeize := 140, tRel := 120, leakClamp := clamp } }

theorem witness_RestingSamples : (withLine (lineIn .idle)).due 1000#32 0 ∧ (lineIn .idle).lsu.completesRun false = false ∧
    (lineIn .idle).clear ∧ (lineIn .idle).hook.state = .idle ∧ (lineIn .idle).lsu.tSeize ≤ min 60 1200 ∧
    min 59 1200 < (lineIn .idle).lsu.tSeize ∧ (withLine (pressed none)).due 1000#32 0 ∧ (pressed none).lsu.leakClamp = none ∧
    (updatedBaseline 327680 81 7 80 = 4096 * 80 ∧ 80 < min 81 1200) ∧ min 81 1200 < (pressed none).lsu.tSeize ∧
    updatedBaseline 0 81 7 80 ≠ 4096 * 80 ∧ (pressed (some ⟨1#32, 1000⟩)).lsu.leakClamp = some ⟨1#32, 1000⟩ ∧
    elapsed 1000#32 1#32 < 1000 ∧ 999 ≤ elapsed 1000#32 1#32 :=
  ⟨⟨rfl, rfl⟩, rfl, ⟨rfl, rfl⟩, rfl, by decide, by decide, ⟨rfl, rfl⟩, rfl, by decide, by decide, by decide, rfl, by decide, by decide⟩

/-- Before seizeTime and at it, at the seize threshold and below it, with each pending flag. -/
theorem witness_SeizingSamples (q p : Bool) :
    (withLine { seizingFrom 970#32 with hook := { (seizingFrom 970#32).hook with pendingQuarantine := q, pendingProfile := p } }).due
      1000#32 0 ∧ (seizingFrom 970#32).lsu.completesRun false = false ∧ (seizingFrom 970#32).clear ∧
    (seizingFrom 970#32).hook.state = .seizing ∧ (seizingFrom 970#32).hook.runStart = some 970#32 ∧
    (seizingFrom 970#32).lsu.tSeize ≤ min 60 1200 ∧ min 59 1200 < (seizingFrom 970#32).lsu.tSeize ∧
    (seizingFrom 970#32).prof.working.seizeTime ≤ elapsed 1000#32 970#32 ∧
    elapsed 1000#32 971#32 < (seizingFrom 971#32).prof.working.seizeTime :=
  ⟨⟨rfl, rfl⟩, rfl, ⟨rfl, rfl⟩, rfl, rfl, by decide, by decide, by decide, by decide⟩

/-- The interdigit time reached and not, each pulse count at the ends of its range; and breaks at each limit. -/
theorem witness_OffHookAndBreakSamples : (withLine (pulsing 800#32 1)).due 1000#32 0 ∧ (pulsing 800#32 1).lsu.completesRun false = false ∧
    (pulsing 800#32 1).clear ∧ (pulsing 800#32 1).hook.state = .offHook ∧ (pulsing 800#32 1).hook.makeStart = some 800#32 ∧
    (pulsing 800#32 1).prof.working.interdigit ≤ elapsed 1000#32 800#32 ∧
    elapsed 1000#32 801#32 < (pulsing 801#32 1).prof.working.interdigit ∧
    ((1 = (1 : Key).val ∧ 1 ≤ 1 ∧ 1 ≤ 9) ∧ (9 = (9 : Key).val ∧ 1 ≤ 9 ∧ 9 ≤ 9)) ∧ (pulsing 800#32 11).hook.pulseCount = 11 ∧
    (withLine (breaking 984#32 1)).due 1000#32 0 ∧ (breaking 984#32 1).clear ∧ (breaking 984#32 1).hook.state = .onBreak ∧
    (breaking 984#32 1).hook.breakStart = some 984#32 ∧
    ((breaking 984#32 1).prof.working.hitMax < (breaking 984#32 1).prof.working.pulseMax ∧
      (breaking 984#32 1).prof.working.pulseMax < (breaking 984#32 1).prof.working.flashMin) ∧
    elapsed 1000#32 201#32 < (breaking 201#32 0).prof.working.releaseMin ∧
    elapsed 1000#32 985#32 < (breaking 985#32 1).prof.working.hitMax ∧
    (breaking 984#32 1).prof.working.hitMax ≤ elapsed 1000#32 984#32 ∧
    ((breaking 909#32 11).prof.working.pulseMax < elapsed 1000#32 909#32 ∧ (breaking 909#32 11).hook.pulseCount = 11) ∧
    elapsed 1000#32 910#32 ≤ (breaking 910#32 1).prof.working.pulseMax ∧
    (breaking 910#32 1).prof.working.pulseMax ≤ elapsed 1000#32 910#32 ∧
    (breaking 909#32 0).prof.working.pulseMax < elapsed 1000#32 909#32 ∧
    elapsed 1000#32 881#32 < (breaking 881#32 0).prof.working.flashMin ∧
    (breaking 880#32 0).prof.working.flashMin ≤ elapsed 1000#32 880#32 :=
  ⟨⟨rfl, rfl⟩, rfl, ⟨rfl, rfl⟩, rfl, rfl, by decide, by decide, by decide, rfl, ⟨rfl, rfl⟩, ⟨rfl, rfl⟩, rfl, rfl, by decide, by decide,
   by decide, by decide, ⟨by decide, rfl⟩, by decide, by decide, by decide, by decide, by decide⟩

/-- A break that has lasted releaseMin, with a pulse count and each pending flag. -/
def releasing (n : Nat) (q p : Bool) : LineRec := { breaking 200#32 n with
  hook := { (breaking 200#32 n).hook with pendingQuarantine := q, pendingProfile := p } }

theorem releasing_laws (n : Nat) (hn : n ≤ 11) (q p : Bool) : (releasing n q p).consistent := by
  constructor <;> simp [releasing, breaking, pulsing, lineIn, LineRec.powerUp, HookState.busy, HookState.inCall, Profile.default, hn]

theorem witness_ReleaseReturnsToIdle (n : Nat) (hn : n ≤ 11) (q p : Bool) : (withLine (releasing n q p)).due 1000#32 0 ∧
    CallLaws (withLine (releasing n q p)) ∧ PoolLaws (withLine (releasing n q p)) ∧
    (releasing n q p).lsu.completesRun false = false ∧ (releasing n q p).clear ∧ (releasing n q p).hook.state = .onBreak ∧
    (releasing n q p).hook.breakStart = some 200#32 ∧ (releasing n q p).prof.working.releaseMin ≤ elapsed 1000#32 200#32 ∧
    (releasing n q p).prof.working.pulseMax < elapsed 1000#32 200#32 ∧ (releasing n q p).hook.pulseCount = n ∧
    (releasing n q p).hook.pendingQuarantine = q ∧ (releasing n q p).hook.pendingProfile = p :=
  ⟨⟨rfl, rfl⟩, withLine_calls (releasing_laws n hn q p), withLine_pool ⟨rfl, rfl⟩, rfl, ⟨rfl, rfl⟩, rfl, rfl,
   (by decide : (800 : Nat) ≤ 800), (by decide : (90 : Nat) < 800), rfl, rfl, rfl⟩

theorem free_valid : ProfilesValid free := by
  have h : ∀ l, free.working l = Profile.default := by decide
  have h' : ∀ p, free.profile p = Profile.default := by decide
  exact ⟨fun p => h' p ▸ default_valid, fun l => h l ▸ default_valid⟩

theorem witness_LinesStayBounded : LinesBounded { free with pending := [.sampleRecord 2#32 0 1200 false] } ∧
    ∃ t, step { free with pending := [.sampleRecord 2#32 0 1200 false] } = .next t := by
  refine ⟨⟨⟨free_valid.1, free_valid.2⟩, fun l => ?_, fun l => ?_⟩, _, rfl⟩
  · constructor <;> revert l <;> decide
  · revert l; decide

theorem witness_PeriodsFollowStateAndMode :
    PeriodsFollow { withLine (lineIn .outOfService) with pending := [.setServiceIn 2#32 0#8] } ∧
    ∃ t, step { withLine (lineIn .outOfService) with pending := [.setServiceIn 2#32 0#8] } = .next t :=
  ⟨⟨(withLine_periods .outOfService).1, (withLine_periods .outOfService).2⟩, _, rfl⟩

/-- A time off the grid and the two readings at the edges of the band of index 2. -/
theorem witness_BatteryReadingsAreJudged : free.link.resetnLow = false ∧ SettingsLaws free ∧ (1001#32 : Time).toNat % 1000 ≠ 0 ∧
    (1000#32 : Time).toNat % 1000 = 0 ∧ (1000#32 : Time) ≠ 0#32 ∧ free.battery.state = .normal ∧ free.battery.setting = .auto ∧
    40 + 2 * free.battery.index.val = 44 := ⟨rfl, free_settings, by decide, by decide, by decide, rfl, rfl, rfl⟩

end Sys2Proof.Tests
end

/-! SUPPORT. The tap's byte bit by bit, a sample's expansion in plain arithmetic, and a block's class by the four tests (R68, R69,
R86, R87), and with them O34. -/

namespace Sys2Proof.Machine

/-! ## The tap's byte (R68) -/

theorem tapByte_getMsbD (frame : HighwayFrame) (slot : Timeslot) {i : Nat} (hi : i < 8) :
    (tapByte frame slot).getMsbD i = frame.getMsbD (8 * slot.val + i) := by
  have hslot := slot.isLt
  have hframe : 8 * slot.val + i < 512 := by omega
  have hpos : 504 - 8 * slot.val + (7 - i) = 511 - (8 * slot.val + i) := by omega
  have hlow : 7 - i < 8 := by omega
  simp [tapByte, BitVec.getMsbD, hi, hframe, hlow, hpos]

/-! ## The expansion of a highway byte (R69) -/

/-- The step magnitude of a segment and a step within it (R69). -/
def stepMagnitude (seg q : Nat) : Nat := if seg = 0 then 2 * q + 1 else (2 * q + 33) * 2 ^ (seg - 1)

theorem stepMagnitude_pos (seg q : Nat) : 0 < stepMagnitude seg q := by
  unfold stepMagnitude
  split <;> positivity

/-- The largest magnitude is that of the last step, 15, of the last segment, 7. -/
theorem stepMagnitude_le {seg q : Nat} (hseg : seg < 8) (hq : q < 16) : stepMagnitude seg q ≤ 4032 := by
  unfold stepMagnitude
  split
  · omega
  · calc (2 * q + 33) * 2 ^ (seg - 1) ≤ 63 * 2 ^ 6 :=
          Nat.mul_le_mul (by omega) (Nat.pow_le_pow_right (by omega) (by omega))
      _ = 4032 := by norm_num

/-- The sign is bit 7 of the inverted byte, the segment bits 6 to 4, the step bits 3 to 0 (R69). -/
theorem expandSample_eq (code : Byte) :
    let v := (code ^^^ 0x55#8).toNat
    expandSample code =
      if 128 ≤ v then (stepMagnitude (v / 16 % 8) (v % 16) : Int) else -(stepMagnitude (v / 16 % 8) (v % 16) : Int) := by
  intro v
  have hv : v < 256 := (code ^^^ 0x55#8).isLt
  have hsign : (code ^^^ 0x55#8).getLsbD 7 = decide (128 ≤ v) := BitVec.msb_eq_decide (code ^^^ 0x55#8)
  have hseg : ((code ^^^ 0x55#8).extractLsb' 4 3).toNat = v / 16 % 8 := by
    simp [v, BitVec.extractLsb'_toNat, Nat.shiftRight_eq_div_pow]
  have hstep : ((code ^^^ 0x55#8).extractLsb' 0 4).toNat = v % 16 := by
    simp [v, BitVec.extractLsb'_toNat]
  simp only [expandSample, hsign, hseg, hstep, decide_eq_true_eq, stepMagnitude]

theorem expandSample_bounds (code : Byte) :
    -4032 ≤ expandSample code ∧ expandSample code ≤ 4032 ∧ expandSample code ≠ 0 := by
  rw [expandSample_eq code]
  generalize (code ^^^ 0x55#8).toNat = v
  have hpos := stepMagnitude_pos (v / 16 % 8) (v % 16)
  have hle := stepMagnitude_le (Nat.mod_lt (v / 16) (by decide : 0 < 8)) (Nat.mod_lt v (by decide : 0 < 16))
  split <;> omega

/-! ## The strongest of a group (R86) -/

/-- Position `i` holds a largest level of a group, and `rest` is the largest of the other three. -/
structure StrongestAt (v : Fin 4 → Int) (i : Fin 4) (rest : Int) : Prop where
  rest_le : rest ≤ v i
  le_rest : ∀ k, k ≠ i → v k ≤ rest
  attained : ∃ k, k ≠ i ∧ v k = rest

theorem strongestAt_max {v : Fin 4 → Int} {i : Fin 4} (a b c : Fin 4)
    (hothers : ∀ k, k ≠ i ↔ k = a ∨ k = b ∨ k = c) (htop : ∀ k, v k ≤ v i) :
    StrongestAt v i (max (v a) (max (v b) (v c))) where
  rest_le := max_le (htop a) (max_le (htop b) (htop c))
  le_rest k hk := by
    obtain rfl | rfl | rfl := (hothers k).1 hk <;> simp
  attained := by
    obtain h | h := max_choice (v a) (max (v b) (v c))
    · exact ⟨a, (hothers a).2 (.inl rfl), h.symm⟩
    obtain h' | h' := max_choice (v b) (v c)
    · exact ⟨b, (hothers b).2 (.inr (.inl rfl)), (h.trans h').symm⟩
    · exact ⟨c, (hothers c).2 (.inr (.inr rfl)), (h.trans h').symm⟩

/-- What `strongest` answers: a position with a largest level, that level, and the largest of the other three. -/
theorem strongest_eq (v : Fin 4 → Int) :
    ∃ i rest, strongest (v 0) (v 1) (v 2) (v 3) = (v i, i, rest) ∧ StrongestAt v i rest := by
  obtain ⟨m, hm⟩ : ∃ m, m = max (max (v 0) (v 1)) (max (v 2) (v 3)) := ⟨_, rfl⟩
  have hmax : ∀ k, v k ≤ m := by simp [hm, Fin.forall_fin_succ]
  simp only [strongest, ← hm]
  split_ifs with h0 h1 h2
  · exact ⟨0, _, by rw [h0], strongestAt_max 1 2 3 (by decide) (h0 ▸ hmax)⟩
  · exact ⟨1, _, by rw [h1], strongestAt_max 0 2 3 (by decide) (h1 ▸ hmax)⟩
  · exact ⟨2, _, by rw [h2], strongestAt_max 0 1 3 (by decide) (h2 ▸ hmax)⟩
  · have h3 : v 3 = m := by omega
    exact ⟨3, _, by rw [h3], strongestAt_max 0 1 2 (by decide) (h3 ▸ hmax)⟩

namespace StrongestAt

variable {v : Fin 4 → Int} {i : Fin 4} {rest : Int}

/-- A margin over the largest of the others is a margin over each of them. -/
theorem margin_iff (h : StrongestAt v i rest) (g : Int) : g ≤ v i - rest ↔ ∀ k, k ≠ i → g ≤ v i - v k := by
  constructor
  · intro hg k hk
    have := h.le_rest k hk
    omega
  · intro hall
    obtain ⟨k, hk, rfl⟩ := h.attained
    exact hall k hk

/-- With a positive margin the strongest position is the only one that can lead its group by it. -/
theorem eq_of_margin (h : StrongestAt v i rest) {g : Int} (hg : 0 < g) {j : Fin 4}
    (hj : ∀ k, k ≠ j → g ≤ v j - v k) : j = i := by
  by_contra hne
  have hlead := hj i (Ne.symm hne)
  have hle := h.le_rest j hne
  have htop := h.rest_le
  omega

end StrongestAt

/-! ## The class of a block (R86, R87) -/

theorem keyAt_eq : ∀ row col : Fin 4,
    keyAt row col = (![![1, 2, 3, 12], ![4, 5, 6, 13], ![7, 8, 9, 14], ![10, 0, 11, 15]] : Fin 4 → Fin 4 → Key) row col := by
  decide

/-- The four tests on a low and a high position, the group margin over every other position of its group (R86, R87). -/
structure PassesTests (p : ToneParams) (low high : Fin 4 → Int) (residual : Int) (i j : Fin 4) : Prop where
  lowFloor : p.levelFloor ≤ low i
  highFloor : p.levelFloor ≤ high j
  fwdTwist : high j - low i ≤ p.fwdTwist
  revTwist : low i - high j ≤ p.revTwist
  lowMargin : ∀ k, k ≠ i → p.groupMargin ≤ low i - low k
  highMargin : ∀ k, k ≠ j → p.groupMargin ≤ high j - high k
  purity : residual ≤ max (low i) (high j) - p.purityMargin

theorem passesTests_iff (p : ToneParams) (low high : Fin 4 → Int) (residual : Int) (i j : Fin 4) :
    PassesTests p low high residual i j ↔
      p.levelFloor ≤ low i ∧ p.levelFloor ≤ high j ∧ high j - low i ≤ p.fwdTwist ∧ low i - high j ≤ p.revTwist ∧
      (∀ k, k ≠ i → p.groupMargin ≤ low i - low k) ∧ (∀ k, k ≠ j → p.groupMargin ≤ high j - high k) ∧
      residual ≤ max (low i) (high j) - p.purityMargin :=
  ⟨fun h => ⟨h.lowFloor, h.highFloor, h.fwdTwist, h.revTwist, h.lowMargin, h.highMargin, h.purity⟩,
   fun ⟨lowFloor, highFloor, fwdTwist, revTwist, lowMargin, highMargin, purity⟩ =>
    ⟨lowFloor, highFloor, fwdTwist, revTwist, lowMargin, highMargin, purity⟩⟩

/-- `classify` tests the strongest position of each group. -/
theorem classify_eq_some_iff_strongest (p : ToneParams) {low high : Fin 4 → Int} (residual : Int) (d : Key) {i j : Fin 4}
    {lowRest highRest : Int} (hlow : strongest (low 0) (low 1) (low 2) (low 3) = (low i, i, lowRest))
    (hhigh : strongest (high 0) (high 1) (high 2) (high 3) = (high j, j, highRest))
    (atLow : StrongestAt low i lowRest) (atHigh : StrongestAt high j highRest) :
    classify p ⟨[low 0, low 1, low 2, low 3, high 0, high 1, high 2, high 3], residual⟩ = some d ↔
      d = keyAt i j ∧ PassesTests p low high residual i j := by
  simp only [classify, hlow, hhigh, atLow.margin_iff, atHigh.margin_iff, passesTests_iff]
  split <;> rename_i htests
  · rw [Option.some_inj, and_iff_left htests, eq_comm]
  · exact iff_of_false (by simp) fun h => htests h.2

theorem classify_eq_some_iff {p : ToneParams} (hp : 0 < p.groupMargin) (low high : Fin 4 → Int) (residual : Int) (d : Key) :
    classify p ⟨[low 0, low 1, low 2, low 3, high 0, high 1, high 2, high 3], residual⟩ = some d ↔
      ∃ i j, d = keyAt i j ∧ PassesTests p low high residual i j := by
  obtain ⟨i, lowRest, hlow, atLow⟩ := strongest_eq low
  obtain ⟨j, highRest, hhigh, atHigh⟩ := strongest_eq high
  rw [classify_eq_some_iff_strongest p residual d hlow hhigh atLow atHigh]
  constructor
  · exact fun h => ⟨i, j, h⟩
  · rintro ⟨i', j', hd, htests⟩
    obtain rfl := atLow.eq_of_margin hp htests.lowMargin
    obtain rfl := atHigh.eq_of_margin hp htests.highMargin
    exact ⟨hd, htests⟩

/-- Settles O34: the tap bit by bit, the expansion read as arithmetic, and the class through the strongest position of each group,
the only one that can lead its group by a positive margin. -/
theorem bytesExpandAndBlocksAreClassified : Obligations.BytesExpandAndBlocksAreClassified := by
  refine ⟨fun frame slot i hi => tapByte_getMsbD frame slot hi, fun code => ⟨?_, expandSample_bounds code⟩, ?_⟩
  · simp [expandSample_eq code, stepMagnitude]
  · intro p low high residual d hp
    simp only [classify_eq_some_iff hp, passesTests_iff, keyAt_eq]

end Sys2Proof.Machine

/-! SUPPORT. The frame check as the remainder of a division of polynomials over the field of two elements, bit by bit, and the bytes
of a frame around it (R168, R175), with O8. -/

namespace Sys2Proof.Machine

open Polynomial

/-! ## Bits and words as polynomials over the field of two elements -/

/-- A bit as a constant polynomial. -/
noncomputable def bitPoly (b : Bool) : (ZMod 2)[X] := if b then 1 else 0

/-- Bits, the highest coefficient first, as a polynomial. -/
noncomputable def bitsPoly (bits : List Bool) : (ZMod 2)[X] := bits.foldl (fun p b => p * X + bitPoly b) 0

/-- A word's bits, most significant first. -/
def wordBits (r : BitVec 16) : List Bool := (List.range 16).map fun i => r.getLsbD (15 - i)

/-- A word as a polynomial: bit `i` is the coefficient of X^i. -/
noncomputable def wordPoly (r : BitVec 16) : (ZMod 2)[X] := ∑ i ∈ Finset.range 16, bitPoly (r.getLsbD i) * X ^ i

/-- A message's bits, each byte most significant bit first (R168). -/
def messageBits (bytes : List Byte) : List Bool := bytes.flatMap fun b => (List.range 8).map fun i => b.getLsbD (7 - i)

/-- The generator of the check (R168). -/
noncomputable def crcGenerator : (ZMod 2)[X] := X ^ 16 + X ^ 12 + X ^ 5 + 1

@[simp] theorem bitPoly_false : bitPoly false = 0 := rfl
@[simp] theorem bitPoly_true : bitPoly true = 1 := rfl

theorem bitPoly_xor (a b : Bool) : bitPoly (a ^^ b) = bitPoly a + bitPoly b := by
  cases a <;> cases b <;> simp [CharTwo.add_self_eq_zero]

@[simp] theorem bitsPoly_nil : bitsPoly [] = 0 := rfl

theorem bitsPoly_append_singleton (bits : List Bool) (b : Bool) : bitsPoly (bits ++ [b]) = bitsPoly bits * X + bitPoly b := by
  simp [bitsPoly]

/-- The first bit is the highest coefficient. -/
theorem bitsPoly_cons (b : Bool) (bits : List Bool) :
    bitsPoly (b :: bits) = bitPoly b * X ^ bits.length + bitsPoly bits := by
  induction bits using List.reverseRecOn with
  | nil => simp [bitsPoly]
  | append_singleton bits last ih =>
    rw [← List.cons_append, bitsPoly_append_singleton, bitsPoly_append_singleton, ih, List.length_append, List.length_singleton]
    ring

theorem bitsPoly_range (f : Nat → Bool) (n : Nat) :
    bitsPoly ((List.range n).map fun i => f (n - 1 - i)) = ∑ i ∈ Finset.range n, bitPoly (f i) * X ^ i := by
  induction n with
  | zero => simp
  | succ n ih =>
    have hbits : (List.range (n + 1)).map (fun i => f (n + 1 - 1 - i)) = f n :: (List.range n).map fun i => f (n - 1 - i) := by
      rw [List.range_succ_eq_map, List.map_cons, List.map_map]
      exact congrArg (f n :: ·) (List.map_congr_left fun i _ => congrArg f (show n - (i + 1) = n - 1 - i by omega))
    rw [hbits, bitsPoly_cons, ih, List.length_map, List.length_range, Finset.sum_range_succ, add_comm]

theorem bitsPoly_wordBits (r : BitVec 16) : bitsPoly (wordBits r) = wordPoly r := bitsPoly_range r.getLsbD 16

theorem wordPoly_xor (a b : BitVec 16) : wordPoly (a ^^^ b) = wordPoly a + wordPoly b := by
  simp only [wordPoly, BitVec.getLsbD_xor, bitPoly_xor, add_mul, Finset.sum_add_distrib]

/-- A shift by one place multiplies by X, less the bit that leaves the word. -/
theorem wordPoly_mul_X (r : BitVec 16) : wordPoly r * X = wordPoly (r <<< 1) + bitPoly (r.getLsbD 15) * X ^ 16 := by
  have hshift : wordPoly (r <<< 1) = ∑ i ∈ Finset.range 15, bitPoly (r.getLsbD i) * X ^ (i + 1) := by
    rw [wordPoly, Finset.sum_range_succ']
    have hlow : (r <<< 1).getLsbD 0 = false := by simp
    rw [hlow, bitPoly_false, zero_mul, add_zero]
    refine Finset.sum_congr rfl fun i hi => ?_
    have hnext : i + 1 < 16 := Nat.succ_lt_succ (Finset.mem_range.mp hi)
    have hbit : (r <<< 1).getLsbD (i + 1) = r.getLsbD i := by simp [hnext, Nat.lt_of_succ_lt hnext]
    rw [hbit]
  rw [hshift, wordPoly, Finset.sum_range_succ, add_mul, Finset.sum_mul]
  simp only [mul_assoc, ← pow_succ]

theorem wordPoly_low_terms : wordPoly 0x1021#16 = X ^ 12 + X ^ 5 + 1 := by
  simp [wordPoly, Finset.sum_range_succ, bitPoly]
  ring

/-! ## The register is the remainder -/

/-- Subtraction is addition in characteristic two: X^16 and the generator's lower terms differ by the generator. -/
theorem X_pow_sub_low_terms : (X ^ 16 - wordPoly 0x1021#16 : (ZMod 2)[X]) = crcGenerator := by
  rw [wordPoly_low_terms, CharTwo.sub_eq_add, crcGenerator]
  ring

/-- One bit into the register: X times the register, plus the bit at X^16, modulo the generator. -/
theorem crcGenerator_dvd_crcBit (r : BitVec 16) (b : Bool) :
    crcGenerator ∣ wordPoly r * X + bitPoly b * X ^ 16 - wordPoly (crcBit r b) := by
  have hin : wordPoly r * X + bitPoly b * X ^ 16 = wordPoly (r <<< 1) + bitPoly (r.getLsbD 15 ^^ b) * X ^ 16 := by
    rw [wordPoly_mul_X, bitPoly_xor]
    ring
  rw [hin, crcBit]
  cases r.getLsbD 15 ^^ b with
  | false => simp
  | true =>
    have hout : wordPoly (r <<< 1) + bitPoly true * X ^ 16 - wordPoly (r <<< 1 ^^^ 0x1021#16) = crcGenerator := by
      rw [wordPoly_xor, bitPoly_true, ← X_pow_sub_low_terms]
      ring
    rw [if_pos rfl, hout]

/-- A string of bits into the register, by induction on the bits with the register free. -/
theorem crcGenerator_dvd_foldl_crcBit (bits : List Bool) (r : BitVec 16) :
    crcGenerator ∣ wordPoly r * X ^ bits.length + bitsPoly bits * X ^ 16 - wordPoly (bits.foldl crcBit r) := by
  induction bits generalizing r with
  | nil => simp
  | cons b bits ih =>
    have hsplit : wordPoly r * X ^ (b :: bits).length + bitsPoly (b :: bits) * X ^ 16 - wordPoly ((b :: bits).foldl crcBit r) =
        (wordPoly r * X + bitPoly b * X ^ 16 - wordPoly (crcBit r b)) * X ^ bits.length +
        (wordPoly (crcBit r b) * X ^ bits.length + bitsPoly bits * X ^ 16 - wordPoly (bits.foldl crcBit (crcBit r b))) := by
      rw [bitsPoly_cons, List.length_cons, List.foldl_cons]
      ring
    rw [hsplit]
    exact dvd_add ((crcGenerator_dvd_crcBit r b).mul_right _) (ih _)

theorem crc_eq_foldl_crcBit (message : List Byte) : crc message = (messageBits message).foldl crcBit 0xFFFF#16 := by
  rw [messageBits, List.foldl_flatMap]
  rfl

theorem length_messageBits (message : List Byte) : (messageBits message).length = 8 * message.length := by
  simp [messageBits, mul_comm]

theorem crcGenerator_dvd_crc (message : List Byte) :
    crcGenerator ∣ bitsPoly (List.replicate 16 true) * X ^ (8 * message.length) + bitsPoly (messageBits message) * X ^ 16 -
      bitsPoly (wordBits (crc message)) := by
  have hones : bitsPoly (List.replicate 16 true) = wordPoly 0xFFFF#16 := bitsPoly_wordBits 0xFFFF#16
  rw [hones, bitsPoly_wordBits, ← length_messageBits, crc_eq_foldl_crcBit]
  exact crcGenerator_dvd_foldl_crcBit _ _

/-! ## The bytes of a frame (R175) -/

theorem frameBytes_eq (kind : Byte) (body : List Byte) :
    ∃ covered, frameBytes kind body = 0xC3#8 :: covered ++ [(crc covered).extractLsb' 8 8, (crc covered).extractLsb' 0 8] :=
  ⟨byteOf (body.length + 1) :: kind :: body, rfl⟩

/-- Settles O8: the division by induction on the bits of the message, and the three kinds of frame through `frameBytes`. -/
theorem frameCheckIsPolynomialRemainder : Obligations.FrameCheckIsPolynomialRemainder := by
  refine ⟨crcGenerator_dvd_crc, by decide +kernel, fun f => ?_⟩
  cases f with
  | reply r => exact frameBytes_eq _ _
  | busy => exact frameBytes_eq _ _
  | event e => exact frameBytes_eq _ _

end Sys2Proof.Machine

/-! SUPPORT. Numbers and flags as bytes, the parts of the status bodies, and the three status queries, with O15 (R173, R180, R181). -/

namespace Sys2Proof.Machine

/-! ## Numbers as bytes -/

theorem bytes16_eq_twoBytes (n : Nat) : bytes16 n = twoBytes n := by
  have hhigh : (BitVec.ofNat 16 n).extractLsb' 8 8 = BitVec.ofInt 8 ((n : Int) / 256) := by
    apply BitVec.eq_of_toNat_eq
    simp only [BitVec.extractLsb'_toNat, BitVec.toNat_ofNat, Nat.shiftRight_eq_div_pow, BitVec.toNat_ofInt]
    omega
  have hlow : (BitVec.ofNat 16 n).extractLsb' 0 8 = BitVec.ofInt 8 n := by
    apply BitVec.eq_of_toNat_eq
    simp only [BitVec.extractLsb'_toNat, BitVec.toNat_ofNat, Nat.shiftRight_zero, BitVec.toNat_ofInt]
    omega
  rw [bytes16, wordBytes, twoBytes, hhigh, hlow]

/-- The low 16 bits of a time, high byte first. -/
theorem wordBytes_setWidth (t : Time) : wordBytes (t.setWidth 16) = [t.extractLsb' 8 8, t.extractLsb' 0 8] := by
  have hlow (start : Nat) (h : start ≤ 8) : (t.setWidth 16).extractLsb' start 8 = t.extractLsb' start 8 := by
    ext i hi
    have hin : start + i < 16 := by omega
    simp [hin]
  rw [wordBytes, hlow 8 le_rfl, hlow 0 (by decide)]

/-! ## Line numbers -/

theorem lineOf_eq_none {b : Byte} (h : 32 ≤ b.toNat) : lineOf b = none := dif_neg (by omega)

@[simp] theorem lineOf_lineByte (l : Line) : lineOf (lineByte l) = some l := by
  have hl : (lineByte l).toNat = l.val := Nat.mod_eq_of_lt (by omega)
  simp [lineOf, hl]

/-! ## Parts of the device-status body (R180) -/

theorem ScanMode.code_eq (m : ScanMode) : m.code = if m = .normal then 0#8 else 1#8 := by cases m <;> rfl

theorem BatteryState.code_eq (b : BatteryState) : b.code = if b = .normal then 0#8 else 1#8 := by cases b <;> rfl

/-- A test with no phase in flight is the one held; otherwise the held sweep is (R121). -/
theorem heldLine_byte (e : Engine) :
    (e.heldLine.map fun l => byteOf l.val).getD 0xFF#8 = match e.running, e.heldSweep with
      | some c, h => if c.phase = none then byteOf c.line.val else (h.map fun h => byteOf h.line.val).getD 0xFF#8
      | none, some h => byteOf h.line.val
      | none, none => 0xFF#8 := by
  unfold Engine.heldLine
  cases e.running with
  | none => cases e.heldSweep <;> rfl
  | some c => cases hp : c.phase <;> simp [hp, Function.comp_def]

theorem freeCountRx_eq (s : State) : s.freeCountRx = (List.finRange 8).countP fun r => s.receiver r = none := by
  have hfree (r : Rx) : (s.receiver r).isNone = decide (s.receiver r = none) := by cases s.receiver r <;> rfl
  simp only [State.freeCountRx, allRx, hfree, List.countP_eq_length_filter]

/-! ## Parts of the line-status body (R181) -/

theorem Service.code_eq (v : Service) : v.code = if v = .serviceIn then 1#8 else 0#8 := by cases v <;> rfl

theorem sampleBytes_some (x : Sample) :
    sampleBytes (some x) =
      [1#8] ++ twoBytes x.current ++ [flagByte x.ov] ++ [x.time.extractLsb' 8 8, x.time.extractLsb' 0 8] := by
  rw [sampleBytes, bytes16_eq_twoBytes, wordBytes_setWidth]

/-- A line's place in the wait queue, counted from 1, or 0. -/
theorem byteOf_waitPosition (q : List WaitEntry) (l : Line) : byteOf (waitPosition q l) =
    if l ∈ q.map (fun e => e.line) then byteOf ((q.map fun e => e.line).idxOf l + 1) else 0#8 := by
  have hfind : q.findIdx? (fun e => e.line == l) = (q.map fun e => e.line).idxOf? l :=
    (List.findIdx?_map (p := (· == l)) (f := fun e : WaitEntry => e.line)).symm
  rw [waitPosition, hfind]
  generalize (q.map fun e => e.line) = lines
  by_cases h : l ∈ lines
  · have hsome : lines.idxOf? l = some (lines.idxOf l) :=
      List.findIdx?_eq_some_iff_findIdx_eq.mpr ⟨List.idxOf_lt_length_iff.mpr h, rfl⟩
    rw [hsome, if_pos h]
  · rw [List.idxOf?_eq_none_iff.mpr h, if_neg h]
    rfl

/-- Three flags by their sum are the same three bits by or. -/
theorem byteOf_flags (a b c : Bool) : byteOf (a.toNat + 2 * b.toNat + 4 * c.toNat) =
    (if a then 1#8 else 0#8) ||| (if b then 2#8 else 0#8) ||| (if c then 4#8 else 0#8) := by
  revert a b c
  decide

theorem testFlags_eq (s : State) (l : Line) : s.testFlags l =
    (if (s.line l).test.onTestBus then 1#8 else 0#8) ||| (if l ∈ s.engine.queue.map (fun q => q.line) then 2#8 else 0#8) |||
      (if (s.line l).fault.owed then 4#8 else 0#8) := by
  have hqueued : s.engine.queued l ↔ l ∈ s.engine.queue.map fun q => q.line := by simp [Engine.queued]
  simp only [State.testFlags, byteOf_flags, hqueued]

/-! ## The status queries (R173) -/

theorem runLineStatus_badLine (s : State) {b : Byte} (hb : 32 ≤ b.toNat) :
    runLineStatus b s = (s, ⟨0x03#8, .badArgument, []⟩) := by
  rw [runLineStatus, State.onLine, lineOf_eq_none hb]
  rfl

theorem runLineStatus_lineByte (s : State) (l : Line) :
    runLineStatus (lineByte l) s = (s.modRep l fun r => { r with latched := 0#16 }, ⟨0x03#8, .ok, s.lineStatusBytes l⟩) := by
  rw [runLineStatus, State.onLine, lineOf_lineByte]

section

variable {s : State} {now : Time} (h : s.ready)
include h

/-- A command that changes nothing is answered, and nothing else happens. -/
theorem command_unchanged {run : State → State × Reply} {r : Reply}
    (hrun : run ((s.at now).modLink fun k => { k with rx := .hunting }) = ((s.at now).modLink fun k => { k with rx := .hunting }, r)) :
    s.command now run = .next (s.answered now r) := command_quiet h hrun rfl

theorem exec_identify : exec (.identify now) s = .next (s.answered now ⟨0x01#8, .ok, s.identityBytes⟩) :=
  command_unchanged h rfl

theorem exec_deviceStatus : exec (.deviceStatus now) s = .next (s.answered now ⟨0x02#8, .ok, s.deviceStatusBytes⟩) :=
  command_unchanged h rfl

theorem exec_lineStatus_badLine {b : Byte} (hb : 32 ≤ b.toNat) :
    exec (.lineStatus now b) s = .next (s.answered now ⟨0x03#8, .badArgument, []⟩) :=
  command_unchanged h (runLineStatus_badLine _ hb)

theorem exec_lineStatus (l : Line) :
    exec (.lineStatus now (lineByte l)) s =
      .next ((s.modRep l fun r => { r with latched := 0#16 }).answered now ⟨0x03#8, .ok, s.lineStatusBytes l⟩) :=
  command_quiet h (runLineStatus_lineByte _ l) rfl

end

/-- Settles O15: each query's meaning above, and its body part by part. -/
theorem statusRepliesShowTheState : Obligations.StatusRepliesShowTheState := by
  refine ⟨fun s now h => ⟨exec_identify h, ?_⟩, fun s now b h hb => exec_lineStatus_badLine h hb, fun s now l h => ?_⟩
  · rw [exec_deviceStatus h, State.deviceStatusBytes, ScanMode.code_eq, BatteryState.code_eq, heldLine_byte, freeCountRx_eq]
    cases s.battery.reading <;> rfl
  · rw [exec_lineStatus h, State.lineStatusBytes]
    simp only [bytes16_eq_twoBytes, Service.code_eq, byteOf_waitPosition, testFlags_eq]
    cases (s.line l).lsu.lastSample with
    | none => cases (s.line l).pool.receiver <;> rfl
    | some x =>
      rw [sampleBytes_some]
      cases (s.line l).pool.receiver <;> rfl

end Sys2Proof.Machine


/-! SUPPORT. What a step can do, said once: the runs of the command catalogue, what an arrival makes of the state, and the rule by
which a property of the state is kept by every step; with O1 and O2. -/

namespace Sys2Proof.Machine

/-! ## Commands, arrivals and steps -/

/-- What a good frame can run: a command of the catalogue, or a refusal of the frame (R171, R172). -/
inductive RunOf (s : State) : State × Reply → Prop
  | identify : RunOf s (runIdentify s)
  | deviceStatus : RunOf s (runDeviceStatus s)
  | lineStatus (line) : RunOf s (runLineStatus line s)
  | setProfile (profile fields) : RunOf s (runSetProfile profile fields s)
  | getProfile (profile) : RunOf s (runGetProfile profile s)
  | setLineProfile (line profile) : RunOf s (runSetLineProfile line profile s)
  | setServiceOut (line) : RunOf s (runSetServiceOut line s)
  | setServiceIn (line) : RunOf s (runSetServiceIn line s)
  | setTimeslot (line slot) : RunOf s (runSetTimeslot line slot s)
  | setMask (line kinds) : RunOf s (runSetMask line kinds s)
  | setClassMap (classes) : RunOf s (runSetClassMap classes s)
  | setToneParams (values) : RunOf s (runSetToneParams values s)
  | setScan (setting index) : RunOf s (runSetScan setting index s)
  | setSweep (enabled interval steps) : RunOf s (runSetSweep enabled interval steps s)
  | collectOn (line) : RunOf s (runCollectOn line s)
  | collectOff (line) : RunOf s (runCollectOff line s)
  | readDigits (line clear) : RunOf s (runReadDigits line clear s)
  | testLine (line steps force) : RunOf s (runTestLine line steps force s)
  | abortTest (line) : RunOf s (runAbortTest line s)
  | resumeTests : RunOf s (runResumeTests s)
  | getResult (line) : RunOf s (runGetResult line s)
  | ackFaults (line faults) : RunOf s (runAckFaults line faults s)
  | releaseQuarantine (line) : RunOf s (runReleaseQuarantine line s)
  | reset : RunOf s (runReset s)
  | refuse (kind status) : RunOf s (s.refuse kind status)

theorem runSetService_runOf (line state : Byte) (s : State) : RunOf s (runSetService line state s) := by
  unfold runSetService
  split
  · exact .setServiceIn line
  · exact .setServiceOut line
  · exact .refuse _ _

theorem runCollect_runOf (line on : Byte) (s : State) : RunOf s (runCollect line on s) := by
  unfold runCollect
  split
  · exact .collectOn line
  · exact .collectOff line
  · exact .refuse _ _

/-- A command kind is one of 0x01 to 0x16 (R175). -/
theorem commandKind_cases {kind : Byte} (h : isCommandKind kind = true) : ∃ n : Fin 22, kind = BitVec.ofNat 8 (n.val + 1) := by
  simp only [isCommandKind, Bool.and_eq_true, decide_eq_true_eq] at h
  refine ⟨⟨kind.toNat - 1, by omega⟩, BitVec.eq_of_toNat_eq ?_⟩
  simp only [BitVec.toNat_ofNat]
  omega

theorem runFrame_unknown {kind : Byte} (h : isCommandKind kind = false) (body : List Byte) (s : State) :
    runFrame kind body s = s.refuse kind .unknown := by
  unfold runFrame
  rw [h]
  rfl

/-- A SET_PROFILE body of 47 bytes is executed, any other turned down. -/
theorem runFrame_setProfile (body : List Byte) (s : State) : runFrame 0x04#8 body s =
    if body.length = 47 then runSetProfile (body.headD 0#8) (wordsOf body.tail) s else s.refuse 0x04#8 .badLength := by
  cases body with
  | nil => rfl
  | cons profile fields =>
    change (if fields.length = 46 then runSetProfile profile (wordsOf fields) s else s.refuse 0x04#8 .badLength) = _
    simp

/-- A body of another length than the catalogue's is turned down (R171, R172). -/
theorem runFrame_badLength (n : Fin 22) {body : List Byte} (h : body.length ≠ bodyLengths.getD n.val 0) (s : State) :
    runFrame (BitVec.ofNat 8 (n.val + 1)) body s = s.refuse (BitVec.ofNat 8 (n.val + 1)) .badLength := by
  by_cases h4 : n = 3
  · subst h4
    exact (runFrame_setProfile body s).trans (if_neg h)
  by_cases hA : n = 9
  · subst hA
    exact if_pos h
  by_cases hB : n = 10
  · subst hB
    exact if_pos h
  fin_cases n
  all_goals try contradiction
  all_goals
    rcases body with _ | ⟨a, _ | ⟨b, _ | ⟨c, _ | ⟨d, rest⟩⟩⟩⟩
    all_goals first | exact absurd rfl h | rfl

/-- A frame of a command kind with the catalogue's length runs the command (R172). -/
theorem runFrame_catalogue (n : Fin 22) {body : List Byte} (h : body.length = bodyLengths.getD n.val 0) (s : State) :
    RunOf s (runFrame (BitVec.ofNat 8 (n.val + 1)) body s) := by
  by_cases h4 : n = 3
  · subst h4
    have hrun := (runFrame_setProfile body s).trans (if_pos h)
    exact hrun ▸ .setProfile _ _
  fin_cases n
  · obtain rfl := List.length_eq_zero_iff.mp h
    exact .identify
  · obtain rfl := List.length_eq_zero_iff.mp h
    exact .deviceStatus
  · obtain ⟨line, rfl⟩ := List.length_eq_one_iff.mp h
    exact .lineStatus line
  · contradiction
  · obtain ⟨profile, rfl⟩ := List.length_eq_one_iff.mp h
    exact .getProfile profile
  · obtain ⟨line, profile, rfl⟩ := List.length_eq_two.mp h
    exact .setLineProfile line profile
  · obtain ⟨line, state, rfl⟩ := List.length_eq_two.mp h
    exact runSetService_runOf line state s
  · obtain ⟨line, slot, rfl⟩ := List.length_eq_two.mp h
    exact .setTimeslot line slot
  · obtain ⟨line, high, low, rfl⟩ := List.length_eq_three.mp h
    exact .setMask line (high ++ low)
  · exact .setClassMap body
  · exact .setToneParams body
  · obtain ⟨setting, index, rfl⟩ := List.length_eq_two.mp h
    exact .setScan setting index
  · obtain ⟨enabled, interval, steps, rfl⟩ := List.length_eq_three.mp h
    exact .setSweep enabled interval steps
  · obtain ⟨line, on, rfl⟩ := List.length_eq_two.mp h
    exact runCollect_runOf line on s
  · obtain ⟨line, clear, rfl⟩ := List.length_eq_two.mp h
    exact .readDigits line clear
  · obtain ⟨line, steps, force, rfl⟩ := List.length_eq_three.mp h
    exact .testLine line steps force
  · obtain ⟨line, rfl⟩ := List.length_eq_one_iff.mp h
    exact .abortTest line
  · obtain rfl := List.length_eq_zero_iff.mp h
    exact .resumeTests
  · obtain ⟨line, rfl⟩ := List.length_eq_one_iff.mp h
    exact .getResult line
  · obtain ⟨line, faults, rfl⟩ := List.length_eq_two.mp h
    exact .ackFaults line faults
  · obtain ⟨line, rfl⟩ := List.length_eq_one_iff.mp h
    exact .releaseQuarantine line
  · obtain rfl := List.length_eq_zero_iff.mp h
    exact .reset

/-- A frame of any kind and body runs a command of the catalogue or is refused. -/
theorem runFrame_runOf (kind : Byte) (body : List Byte) (s : State) : RunOf s (runFrame kind body s) := by
  cases hk : isCommandKind kind with
  | false => exact runFrame_unknown hk body s ▸ .refuse _ _
  | true =>
    obtain ⟨n, rfl⟩ := commandKind_cases hk
    by_cases hlen : body.length = bodyLengths.getD n.val 0
    · exact runFrame_catalogue n hlen s
    · exact runFrame_badLength n hlen s ▸ .refuse _ _

/-- What a command of the catalogue does to the state, with what its rule has made sure of (R172). -/
inductive Effect (s : State) : State → Prop
  | nothing : Effect s s
  | clearLatched (l : Line) : Effect s (s.modRep l fun r => { r with latched := 0#16 })
  | writeProfile (p : ProfNo) (fields : List Nat) (v : Profile) (changed : List Bool)
      (h : judgeProfile fields = .ok (v, changed)) : Effect s (s.writeProfile p v)
  | assignProfile (l : Line) (p : ProfNo) : Effect s (s.assignProfile l p)
  | takeOut (l : Line) (h : (s.line l).hook.state ≠ .outOfService) : Effect s (s.takeOut l)
  | putIn (l : Line) (h : (s.line l).hook.state = .outOfService) :
      Effect s ((s.modHook l fun h => { h with service := .serviceIn }).enterLearning l)
  | moveSlot (l : Line) (t : Timeslot) (h : (s.line l).pool.slot ≠ t) (hfree : s.slotHolder l t = none) : Effect s (s.moveSlot l t)
  | setMask (l : Line) (kinds : KindSet) : Effect s (s.modRep l fun r => { r with mask := kinds ||| powerCrossBit })
  | setClassMap (classes : List Byte) (m : Vector EventClass 19) (h : classMapOf classes = some m) :
      Effect s { s with reporter := { s.reporter with classMap := m } }
  | setTone (p : ToneParams) : Effect s { s with tone := p }
  | setScan (setting : ScanSetting) (index : Fin 8) : Effect s (s.setScan setting index)
  | setSweep (on : Bool) (interval : Nat) (steps : StepSet) :
      Effect s (s.modEngine fun e => e.setSweep on interval steps s.partTime)
  | arm (l : Line) (h : (s.line l).hook.state.inCall) : Effect s (s.armCollection l)
  | endCollection (l : Line) (h : (s.line l).dial.collection.active = true) : Effect s (s.endCollection l none)
  | clearBuffer (l : Line) : Effect s (s.modDial l fun d => { d with buffer := [], truncated := false })
  | mergeHost (l : Line) (steps : StepSet) (force : Bool) :
      Effect s (s.modEngine fun e => { e with queue := e.queue.map (mergeHost l steps force) })
  | fileHost (l : Line) (steps : StepSet) (force : Bool) (h : s.engine.state ≠ .suspended) (hnew : s.engine.queued l = false)
      (hroom : s.engine.queue.length < Config.testQueueCap) : Effect s (s.fileHost l steps force)
  | abort (l : Line) : Effect s (s.abortTests l).1
  | resume (h : s.engine.state = .suspended) : Effect s s.resumeTesting
  | ack (l : Line) (left : FaultSet) : Effect s (s.modFault l fun f => { f with sticky := left })
  | release (l : Line) (h : (s.line l).hook.state = .quarantined) : Effect s (s.leaveQuarantine l)
  | reset : Effect s (s.modLink fun k => { k with resetRequested := true })

theorem effect_onLine {s : State} (kind line : Byte) {f : Line → State × Reply} (h : ∀ l, Effect s (f l).1) :
    Effect s (s.onLine kind line f).1 := by
  unfold State.onLine
  split
  · exact h _
  · exact .nothing

theorem acceptClamped_fst (s : State) (kind : Byte) (changed : List Bool) : (s.acceptClamped kind changed).1 = s := by
  unfold State.acceptClamped
  split <;> rfl

theorem effect_requestTest (s : State) (l : Line) (steps : StepSet) (force : Bool) :
    Effect s (s.requestTest l steps force).1 := by
  unfold State.requestTest
  split
  · exact .nothing
  split
  · exact .nothing
  split
  · exact .mergeHost l steps force
  split
  · exact .nothing
  · next hs _ hq hr => exact .fileHost l steps force hs (by simpa using hq) (by omega)

/-- A command of the catalogue has one of the effects above. -/
theorem effect_of_runOf {s : State} {x : State × Reply} (hx : RunOf s x) : Effect s x.1 := by
  cases hx with
  | identify => exact .nothing
  | deviceStatus => exact .nothing
  | lineStatus line => exact effect_onLine _ _ fun l => .clearLatched l
  | setProfile profile fields =>
    unfold runSetProfile
    split
    · exact .nothing
    split
    · exact .nothing
    split
    · exact .nothing
    · next p _ _ v changed h =>
      rw [acceptClamped_fst]
      exact .writeProfile p _ v changed h
  | getProfile profile =>
    unfold runGetProfile
    split <;> exact .nothing
  | setLineProfile line profile =>
    refine effect_onLine _ _ fun l => ?_
    split
    · exact .assignProfile l _
    · exact .nothing
  | setServiceOut line =>
    refine effect_onLine _ _ fun l => ?_
    unfold State.accept
    split
    · exact .nothing
    · next h => exact .takeOut l h
  | setServiceIn line =>
    refine effect_onLine _ _ fun l => ?_
    unfold State.accept
    split
    · next h => exact .putIn l h
    · exact .nothing
  | setTimeslot line slot =>
    refine effect_onLine _ _ fun l => ?_
    split
    · exact .nothing
    split
    · exact .nothing
    split
    · exact .nothing
    · next h hfree => exact .moveSlot l _ h (by simpa using hfree)
  | setMask line kinds => exact effect_onLine _ _ fun l => .setMask l kinds
  | setClassMap classes =>
    unfold runSetClassMap
    split
    · exact .nothing
    split
    · next m h => exact .setClassMap classes m h
    · exact .nothing
  | setToneParams values =>
    unfold runSetToneParams
    split
    · exact .nothing
    · dsimp only
      rw [acceptClamped_fst]
      exact .setTone _
  | setScan setting index =>
    unfold runSetScan
    split
    · exact .nothing
    · rw [acceptClamped_fst]
      exact .setScan _ _
  | setSweep enabled interval steps =>
    unfold runSetSweep
    split
    · split
      · exact .nothing
      · dsimp only
        rw [acceptClamped_fst]
        exact .setSweep _ _ _
    · exact .nothing
  | collectOn line =>
    refine effect_onLine _ _ fun l => ?_
    split
    · next h => exact .arm l h
    · exact .nothing
  | collectOff line =>
    refine effect_onLine _ _ fun l => ?_
    unfold State.accept
    split
    · next h => exact .endCollection l h
    · exact .nothing
  | readDigits line clear =>
    refine effect_onLine _ _ fun l => ?_
    split
    · exact .nothing
    · unfold State.accept
      split
      · exact .clearBuffer l
      · exact .nothing
  | testLine line steps force =>
    refine effect_onLine _ _ fun l => ?_
    split
    · split
      · exact .nothing
      · exact effect_requestTest s l _ _
    · exact .nothing
  | abortTest line =>
    refine effect_onLine _ _ fun l => ?_
    dsimp only
    split
    · exact .abort l
    · exact .nothing
  | resumeTests =>
    unfold runResumeTests
    split
    · exact .nothing
    split
    · exact .nothing
    · next h _ => exact .resume (by simpa using h)
  | getResult line =>
    refine effect_onLine _ _ fun l => ?_
    split <;> exact .nothing
  | ackFaults line faults =>
    refine effect_onLine _ _ fun l => ?_
    split
    · exact .nothing
    · exact .ack l _
  | releaseQuarantine line =>
    refine effect_onLine _ _ fun l => ?_
    split
    · exact .nothing
    split
    · exact .nothing
    · next h _ => exact .release l (by simpa using h)
  | reset => exact .reset
  | refuse kind status => exact .nothing

/-- What an arrival makes of a part with RESETN high, at the arrival's part time. -/
inductive Takes (s : State) : State → Prop
  | nothing : Takes s s
  | frame (run : State → State × Reply) (hrun : ∀ u, RunOf u (run u)) : Takes s (s.goodFrame run)
  | badFrame : Takes s s.badFrame
  | receive (r : FrameRx) : Takes s (s.setRx r)
  | turnAway (h : s.link.slot.isSome = true) :
      Takes s ((s.setRx .hunting).modLink fun k => { k with busyPending := true }).txChoose
  | nextFrame (f : TxFrame) (h : s.link.tx = some f) : Takes s (s.modLink fun k => { k with tx := none }).txChoose
  | commandReset (h : s.sendingResetReply = true) : Takes s s.commandReset
  | sample (l i ov) : Takes s (s.sample l i ov)
  | firstSync : Takes s s.firstSync
  | startReceiver (r frame) : Takes s (s.startReceiver r frame)
  | blockDone (r frames) : Takes s (s.blockDone r frames)
  | firstDigitExpiry (l) : Takes s (s.firstDigitExpiry l)
  | endDiallingExpiry (l) : Takes s (s.endDiallingExpiry l)
  | retestExpiry (l) : Takes s (s.retestExpiry l)
  | sweepExpiry : Takes s s.sweepExpiry
  | readBattery (volts) : Takes s (s.readBattery volts)
  | settleDone : Takes s s.settleDone
  | stepDone (a b) : Takes s (s.stepDone a b)

theorem takes_rxByte (s : State) (b : Byte) : Takes s (s.rxByte b) := by
  unfold State.rxByte State.huntByte State.collectByte State.frameComplete
  repeat' (first | split | dsimp only)
  all_goals first
    | exact .receive _
    | exact .badFrame
    | exact .frame _ (runFrame_runOf _ _)

theorem takes_frameEnd (s : State) : Takes s s.frameEnd := by
  unfold State.frameEnd
  cases h : s.link.tx with
  | none => exact .nothing
  | some f =>
    dsimp only
    split
    · next hr => exact .commandReset hr
    · exact .nextFrame f h

theorem takes_discardBusy (s : State) : Takes s s.discardBusy := by
  unfold State.discardBusy
  split
  · next h => exact .turnAway (Bool.and_eq_true_iff.mp h).1
  · exact .nothing

theorem takes_gapTimeout (s : State) : Takes s s.gapTimeout := by
  unfold State.gapTimeout
  repeat' split
  · exact .receive _
  · exact .nothing
  · exact .nothing

theorem takes_unknownKind (s : State) (kind : Byte) :
    Takes s (if isCommandKind kind then s else s.goodFrame fun s => s.refuse kind .unknown) := by
  split
  · exact .nothing
  · exact .frame _ fun u => .refuse kind .unknown

/-- What a command makes of a state, whether RESETN is high or low. -/
inductive Becomes (s : State) : State → Prop
  | cold (cause) : Becomes s (s.coldReset cause)
  | low : Becomes s (s.modLink fun k => { k with resetnLow := true, tx := none })
  | held : Becomes s s
  | reset : Becomes s s.commandReset
  | taken (now : Time) (h : s.link.resetnLow = false) {t : State} (ht : Takes (s.at now) t) : Becomes s t

theorem becomes_arrive (s : State) (now : Time) {f : State → State} (hf : ∀ u, Takes u (f u)) : Becomes s (s.arrive now f) := by
  cases h : s.link.resetnLow with
  | true => rw [arrive_held h]; exact .held
  | false => rw [arrive_high h]; exact .taken now h (hf _)

/-- The commands that carry a part time are arrivals: with RESETN high each makes of the part one of the above, at that time. -/
theorem exec_arrives {c : Instr} {now : Time} (h : arrivalTime c = some now) :
    ∃ f : State → State, (∀ s, exec c s = .next (s.arrive now f)) ∧ ∀ u, Takes u (f u) := by
  have command : ∀ {run : State → State × Reply}, (∀ u, RunOf u (run u)) → ∃ f : State → State,
      (∀ s : State, s.command now run = .next (s.arrive now f)) ∧ ∀ u, Takes u (f u) :=
    fun {run} hrun => ⟨fun u => u.goodFrame run, fun _ => rfl, fun _ => .frame run hrun⟩
  cases c <;> cases h
  case identify => exact command fun _ => .identify
  case deviceStatus => exact command fun _ => .deviceStatus
  case lineStatus line => exact command fun _ => .lineStatus line
  case setProfile profile fields => exact command fun _ => .setProfile profile fields
  case getProfile profile => exact command fun _ => .getProfile profile
  case setLineProfile line profile => exact command fun _ => .setLineProfile line profile
  case setServiceOut line => exact command fun _ => .setServiceOut line
  case setServiceIn line => exact command fun _ => .setServiceIn line
  case setTimeslot line slot => exact command fun _ => .setTimeslot line slot
  case setMask line kinds => exact command fun _ => .setMask line kinds
  case setClassMap classes => exact command fun _ => .setClassMap classes
  case setToneParams values => exact command fun _ => .setToneParams values
  case setScan setting index => exact command fun _ => .setScan setting index
  case setSweep enabled interval steps => exact command fun _ => .setSweep enabled interval steps
  case collectOn line => exact command fun _ => .collectOn line
  case collectOff line => exact command fun _ => .collectOff line
  case readDigits line clear => exact command fun _ => .readDigits line clear
  case testLine line steps force => exact command fun _ => .testLine line steps force
  case abortTest line => exact command fun _ => .abortTest line
  case resumeTests => exact command fun _ => .resumeTests
  case getResult line => exact command fun _ => .getResult line
  case ackFaults line faults => exact command fun _ => .ackFaults line faults
  case releaseQuarantine line => exact command fun _ => .releaseQuarantine line
  case reset => exact command fun _ => .reset
  case unknownKindFrame kind => exact ⟨_, fun _ => rfl, (takes_unknownKind · kind)⟩
  case frameError => exact ⟨_, fun _ => rfl, fun _ => .badFrame⟩
  case interbyteGapTimeout => exact ⟨_, fun _ => rfl, takes_gapTimeout⟩
  case frameDiscardedBusy => exact ⟨_, fun _ => rfl, takes_discardBusy⟩
  case transmitFrameEnd => exact ⟨_, fun _ => rfl, takes_frameEnd⟩
  case sampleRecord line current ov => exact ⟨_, fun _ => rfl, fun _ => .sample line current ov⟩
  case receiverStart b rx => exact ⟨_, fun _ => rfl, fun _ => .startReceiver rx b.frame⟩
  case blockCompletion rx frames => exact ⟨_, fun _ => rfl, fun _ => .blockDone rx frames⟩
  case firstDigitTimeout line => exact ⟨_, fun _ => rfl, fun _ => .firstDigitExpiry line⟩
  case endDiallingTimerExpiry line => exact ⟨_, fun _ => rfl, fun _ => .endDiallingExpiry line⟩
  case retestTimerExpiry line => exact ⟨_, fun _ => rfl, fun _ => .retestExpiry line⟩
  case sweepTimerExpiry => exact ⟨_, fun _ => rfl, fun _ => .sweepExpiry⟩
  case batteryReading volts => exact ⟨_, fun _ => rfl, fun _ => .readBattery volts⟩
  case settlePeriodCompletion => exact ⟨_, fun _ => rfl, fun _ => .settleDone⟩
  case stepCompletion a b => exact ⟨_, fun _ => rfl, fun _ => .stepDone a b⟩
  case frameByteArrival byte => exact ⟨_, fun _ => rfl, (takes_rxByte · byte)⟩
  case firstFrameSyncPulse => exact ⟨_, fun _ => rfl, fun _ => .firstSync⟩

/-- Every command answers a next state, which is one of those above. -/
theorem exec_becomes (c : Instr) (s : State) : ∃ t, exec c s = .next t ∧ Becomes s t := by
  cases hc : arrivalTime c with
  | some now =>
    obtain ⟨f, hexec, hf⟩ := exec_arrives hc
    exact ⟨_, hexec s, becomes_arrive s now hf⟩
  | none =>
    cases c <;> cases hc
    case none.powerUpReset.refl => exact ⟨_, rfl, .cold _⟩
    case none.resetnLow.refl => exact ⟨_, rfl, .low⟩
    case none.pinReset.refl => exact ⟨_, rfl, .cold _⟩
    case none.commandResetEffect.refl =>
      refine ⟨_, rfl, ?_⟩
      split
      · exact .reset
      · exact .held

/-- A step runs the command at the front of the queue on the state with the queue's rest, or leaves the state as it is. -/
theorem step_becomes {s t : State} (h : step s = .next t) : t = s ∨ ∃ rest, Becomes { s with pending := rest } t := by
  unfold step at h
  split at h
  · next i rest _ =>
    obtain ⟨u, hu, hb⟩ := exec_becomes i { s with pending := rest }
    rw [hu] at h
    cases h
    exact .inr ⟨rest, hb⟩
  · cases h
    exact .inl rfl

/-- A command's execution is its run, on the state with some link, with some other link and count of free choices. -/
theorem execute_eq_run (s : State) (run : State → State × Reply) :
    ∃ k k' n, s.execute run = { (run { s with link := k }).1 with link := k', freeCount := n } := by
  obtain ⟨n, h⟩ | ⟨-, n, h⟩ := execute_cases s run <;> rw [h, answer_eq]
  · exact ⟨s.link, _, n, rfl⟩
  · exact ⟨_, _, n, rfl⟩

/-- A good frame is turned away, or runs a command on the state with some link. -/
theorem goodFrame_eq_run (s : State) (run : State → State × Reply) :
    (∃ k r, s.goodFrame run = { s with link := k, reporter := r }) ∨
    ∃ k k' n, s.goodFrame run = { (run { s with link := k }).1 with link := k', freeCount := n } := by
  unfold State.goodFrame
  dsimp only
  split
  · exact .inl ⟨_, _, rfl⟩
  split
  · rw [txChoose_rest]
    exact .inl ⟨_, _, rfl⟩
  · obtain ⟨k, k', n, h⟩ := execute_eq_run (s.modLink fun k => { k with rx := .hunting }) run
    exact .inr ⟨k, k', n, h⟩

/-! ## Properties that every step keeps -/

/-- What a property of the state needs to be kept by every step: it reads neither the queue nor the part time, and the resets,
RESETN low and every arrival keep it. -/
structure KeptByArrivals (P : State → Prop) : Prop where
  pending : ∀ s q, P s → P { s with pending := q }
  time : ∀ s now, P s → P (s.at now)
  cold : ∀ s cause, P s → P (s.coldReset cause)
  reset : ∀ s, P s → P s.commandReset
  low : ∀ s, P s → P (s.modLink fun k => { k with resetnLow := true, tx := none })
  takes : ∀ s t, s.link.resetnLow = false → P s → Takes s t → P t

theorem KeptByArrivals.step {P : State → Prop} (h : KeptByArrivals P) {s t : State} (hs : P s) (ht : step s = .next t) : P t := by
  obtain rfl | ⟨rest, hb⟩ := step_becomes ht
  · exact hs
  have hp := h.pending s rest hs
  revert hp hb
  generalize ({ s with pending := rest } : State) = u
  intro hb hp
  cases hb with
  | cold cause => exact h.cold _ cause hp
  | low => exact h.low _ hp
  | held => exact hp
  | reset => exact h.reset _ hp
  | taken now hhigh ht => exact h.takes (u.at now) _ hhigh (h.time u now hp) ht

/-! ## The queue and the part time -/

/-- Settles O1: the front of the queue, and the queue that is empty, each by the definition of a step. -/
theorem stepRunsFrontCommand : Obligations.StepRunsFrontCommand := by
  refine ⟨fun c s => rfl, fun s h => ?_⟩
  simp only [step, h]

end Sys2Proof.Machine


/-! SUPPORT. The reporter and the link: what raising an event leaves alone, which operations raise none, and the rule by which a
property of the reporter and the link is kept by the operations that do; with O11 to O14 (R160 to R164, R170). -/

namespace Sys2Proof.Machine

/-! ## Raising an event -/

section

variable (s : State) (l m : Line) (b : LineEvent) (d : DeviceEvent) (c : EventClass) (e : Event)

/-- An event moves at most the two queues, their flags and the transmitter. -/
theorem report_rest : s.report c e = { s with reporter := (s.report c e).reporter, link := (s.report c e).link } := by
  unfold State.report
  rw [txChoose_rest]

theorem raise_rest : s.raise l b =
    { s.modRep l (fun r => { r with latched := r.latched ||| kindBit b.kind }) with
      reporter := (s.raise l b).reporter, link := (s.raise l b).link } := by
  unfold State.raise
  split
  · exact report_rest _ _ _
  · rfl

theorem raiseDevice_rest :
    s.raiseDevice d = { s with reporter := (s.raiseDevice d).reporter, link := (s.raiseDevice d).link } :=
  report_rest _ _ _

@[simp] theorem report_partTime : (s.report c e).partTime = s.partTime := by rw [report_rest]
@[simp] theorem report_pool : (s.report c e).pool = s.pool := by rw [report_rest]
@[simp] theorem report_tone : (s.report c e).tone = s.tone := by rw [report_rest]
@[simp] theorem report_profiles : (s.report c e).profiles = s.profiles := by rw [report_rest]
@[simp] theorem report_battery : (s.report c e).battery = s.battery := by rw [report_rest]
@[simp] theorem report_freeCount : (s.report c e).freeCount = s.freeCount := by rw [report_rest]
@[simp] theorem report_pending : (s.report c e).pending = s.pending := by rw [report_rest]
@[simp] theorem report_lines : (s.report c e).lines = s.lines := by rw [report_rest]

@[simp] theorem raise_partTime : (s.raise l b).partTime = s.partTime := by rw [raise_rest]; rfl
@[simp] theorem raise_pool : (s.raise l b).pool = s.pool := by rw [raise_rest]; rfl
@[simp] theorem raise_tone : (s.raise l b).tone = s.tone := by rw [raise_rest]; rfl
@[simp] theorem raise_profiles : (s.raise l b).profiles = s.profiles := by rw [raise_rest]; rfl
@[simp] theorem raise_battery : (s.raise l b).battery = s.battery := by rw [raise_rest]; rfl
@[simp] theorem raise_freeCount : (s.raise l b).freeCount = s.freeCount := by rw [raise_rest]; rfl
@[simp] theorem raise_pending : (s.raise l b).pending = s.pending := by rw [raise_rest]; rfl

theorem raise_line : (s.raise l b).line m = (s.modRep l fun r => { r with latched := r.latched ||| kindBit b.kind }).line m := by
  rw [raise_rest]
  rfl

@[simp] theorem raise_line_self : (s.raise l b).line l =
    { s.line l with rep := { (s.line l).rep with latched := (s.line l).rep.latched ||| kindBit b.kind } } := by
  simp [raise_line]

@[simp] theorem raise_line_ne {m : Line} (h : m ≠ l) : (s.raise l b).line m = s.line m := by simp [raise_line, h]

@[simp] theorem raise_line_lsu : ((s.raise l b).line m).lsu = (s.line m).lsu := by simp [raise_line]
@[simp] theorem raise_line_hook : ((s.raise l b).line m).hook = (s.line m).hook := by simp [raise_line]
@[simp] theorem raise_line_dial : ((s.raise l b).line m).dial = (s.line m).dial := by simp [raise_line]
@[simp] theorem raise_line_pool : ((s.raise l b).line m).pool = (s.line m).pool := by simp [raise_line]
@[simp] theorem raise_line_test : ((s.raise l b).line m).test = (s.line m).test := by simp [raise_line]
@[simp] theorem raise_line_fault : ((s.raise l b).line m).fault = (s.line m).fault := by simp [raise_line]
@[simp] theorem raise_line_prof : ((s.raise l b).line m).prof = (s.line m).prof := by simp [raise_line]
@[simp] theorem raise_receiver (r : Rx) : (s.raise l b).receiver r = s.receiver r := by simp [State.receiver]

@[simp] theorem raiseDevice_partTime : (s.raiseDevice d).partTime = s.partTime := report_partTime _ _ _
@[simp] theorem raiseDevice_pool : (s.raiseDevice d).pool = s.pool := report_pool _ _ _
@[simp] theorem raiseDevice_tone : (s.raiseDevice d).tone = s.tone := report_tone _ _ _
@[simp] theorem raiseDevice_profiles : (s.raiseDevice d).profiles = s.profiles := report_profiles _ _ _
@[simp] theorem raiseDevice_battery : (s.raiseDevice d).battery = s.battery := report_battery _ _ _
@[simp] theorem raiseDevice_freeCount : (s.raiseDevice d).freeCount = s.freeCount := report_freeCount _ _ _
@[simp] theorem raiseDevice_pending : (s.raiseDevice d).pending = s.pending := report_pending _ _ _
@[simp] theorem raiseDevice_lines : (s.raiseDevice d).lines = s.lines := report_lines _ _ _
@[simp] theorem raiseDevice_line : (s.raiseDevice d).line m = s.line m := report_line _ _ _ _

end

/-! ## Operations that raise no event -/

/-- The reporter and the link of a state. -/
def State.wire (s : State) : Reporter × Link := (s.reporter, s.link)

section

variable (s : State) (l : Line) (r : Rx)

@[simp] theorem setLine_wire (v : LineRec) : (s.setLine l v).wire = s.wire := rfl
@[simp] theorem modLsu_wire (f : Lsu → Lsu) : (s.modLsu l f).wire = s.wire := rfl
@[simp] theorem modHook_wire (f : HookRec → HookRec) : (s.modHook l f).wire = s.wire := rfl
@[simp] theorem modDial_wire (f : DialRec → DialRec) : (s.modDial l f).wire = s.wire := rfl
@[simp] theorem modPoolLine_wire (f : PoolLine → PoolLine) : (s.modPoolLine l f).wire = s.wire := rfl
@[simp] theorem modTest_wire (f : TestLine → TestLine) : (s.modTest l f).wire = s.wire := rfl
@[simp] theorem modFault_wire (f : FaultRec → FaultRec) : (s.modFault l f).wire = s.wire := rfl
@[simp] theorem modProf_wire (f : ProfLine → ProfLine) : (s.modProf l f).wire = s.wire := rfl
@[simp] theorem modRep_wire (f : RepLine → RepLine) : (s.modRep l f).wire = s.wire := rfl
@[simp] theorem modEveryLsu_wire (f : LineRec → Lsu) : (s.modEveryLsu f).wire = s.wire := by simp [State.wire]
@[simp] theorem modEngine_wire (f : Engine → Engine) : (s.modEngine f).wire = s.wire := rfl
@[simp] theorem setReceiver_wire (v : Option Receiver) : (s.setReceiver r v).wire = s.wire := rfl

@[simp] theorem assign_wire : (s.assign r l).wire = s.wire := rfl
@[simp] theorem joinWait_wire : (s.joinWait l).wire = s.wire := rfl
@[simp] theorem requestReceiver_wire : (s.requestReceiver l).wire = s.wire := by
  unfold State.requestReceiver; repeat' split
  all_goals simp
@[simp] theorem returnReceiver_wire : (s.returnReceiver r l).wire = s.wire := by
  simp only [State.returnReceiver]; split <;> rfl
@[simp] theorem removeWait_wire : (s.removeWait l).wire = s.wire := rfl
@[simp] theorem giveUpReceiver_wire : (s.giveUpReceiver l).wire = s.wire := by
  unfold State.giveUpReceiver; repeat' split
  all_goals simp
@[simp] theorem modHeldReceiver_wire (f : Receiver → Receiver) : (s.modHeldReceiver l f).wire = s.wire := by
  unfold State.modHeldReceiver; split <;> rfl
@[simp] theorem firstSync_wire : s.firstSync.wire = s.wire := by
  unfold State.firstSync; split <;> rfl
@[simp] theorem reachBoundary_wire (frame : Nat) : (s.reachBoundary frame).wire = s.wire := rfl
@[simp] theorem startReceiver_wire (frame : Nat) : (s.startReceiver r frame).wire = s.wire := by
  unfold State.startReceiver; repeat' split
  all_goals rfl
@[simp] theorem discardPulses_wire : (s.discardPulses l).wire = s.wire := rfl
@[simp] theorem receiverStep_wire : (s.receiverStep l).wire = s.wire := by
  unfold State.receiverStep; split <;> simp
@[simp] theorem armCollection_wire : (s.armCollection l).wire = s.wire := by
  unfold State.armCollection; simp only [receiverStep_wire, modDial_wire]; split <;> simp
@[simp] theorem offHookNotice_wire : (s.offHookNotice l).wire = s.wire := by
  unfold State.offHookNotice; split <;> simp
@[simp] theorem fixMode_wire (m : Method) : (s.fixMode l m).wire = s.wire := by
  unfold State.fixMode; split <;> simp
@[simp] theorem endCollection_none_wire : (s.endCollection l none).wire = s.wire := by
  unfold State.endCollection; split <;> simp

@[simp] theorem applyProfile_wire : (s.applyProfile l).wire = s.wire := rfl
@[simp] theorem reperiodLine_wire : (s.reperiodLine l).wire = s.wire := rfl
@[simp] theorem rethresholdLine_wire : (s.rethresholdLine l).wire = s.wire := rfl
@[simp] theorem enterLearning_wire : (s.enterLearning l).wire = s.wire := rfl
@[simp] theorem isolate_wire : (s.isolate l).wire = s.wire := rfl
@[simp] theorem setRetestDue_wire : (s.setRetestDue l).wire = s.wire := rfl
@[simp] theorem leaveQuarantine_wire : (s.leaveQuarantine l).wire = s.wire := rfl

@[simp] theorem connect_wire : (s.connect l).wire = s.wire := by simp [State.connect, State.holdReceiver]
@[simp] theorem disconnect_wire : (s.disconnect l).wire = s.wire := rfl
@[simp] theorem beginTest_wire (c : TestCtx) (e : EngineState) : (s.beginTest c e).wire = s.wire := by simp [State.beginTest]
@[simp] theorem beginStep_wire (c : TestCtx) (p : Step) : (s.beginStep c p).wire = s.wire := rfl
@[simp] theorem enterSuspended_wire : s.enterSuspended.wire = s.wire := rfl
@[simp] theorem placeAuto_wire : (s.placeAuto l).wire = s.wire := by
  unfold State.placeAuto; repeat' split
  all_goals rfl
@[simp] theorem fileOwed_wire : s.fileOwed.wire = s.wire := by
  unfold State.fileOwed; split <;> simp
@[simp] theorem serveOwed_wire : s.serveOwed.wire = s.wire := by
  unfold State.serveOwed; split <;> simp
@[simp] theorem runEntry_wire (q : TestReq) : (s.runEntry q).wire = s.wire := by simp [State.runEntry]
@[simp] theorem resumeSweep_wire (c : SweepCtx) : (s.resumeSweep c).wire = s.wire := by simp [State.resumeSweep]
@[simp] theorem startSweep_wire : s.startSweep.wire = s.wire := by
  simp only [State.startSweep]; split <;> simp
@[simp] theorem storeResult_wire (v : ResultRec) : (s.storeResult v).wire = s.wire := rfl
@[simp] theorem clearRunning_wire (c : TestCtx) : (s.clearRunning c).wire = s.wire := rfl
@[simp] theorem holdSweep_wire (c : TestCtx) : (s.holdSweep c).wire = s.wire := rfl
@[simp] theorem fileOwedLoop_wire (n : Nat) : (State.fileOwedLoop n s).wire = s.wire := by
  induction n generalizing s with
  | zero => rfl
  | succ n ih => unfold State.fileOwedLoop; split <;> simp [ih]
@[simp] theorem abortQueued_wire : (s.abortQueued l).1.wire = s.wire := by
  unfold State.abortQueued; split <;> simp
@[simp] theorem abortHeldSweep_wire : (s.abortHeldSweep l).1.wire = s.wire := by
  unfold State.abortHeldSweep; repeat' split
  all_goals simp

@[simp] theorem seize_wire : (s.seize l).wire = s.wire := rfl
@[simp] theorem markMake_wire : (s.markMake l).wire = s.wire := rfl
@[simp] theorem pulseBreak_wire : (s.pulseBreak l).wire = s.wire := rfl
@[simp] theorem endLearning_wire : (s.endLearning l).wire = s.wire := rfl
@[simp] theorem endWindow_wire : (s.endWindow l).wire = s.wire := by simp [State.endWindow, State.resumeReceiver]
@[simp] theorem recordSample_wire (i : Nat) (ov : Bool) : (s.recordSample l i ov).wire = s.wire := rfl
@[simp] theorem reperiodAll_wire : s.reperiodAll.wire = s.wire := by simp [State.reperiodAll]
@[simp] theorem takeUpProfile_wire : (s.takeUpProfile l).wire = s.wire := by
  unfold State.takeUpProfile; split <;> simp
@[simp] theorem writeProfile_wire (p : ProfNo) (v : Profile) : (s.writeProfile p v).wire = s.wire := by
  unfold State.writeProfile
  have h : ∀ (ls : List Line) (u : State),
      (ls.foldl (fun s l => if (s.line l).prof.number = p then s.takeUpProfile l else s) u).wire = u.wire := by
    intro ls
    induction ls with
    | nil => exact fun _ => rfl
    | cons l ls ih =>
      intro u
      rw [List.foldl_cons, ih]
      split <;> simp
  exact h _ _
@[simp] theorem assignProfile_wire (p : ProfNo) : (s.assignProfile l p).wire = s.wire := by
  unfold State.assignProfile; split <;> simp
@[simp] theorem moveSlot_wire (t : Timeslot) : (s.moveSlot l t).wire = s.wire := by simp [State.moveSlot, State.markSlotChange]

end

/-! ## Operations that raise events -/

/-- A property of the reporter and the link alone that every event of the blocks keeps. -/
structure WireClosed (P : State → Prop) : Prop where
  same : ∀ {s t}, P s → t.wire = s.wire → P t
  raise : ∀ s l b, P s → P (s.raise l b)
  battery : ∀ s v st, P s → P (s.raiseDevice (.battery v st))
  scanMode : ∀ s m, P s → P (s.raiseDevice (.scanMode m))

namespace WireClosed

variable {P : State → Prop} (h : WireClosed P) {s : State} {l : Line}
include h

theorem endCollection (e : Option LineEvent) (hs : P s) : P (s.endCollection l e) := by
  cases e with
  | none => exact h.same hs (by simp)
  | some b =>
    unfold State.endCollection
    split
    · exact h.raise _ l b (h.same hs (by simp))
    · exact h.same hs (by simp)

theorem takeDigit (k : Key) (m : Method) (hs : P s) : P (s.takeDigit l k m) :=
  h.same (h.raise _ l _ (h.same hs (by simp))) rfl

theorem bufferFull (hs : P s) : P (s.bufferFull l) := h.endCollection _ (h.same hs rfl)

theorem collectDigit (k : Key) (m : Method) (hs : P s) : P (s.collectDigit l k m) := by
  simp only [State.collectDigit]
  repeat' split
  · exact h.takeDigit k m hs
  · exact h.bufferFull hs
  · exact hs

theorem collectFlash (hs : P s) : P (s.collectFlash l) := by
  simp only [State.collectFlash]
  repeat' split
  · exact hs
  · exact h.same hs rfl
  · exact h.same hs rfl
  · exact h.bufferFull hs
  · exact hs

theorem firstDigitExpiry (hs : P s) : P (s.firstDigitExpiry l) := by
  unfold State.firstDigitExpiry
  split
  · exact h.endCollection _ hs
  · exact hs

theorem endDiallingExpiry (hs : P s) : P (s.endDiallingExpiry l) := by
  unfold State.endDiallingExpiry
  split
  · exact h.endCollection _ hs
  · exact hs

theorem moveDetector (r : Rx) (rec : Receiver) (b : Option Key) (hs : P s) : P (s.moveDetector r rec b) := by
  simp only [State.moveDetector]
  split
  · exact h.collectDigit _ _ (h.same hs rfl)
  · exact h.same hs rfl

theorem blockDone (r : Rx) (frames : List HighwayFrame) (hs : P s) : P (s.blockDone r frames) := by
  unfold State.blockDone State.completeBlock
  repeat' split
  · exact h.same hs rfl
  · exact h.moveDetector _ _ _ (h.same hs rfl)
  all_goals exact hs

theorem honourProfile (hs : P s) : P (s.honourProfile l) := by
  unfold State.honourProfile
  split
  · exact h.raise _ l _ (h.same hs rfl)
  · exact hs

theorem joinSticky (k : FaultSet) (hs : P s) : P (s.joinSticky l k) := by
  simp only [State.joinSticky]
  split
  · exact h.same hs rfl
  · exact h.raise _ l _ (h.same hs rfl)

theorem enterQuarantine (hs : P s) : P (s.enterQuarantine l) := by
  have htold : P ((s.isolate l).raise l .quarantined) := h.raise _ l _ (h.same hs (isolate_wire s l))
  have hended := h.honourProfile (l := l) (h.endCollection (l := l) none htold)
  exact h.same (h.same hended (modFault_wire _ l _)) (setRetestDue_wire _ l)

theorem countVerdict (v : FaultSet) (hs : P s) : P (s.countVerdict l v) := by
  unfold State.countVerdict
  repeat' split
  · exact h.raise _ l _ (h.same hs rfl)
  all_goals exact h.same hs rfl

theorem actOnVerdict (v : FaultSet) (hs : P s) : P (s.actOnVerdict l v) := by
  unfold State.actOnVerdict
  repeat' split
  all_goals first | exact h.enterQuarantine hs | exact h.same hs rfl

theorem takeVerdict (v : FaultSet) (hs : P s) : P (s.takeVerdict l v) := by
  have hj := h.joinSticky (l := l) v hs
  simp only [State.takeVerdict]
  split
  · exact h.countVerdict v hj
  all_goals exact h.actOnVerdict v hj

theorem dropTest (b : Bool) (hs : P s) : P (s.dropTest l b) := by
  unfold State.dropTest
  split
  · exact h.raise _ l _ hs
  · exact hs

theorem chooseLoop (n : Nat) (hs : P s) : P (State.chooseLoop n s) := by
  induction n generalizing s with
  | zero => exact h.same hs rfl
  | succ n ih =>
    simp only [State.chooseLoop]
    repeat' split
    all_goals first
      | exact h.same hs (by simp)
      | exact ih (h.dropTest _ (h.same hs (by simp)))
      | exact ih (h.same hs (by simp))

theorem chooseWork (hs : P s) : P s.chooseWork := h.chooseLoop _ hs

theorem fileAuto (hs : P s) : P (s.fileAuto l) := by
  have hp : P (s.placeAuto l) := h.same hs (by simp)
  simp only [State.fileAuto]
  split
  · exact h.chooseWork hp
  · exact hp

theorem finishDone (c : TestCtx) (hs : P s) : P (s.finishDone c) := by
  have hv : ∀ v r, P ((s.takeVerdict c.line v).storeResult r) := fun v r => h.same (h.takeVerdict v hs) rfl
  simp only [State.finishDone]
  split
  · exact h.raise _ _ _ (hv _ _)
  · exact hv _ _

theorem finishAborted (c : TestCtx) (hs : P s) : P (s.finishAborted c) := h.raise _ _ _ (h.same hs rfl)

theorem finishAbandoned (c : TestCtx) (hs : P s) : P (s.finishAbandoned c) := by
  simp only [State.finishAbandoned]
  split
  · exact h.raise _ _ _ (h.same hs rfl)
  · exact h.same hs rfl

theorem abandon (c : TestCtx) (hs : P s) : P (s.abandon c) := by
  have hf : P ((s.disconnect c.line).finishAbandoned c) := h.finishAbandoned c (h.same hs rfl)
  simp only [State.abandon]
  split <;> exact h.same hf rfl

theorem requestSuspension (hs : P s) : P (s.requestSuspension l) := by
  have hcount : P { s with freeCount := s.freeCount + 1 } := h.same hs rfl
  unfold State.requestSuspension State.suspendInFlight
  repeat' split
  all_goals first
    | exact hs
    | exact h.same hs rfl
    | next c hc hl =>
      obtain ⟨-, hx⟩ | ⟨-, -, hx⟩ | ⟨-, -, hx⟩ := s.crossInFlight_cases c <;> rw [hx]
      · exact h.abandon c hs
      · exact h.same hs rfl
      · exact h.abandon c hcount

theorem afterCross (c : TestCtx) (hs : P s) : P (s.afterCross c) := by
  unfold State.afterCross
  split
  · exact h.requestSuspension hs
  · exact hs

theorem endDone (c : TestCtx) (hs : P s) : P (s.endDone c) := by
  have hf : P ((s.disconnect c.line).finishDone c) := h.finishDone c (h.same hs (disconnect_wire s _))
  exact h.afterCross c (h.chooseWork (h.same hf (clearRunning_wire _ c)))

theorem endAborted (c : TestCtx) (hs : P s) : P (s.endAborted c) := by
  have hf : P ((s.disconnect c.line).finishAborted c) := h.finishAborted c (h.same hs (disconnect_wire s _))
  exact h.afterCross c (h.chooseWork (h.same hf (clearRunning_wire _ c)))

theorem phaseDone (c : TestCtx) (b : Bool) (hs : P s) : P (s.phaseDone c b) := by
  have hhold : P ((s.holdSweep c).chooseWork) := h.chooseWork (h.same hs rfl)
  unfold State.phaseDone State.runningPhaseDone State.steppingPhaseDone
  repeat' split
  all_goals first
    | exact h.endAborted c hs
    | exact h.endDone c hs
    | exact hhold
    | exact h.same hs rfl

theorem settleDone (hs : P s) : P s.settleDone := by
  unfold State.settleDone
  repeat' split
  · exact h.phaseDone _ _ hs
  all_goals exact hs

theorem stepDone (a b : Int) (hs : P s) : P (s.stepDone a b) := by
  unfold State.stepDone
  repeat' split
  · exact h.phaseDone _ _ hs
  all_goals exact hs

theorem abortTests (hs : P s) : P (s.abortTests l).1 := by
  have hrun : P (s.abortRunning l).1 := by
    unfold State.abortRunning
    repeat' split
    · exact h.same hs rfl
    · exact h.same (h.finishAborted _ hs) rfl
    all_goals exact hs
  exact h.same hrun (by simp [State.abortTests])

theorem resumeHeld (hs : P s) : P s.resumeHeld := by
  unfold State.resumeHeld
  repeat' split
  · exact h.same hs (beginTest_wire _ _ _)
  · exact h.chooseWork (h.same (h.dropTest _ hs) (modEngine_wire _ _))
  · exact h.chooseWork hs

theorem resumeTesting (hs : P s) : P s.resumeTesting :=
  h.resumeHeld (h.same (h.same hs (modEngine_wire _ _)) (fileOwedLoop_wire _ _))

theorem sweepExpiry (hs : P s) : P s.sweepExpiry := by
  simp only [State.sweepExpiry]
  repeat' split
  · exact h.chooseWork (h.same hs rfl)
  · exact h.same hs rfl
  · exact hs

theorem powerCross (hs : P s) : P (s.powerCross l) := by
  have hpx := h.raise _ l .powerCross (h.joinSticky (l := l) FaultSet.px hs)
  unfold State.powerCross
  split
  · exact hs
  · exact h.requestSuspension (h.same hpx rfl)
  all_goals exact h.requestSuspension (h.enterQuarantine hpx)

theorem retestExpiry (hs : P s) : P (s.retestExpiry l) := by
  unfold State.retestExpiry
  repeat' split
  · exact h.same hs rfl
  · exact h.same (h.fileAuto hs) rfl
  · exact hs

theorem returnToIdle (hs : P s) : P (s.returnToIdle l) := by
  simp only [State.returnToIdle]
  split
  · exact h.enterQuarantine (h.same hs rfl)
  · exact h.honourProfile (h.same hs rfl)

theorem closeIf (b : Bool) (hs : P s) : P (s.closeIf l b) := by
  simp only [State.closeIf, State.closeDigit]
  repeat' split
  · exact h.collectDigit _ _ (h.same hs rfl)
  · exact h.raise _ l _ (h.same hs rfl)
  · exact hs

theorem seizingSample (i : Nat) (hs : P s) : P (s.seizingSample l i) := by
  unfold State.seizingSample State.declareOffHook
  repeat' split
  · exact h.same (h.raise (s.modHook l _) l .offHook (h.same hs (modHook_wire _ _ _))) (offHookNotice_wire _ _)
  · exact hs
  · exact h.returnToIdle (h.same hs rfl)

theorem offHookSample (i : Nat) (hs : P s) : P (s.offHookSample l i) := by
  simp only [State.offHookSample]
  split
  · exact h.same (h.closeIf _ hs) rfl
  · exact h.closeIf _ hs

theorem classifyBreak (len : Nat) (hs : P s) : P (s.classifyBreak l len) := by
  simp only [State.classifyBreak]
  repeat' split
  · exact hs
  · exact h.same hs rfl
  · exact h.same hs rfl
  · exact h.collectFlash (h.raise _ l _ (h.same hs rfl))

theorem breakSample (i : Nat) (hs : P s) : P (s.breakSample l i) := by
  simp only [State.breakSample, State.release, State.make]
  repeat' split
  · exact h.returnToIdle (h.same (h.endCollection none (h.raise _ l _ (h.closeIf _ hs))) rfl)
  · exact h.classifyBreak _ (h.same (h.closeIf _ hs) rfl)
  · exact h.closeIf _ hs

theorem restingSample (i : Nat) (hs : P s) : P (s.restingSample l i) := by
  simp only [State.restingSample, State.restingUpdate, State.leakageSuspicion]
  repeat' split
  · exact h.same hs rfl
  · exact h.fileAuto (h.raise _ l _ (h.joinSticky _ (h.same hs rfl)))
  · exact h.same hs rfl

theorem dispatchSample (i : Nat) (hs : P s) : P (s.dispatchSample l i) := by
  unfold State.dispatchSample State.learningSample
  repeat' split
  · exact h.same hs rfl
  · exact h.restingSample i (h.same hs rfl)
  · exact h.restingSample i hs
  · exact h.seizingSample i hs
  · exact h.offHookSample i hs
  · exact h.breakSample i hs
  all_goals exact hs

theorem sample (i : Nat) (ov : Bool) (hs : P s) : P (s.sample l i ov) := by
  unfold State.sample State.takeSample State.usableSample
  dsimp only
  repeat' split
  · exact h.powerCross (h.same hs rfl)
  · exact h.same hs rfl
  · exact h.dispatchSample _ (h.same hs (by simp))
  · exact h.dispatchSample _ (h.same hs rfl)
  · exact hs

theorem deriveMode (hs : P s) : P s.deriveMode := by
  simp only [State.deriveMode]
  split
  · exact hs
  · exact h.scanMode _ _ (h.same (h.same hs rfl) (reperiodAll_wire _))

theorem readBattery (v : Nat) (hs : P s) : P (s.readBattery v) := by
  simp only [State.readBattery]
  repeat' split
  · exact h.deriveMode (h.battery _ _ _ (h.same hs rfl))
  · exact h.same hs rfl
  · exact hs

theorem takeOut (hs : P s) : P (s.takeOut l) := by
  simp only [State.takeOut]
  split <;> exact h.honourProfile (h.same hs (by simp))

/-- A command of the catalogue keeps such a property, if SET_CLASS_MAP and RESET do. -/
theorem effect (hmap : ∀ (s : State) classes m, classMapOf classes = some m → P s →
      P { s with reporter := { s.reporter with classMap := m } })
    (hreset : ∀ s, P s → P (s.modLink fun k => { k with resetRequested := true })) {t : State} (ht : Effect s t)
    (hs : P s) : P t := by
  cases ht with
  | nothing => exact hs
  | clearLatched l => exact h.same hs (modRep_wire _ _ _)
  | writeProfile p fields v changed _ => exact h.same hs (writeProfile_wire _ _ _)
  | assignProfile l p => exact h.same hs (assignProfile_wire _ _ _)
  | takeOut l _ => exact h.takeOut hs
  | putIn l _ => exact h.same hs rfl
  | moveSlot l t _ _ => exact h.same hs (moveSlot_wire _ _ _)
  | setMask l kinds => exact h.same hs (modRep_wire _ _ _)
  | setClassMap classes m hm => exact hmap s classes m hm hs
  | setTone p => exact h.same hs rfl
  | setScan setting index =>
    unfold State.setScan
    dsimp only
    split
    · exact h.deriveMode (h.same hs rfl)
    · exact h.same hs rfl
  | setSweep on interval steps => exact h.same hs (modEngine_wire _ _)
  | arm l _ => exact h.same hs (armCollection_wire _ _)
  | endCollection l _ => exact h.endCollection _ hs
  | clearBuffer l => exact h.same hs (modDial_wire _ _ _)
  | mergeHost l steps force => exact h.same hs (modEngine_wire _ _)
  | fileHost l steps force _ _ _ =>
    unfold State.fileHost
    dsimp only
    split
    · exact h.chooseWork (h.same hs (modEngine_wire _ _))
    · exact h.same hs (modEngine_wire _ _)
  | abort l => exact h.abortTests hs
  | resume _ => exact h.resumeTesting hs
  | ack l left => exact h.same hs (modFault_wire _ _ _)
  | release l _ => exact h.same hs (leaveQuarantine_wire _ _)
  | reset => exact hreset s hs

end WireClosed

/-! ## A free transmitter has nothing to send (R170) -/

theorem txChoose_sendsNothing (s : State) : FreeMeansNothingToSend s.txChoose := by
  intro _ htx
  unfold State.txChoose at htx ⊢
  repeat' split
  all_goals simp_all

theorem answer_sends (s : State) (r : Reply) : FreeMeansNothingToSend (s.answer r) := txChoose_sendsNothing _

theorem FreeMeansNothingToSend.congr {s t : State} (hs : FreeMeansNothingToSend s) (h : t.wire = s.wire) :
    FreeMeansNothingToSend t := by
  simp only [State.wire, Prod.mk.injEq] at h
  simpa only [FreeMeansNothingToSend, h.1, h.2] using hs

/-- The frame receiver, the reset fields and RESETN low do not put anything before a free transmitter. -/
theorem FreeMeansNothingToSend.modLink {s : State} (hs : FreeMeansNothingToSend s) (f : Link → Link)
    (htx : (f s.link).tx = s.link.tx) (hslot : (f s.link).slot = s.link.slot)
    (hbusy : (f s.link).busyPending = s.link.busyPending) (hlow : (f s.link).resetnLow = s.link.resetnLow) :
    FreeMeansNothingToSend (s.modLink f) := by
  simpa only [FreeMeansNothingToSend, modLink_link, modLink_reporter, htx, hslot, hbusy, hlow] using hs

theorem wireClosed_sendsNothing : WireClosed FreeMeansNothingToSend where
  same := FreeMeansNothingToSend.congr
  raise s l b hs := by
    unfold State.raise
    split
    · exact txChoose_sendsNothing _
    · exact hs.congr (modRep_wire _ _ _)
  battery s v st _ := txChoose_sendsNothing _
  scanMode s m _ := txChoose_sendsNothing _

theorem execute_sendsNothing (s : State) (run : State → State × Reply) : FreeMeansNothingToSend (s.execute run) := by
  obtain ⟨n, h⟩ | ⟨-, n, h⟩ := execute_cases s run <;> rw [h] <;> exact answer_sends _ _

theorem takes_sendsNothing {s t : State} (hs : FreeMeansNothingToSend s) (ht : Takes s t) : FreeMeansNothingToSend t := by
  have hrx : FreeMeansNothingToSend (s.modLink fun k => { k with rx := .hunting }) := hs.modLink _ rfl rfl rfl rfl
  cases ht with
  | nothing => exact hs
  | frame run hrun =>
    unfold State.goodFrame
    dsimp only
    repeat' split
    · exact hrx
    · exact txChoose_sendsNothing _
    · exact execute_sendsNothing _ _
  | badFrame =>
    unfold State.badFrame
    dsimp only
    repeat' split
    · exact hrx
    · exact txChoose_sendsNothing _
    · exact answer_sends _ _
  | receive r => exact hs.modLink _ rfl rfl rfl rfl
  | turnAway h => exact txChoose_sendsNothing _
  | nextFrame f h => exact txChoose_sendsNothing _
  | commandReset => exact txChoose_sendsNothing _
  | sample l i ov => exact wireClosed_sendsNothing.sample i ov hs
  | firstSync => exact hs.congr (firstSync_wire s)
  | startReceiver r frame => exact hs.congr (startReceiver_wire s r frame)
  | blockDone r frames => exact wireClosed_sendsNothing.blockDone r frames hs
  | firstDigitExpiry l => exact wireClosed_sendsNothing.firstDigitExpiry hs
  | endDiallingExpiry l => exact wireClosed_sendsNothing.endDiallingExpiry hs
  | retestExpiry l => exact wireClosed_sendsNothing.retestExpiry hs
  | sweepExpiry => exact wireClosed_sendsNothing.sweepExpiry hs
  | readBattery volts => exact wireClosed_sendsNothing.readBattery volts hs
  | settleDone => exact wireClosed_sendsNothing.settleDone hs
  | stepDone a b => exact wireClosed_sendsNothing.stepDone a b hs

/-- Settles O12: every command ends in the transmitter's choice or leaves the link as it is, and the choice leaves nothing. -/
theorem freeTransmitterHasNothingToSend : Obligations.FreeTransmitterHasNothingToSend := by
  intro s t
  refine KeptByArrivals.step (P := FreeMeansNothingToSend)
    { pending := fun s q hs => hs
      time := fun s now hs => hs
      cold := fun s cause _ => txChoose_sendsNothing _
      reset := fun s _ => txChoose_sendsNothing _
      low := fun s _ hlow => by cases hlow
      takes := fun s t _ hs ht => takes_sendsNothing hs ht }

/-! ## Law 11 (R163) -/

theorem LawEleven.congr {s t : State} (hs : LawEleven s) (h : t.reporter = s.reporter) : LawEleven t := by
  obtain ⟨h1, h2, h3, h4, h5, h6, h7⟩ := hs
  rw [← h] at h1 h2 h3 h4 h5 h6 h7
  exact ⟨h1, h2, h3, h4, h5, h6, h7⟩

theorem LawEleven.removePrio {s : State} (hs : LawEleven s) {e : Event} {q : List Event} (hq : s.reporter.prio = e :: q)
    (stamp : BitVec 16) (k : Link) : LawEleven { s with reporter := s.reporter.removeHead .priority q stamp, link := k } := by
  obtain ⟨hcap, hncap, hflag, hnflag, honly, hpx, hstart⟩ := hs
  simp only [hq, List.length_cons] at hcap hflag
  unfold Reporter.removeHead
  cases hf : s.reporter.overflow .priority with
  | true =>
    have hfull := hflag hf
    constructor <;> simp_all [Reporter.setQueue]
  | false =>
    constructor <;> simp_all [Reporter.setQueue]
    omega

theorem LawEleven.removeNorm {s : State} (hs : LawEleven s) {e : Event} {q : List Event} (hq : s.reporter.norm = e :: q)
    (stamp : BitVec 16) (k : Link) : LawEleven { s with reporter := s.reporter.removeHead .normal q stamp, link := k } := by
  obtain ⟨hcap, hncap, hflag, hnflag, honly, hpx, hstart⟩ := hs
  simp only [hq, List.length_cons, List.mem_cons] at hncap hnflag honly
  unfold Reporter.removeHead
  cases hf : s.reporter.overflow .normal with
  | true =>
    have hfull := hnflag hf
    constructor <;> simp_all [Reporter.setQueue]
    rintro x (hx | rfl)
    · exact honly.2 x hx
    · rfl
  | false =>
    constructor <;> simp_all [Reporter.setQueue]
    omega

theorem LawEleven.txChoose {s : State} (hs : LawEleven s) : LawEleven s.txChoose := by
  unfold State.txChoose
  repeat' split
  · exact hs
  · exact hs.congr rfl
  · exact hs.congr rfl
  · next hq => exact hs.removePrio hq _ _
  · next hq => exact hs.removeNorm hq _ _
  · exact hs

/-- An event that stands only in the PRIORITY queue is put there. -/
theorem LawEleven.report {s : State} (hs : LawEleven s) (c : EventClass) (e : Event)
    (hc : e.priorityOnly = true → c = .priority) : LawEleven (s.report c e) := by
  refine LawEleven.txChoose ?_
  obtain ⟨hcap, hncap, hflag, hnflag, honly, hpx, hstart⟩ := hs
  unfold Reporter.enqueue
  cases c with
  | priority =>
    split
    · next hroom =>
      have hroom : s.reporter.prio.length < 16 := hroom
      constructor <;> simp_all [Reporter.setQueue, Reporter.queue, Reporter.overflow]
      exact Bool.eq_false_iff.mpr fun hf => absurd (hflag hf) (by omega)
    · next hroom =>
      have hroom : ¬ s.reporter.prio.length < 16 := hroom
      constructor <;> simp_all [Reporter.setQueue, Reporter.queue]
      omega
  | normal =>
    have he : e.priorityOnly = false := by
      cases h : e.priorityOnly with
      | false => rfl
      | true => cases hc h
    split
    · next hroom =>
      have hroom : s.reporter.norm.length < 48 := hroom
      constructor <;> simp_all [Reporter.setQueue, Reporter.queue, Reporter.overflow]
      · exact Bool.eq_false_iff.mpr fun hf => absurd (hnflag hf) (by omega)
      · rintro x (hx | rfl)
        · exact honly x hx
        · exact he
    · next hroom =>
      have hroom : ¬ s.reporter.norm.length < 48 := hroom
      constructor <;> simp_all [Reporter.setQueue, Reporter.queue]
      omega

theorem LawEleven.raise {s : State} (hs : LawEleven s) (l : Line) (b : LineEvent) : LawEleven (s.raise l b) := by
  have hl := hs.congr (t := s.modRep l fun r => { r with latched := r.latched ||| kindBit b.kind }) rfl
  unfold State.raise
  split
  · refine hl.report _ _ fun hb => ?_
    have hk : b.kind = 12 := by simpa [Event.priorityOnly] using hb
    simp only [State.lineClass, hk]
    exact hs.powerCrossClass
  · exact hl

theorem wireClosed_lawEleven : WireClosed LawEleven where
  same hs h := hs.congr (congrArg Prod.fst h)
  raise s l b hs := hs.raise l b
  battery s v st hs := hs.report _ _ fun h => by cases h
  scanMode s m hs := hs.report _ _ fun h => by cases h

/-- An accepted class map keeps START and POWER_CROSS in PRIORITY (R162). -/
theorem classMapOf_priority {classes : List Byte} {m : Vector EventClass 19} (h : classMapOf classes = some m) :
    m.get 12 = .priority ∧ m.get 16 = .priority := by
  unfold classMapOf at h
  split at h
  · next hok =>
    simp only [Bool.and_eq_true, beq_iff_eq] at hok
    obtain ⟨⟨-, h16⟩, h12⟩ := hok
    cases h
    simp only [List.getD_eq_getElem?_getD] at h12 h16
    simp [Vector.get, Fin.cast, h12, h16, classOf]
  · cases h

theorem LawEleven.runOf {s : State} (hs : LawEleven s) {x : State × Reply} (hx : RunOf s x) : LawEleven x.1 := by
  refine wireClosed_lawEleven.effect (fun s classes m hm hs => ?_) (fun _ hs => hs.congr rfl) (effect_of_runOf hx) hs
  obtain ⟨h12, h16⟩ := classMapOf_priority hm
  exact ⟨hs.prioCap, hs.normCap, hs.prioFlag, hs.normFlag, hs.onlyPrio, h12, h16⟩

theorem LawEleven.answer {s : State} (hs : LawEleven s) (r : Reply) : LawEleven (s.answer r) :=
  (hs.congr (modLink_reporter s _)).txChoose

theorem LawEleven.execute {s : State} (hs : LawEleven s) {run : State → State × Reply} (hrun : ∀ u, RunOf u (run u)) :
    LawEleven (s.execute run) := by
  obtain ⟨k, k', n, h⟩ := execute_eq_run s run
  have hk : LawEleven { s with link := k } := hs.congr rfl
  exact h ▸ (hk.runOf (hrun _)).congr rfl

theorem commandReset_lawEleven {s : State} (hs : LawEleven s) : LawEleven s.commandReset := by
  unfold State.commandReset State.raiseStart State.raiseDevice
  refine LawEleven.report ?_ _ _ fun _ => hs.startClass
  constructor <;> simp [hs.powerCrossClass, hs.startClass]

theorem LawEleven.takes {s t : State} (hs : LawEleven s) (ht : Takes s t) : LawEleven t := by
  have hlink : ∀ f, LawEleven (s.modLink f) := fun f => hs.congr rfl
  cases ht with
  | nothing => exact hs
  | frame run hrun =>
    unfold State.goodFrame
    dsimp only
    repeat' split
    · exact hlink _
    · exact ((hlink _).congr (modLink_reporter _ _)).txChoose
    · exact (hlink _).execute hrun
  | badFrame =>
    unfold State.badFrame
    dsimp only
    repeat' split
    · exact hlink _
    · exact ((hlink _).congr (modLink_reporter _ _)).txChoose
    · exact (hlink _).answer _
  | receive r => exact hlink _
  | turnAway h => exact ((hlink _).congr (modLink_reporter _ _)).txChoose
  | nextFrame f h => exact (hlink _).txChoose
  | commandReset => exact commandReset_lawEleven hs
  | sample l i ov => exact wireClosed_lawEleven.sample i ov hs
  | firstSync => exact wireClosed_lawEleven.same hs (firstSync_wire s)
  | startReceiver r frame => exact wireClosed_lawEleven.same hs (startReceiver_wire s r frame)
  | blockDone r frames => exact wireClosed_lawEleven.blockDone r frames hs
  | firstDigitExpiry l => exact wireClosed_lawEleven.firstDigitExpiry hs
  | endDiallingExpiry l => exact wireClosed_lawEleven.endDiallingExpiry hs
  | retestExpiry l => exact wireClosed_lawEleven.retestExpiry hs
  | sweepExpiry => exact wireClosed_lawEleven.sweepExpiry hs
  | readBattery volts => exact wireClosed_lawEleven.readBattery volts hs
  | settleDone => exact wireClosed_lawEleven.settleDone hs
  | stepDone a b => exact wireClosed_lawEleven.stepDone a b hs

theorem coldReset_lawEleven (s : State) (cause : ResetCause) : LawEleven (s.coldReset cause) := by
  have hempty : LawEleven { State.reset with link := Link.afterReset cause, freeCount := s.freeCount, pending := s.pending } := by
    constructor <;> simp [State.reset] <;> decide
  exact hempty.report .priority _ fun _ => rfl

/-- Settles O14: each event goes to the queue of its class, and each removal makes the place for its OVERFLOW. -/
theorem lawElevenIsKept : Obligations.LawElevenIsKept := by
  intro s t
  refine KeptByArrivals.step (P := LawEleven)
    { pending := fun s q hs => hs.congr rfl
      time := fun s now hs => hs.congr rfl
      cold := fun s cause _ => coldReset_lawEleven s cause
      reset := fun s hs => commandReset_lawEleven hs
      low := fun s hs => hs.congr rfl
      takes := fun s t _ hs ht => hs.takes ht }

end Sys2Proof.Machine


/-! SUPPORT. The part time and the queue, the sweep settings and the other configuration items across every operation, with O2, O24
and O25 (R70, R115, R154, R161, R174). -/

namespace Sys2Proof.Machine

/-! ## The engine and its settings across the operations -/

section

variable (s : State) (l : Line)

@[simp] theorem returnToIdle_engine : (s.returnToIdle l).engine = s.engine := by
  simp only [State.returnToIdle]; split <;> simp
@[simp] theorem seize_engine : (s.seize l).engine = s.engine := rfl
@[simp] theorem declareOffHook_engine : (s.declareOffHook l).engine = s.engine := by simp [State.declareOffHook]
@[simp] theorem seizingSample_engine (i : Nat) : (s.seizingSample l i).engine = s.engine := by
  unfold State.seizingSample; repeat' split
  all_goals simp
@[simp] theorem closeIf_engine (b : Bool) : (s.closeIf l b).engine = s.engine := by
  simp only [State.closeIf, State.closeDigit]; repeat' split
  all_goals simp
@[simp] theorem offHookSample_engine (i : Nat) : (s.offHookSample l i).engine = s.engine := by
  simp only [State.offHookSample]; split <;> simp
@[simp] theorem classifyBreak_engine (n : Nat) : (s.classifyBreak l n).engine = s.engine := by
  simp only [State.classifyBreak, State.pulseBreak, State.markMake]; repeat' split
  all_goals simp
@[simp] theorem breakSample_engine (i : Nat) : (s.breakSample l i).engine = s.engine := by
  simp only [State.breakSample, State.release, State.make]; repeat' split
  all_goals simp
@[simp] theorem endLearning_engine : (s.endLearning l).engine = s.engine := rfl
@[simp] theorem endWindow_engine : (s.endWindow l).engine = s.engine := by simp [State.endWindow, State.resumeReceiver]
@[simp] theorem recordSample_engine (i : Nat) (ov : Bool) : (s.recordSample l i ov).engine = s.engine := rfl
@[simp] theorem firstSync_engine : s.firstSync.engine = s.engine := by
  unfold State.firstSync; split <;> rfl
@[simp] theorem firstSync_kept : s.firstSync.kept = s.kept := by
  unfold State.firstSync; split <;> rfl
@[simp] theorem takeUpProfile_engine : (s.takeUpProfile l).engine = s.engine := by
  unfold State.takeUpProfile; split <;> simp
@[simp] theorem takeOut_engine : (s.takeOut l).engine = s.engine := by
  simp only [State.takeOut]; split <;> simp
@[simp] theorem deriveMode_engine : s.deriveMode.engine = s.engine := by
  simp only [State.deriveMode]; split <;> simp [State.reperiodAll]
@[simp] theorem readBattery_engine (v : Nat) : (s.readBattery v).engine = s.engine := by
  simp only [State.readBattery]; repeat' split
  all_goals simp

@[simp] theorem startTimer_settings (e : Engine) (now : Time) : (e.startTimer now).settings = e.settings := by
  unfold Engine.startTimer; split <;> rfl
@[simp] theorem fullRemaining_settings (e : Engine) : e.fullRemaining.settings = e.settings := by
  unfold Engine.fullRemaining; split <;> rfl
@[simp] theorem pauseTimer_settings (e : Engine) (now : Time) : (e.pauseTimer now).settings = e.settings := by
  unfold Engine.pauseTimer; split <;> rfl
@[simp] theorem resumeTimer_settings (e : Engine) (now : Time) : (e.resumeTimer now).settings = e.settings := by
  unfold Engine.resumeTimer; repeat' split
  all_goals rfl

@[simp] theorem beginTest_settings (c : TestCtx) (st : EngineState) :
    (s.beginTest c st).engine.settings = s.engine.settings := by simp [State.beginTest, Engine.settings]
@[simp] theorem beginStep_settings (c : TestCtx) (p : Step) : (s.beginStep c p).engine.settings = s.engine.settings := rfl
@[simp] theorem enterSuspended_settings : s.enterSuspended.engine.settings = s.engine.settings :=
  pauseTimer_settings s.engine s.partTime
@[simp] theorem placeAuto_settings : (s.placeAuto l).engine.settings = s.engine.settings := by
  unfold State.placeAuto; repeat' split
  all_goals rfl
@[simp] theorem fileOwed_settings : s.fileOwed.engine.settings = s.engine.settings := by
  unfold State.fileOwed; split <;> simp
@[simp] theorem serveOwed_settings : s.serveOwed.engine.settings = s.engine.settings := by
  unfold State.serveOwed; split <;> simp
@[simp] theorem startSweep_settings : s.startSweep.engine.settings = s.engine.settings := by
  simp only [State.startSweep]
  split
  · exact beginTest_settings _ _ _
  · exact startTimer_settings _ _
@[simp] theorem chooseLoop_settings (n : Nat) : (State.chooseLoop n s).engine.settings = s.engine.settings := by
  induction n generalizing s with
  | zero => rfl
  | succ n ih =>
    simp only [State.chooseLoop]
    repeat' split
    all_goals simp only [ih, enterSuspended_settings, State.runEntry, State.resumeSweep, beginTest_settings, serveOwed_settings,
      dropTest_engine, startSweep_settings, modEngine_engine, startTimer_settings]
    all_goals rfl
@[simp] theorem chooseWork_settings : s.chooseWork.engine.settings = s.engine.settings := chooseLoop_settings s _
@[simp] theorem fileAuto_settings : (s.fileAuto l).engine.settings = s.engine.settings := by
  simp only [State.fileAuto]; split <;> simp
@[simp] theorem clearRunning_settings (c : TestCtx) : (s.clearRunning c).engine.settings = s.engine.settings := by
  simp only [State.clearRunning, modEngine_engine]
  split
  · exact startTimer_settings _ _
  · rfl
@[simp] theorem abandon_settings (c : TestCtx) : (s.abandon c).engine.settings = s.engine.settings := by
  have hend : ∀ u : State, ((u.modEngine fun e => { e with running := none }).enterSuspended).engine.settings =
      u.engine.settings := fun u => enterSuspended_settings _
  simp only [State.abandon]
  split <;> simp [hend]
@[simp] theorem requestSuspension_settings : (s.requestSuspension l).engine.settings = s.engine.settings := by
  obtain ⟨-, h⟩ | ⟨-, h⟩ | ⟨-, ⟨c, -, -, h⟩ | ⟨-, h⟩⟩ := s.requestSuspension_cases l <;> rw [h]
  · simp
  · obtain ⟨-, hx⟩ | ⟨-, -, hx⟩ | ⟨-, -, hx⟩ := s.crossInFlight_cases c <;> rw [hx]
    · simp
    · rfl
    · simp
  · rfl
@[simp] theorem afterCross_settings (c : TestCtx) : (s.afterCross c).engine.settings = s.engine.settings := by
  unfold State.afterCross; split <;> simp
@[simp] theorem endDone_settings (c : TestCtx) : (s.endDone c).engine.settings = s.engine.settings := by simp [State.endDone]
@[simp] theorem endAborted_settings (c : TestCtx) : (s.endAborted c).engine.settings = s.engine.settings := by
  simp [State.endAborted]
@[simp] theorem holdSweep_settings (c : TestCtx) : (s.holdSweep c).engine.settings = s.engine.settings := rfl
@[simp] theorem phaseDone_settings (c : TestCtx) (b : Bool) : (s.phaseDone c b).engine.settings = s.engine.settings := by
  unfold State.phaseDone State.runningPhaseDone State.steppingPhaseDone
  repeat' split
  all_goals first
    | rfl
    | simp only [endAborted_settings, endDone_settings, chooseWork_settings, holdSweep_settings, enterSuspended_settings]
  rfl
@[simp] theorem settleDone_settings : s.settleDone.engine.settings = s.engine.settings := by
  unfold State.settleDone; repeat' split
  all_goals simp
@[simp] theorem stepDone_settings (a b : Int) : (s.stepDone a b).engine.settings = s.engine.settings := by
  unfold State.stepDone; repeat' split
  all_goals simp
@[simp] theorem abortTests_settings : (s.abortTests l).1.engine.settings = s.engine.settings := by
  have hrun : ∀ t : State, (t.abortRunning l).1.engine.settings = t.engine.settings := by
    intro t; unfold State.abortRunning; repeat' split
    all_goals simp [Engine.settings]
  have hqueue : ∀ t : State, (t.abortQueued l).1.engine.settings = t.engine.settings := by
    intro t; unfold State.abortQueued
    split
    · exact serveOwed_settings _
    · rfl
  have hsweep : ∀ t : State, (t.abortHeldSweep l).1.engine.settings = t.engine.settings := by
    intro t; unfold State.abortHeldSweep; repeat' split
    all_goals try rfl
    simp only [modEngine_engine]
    split
    · exact fullRemaining_settings _
    · exact startTimer_settings _ _
  simp [State.abortTests, hrun, hqueue, hsweep]
@[simp] theorem fileOwedLoop_settings (n : Nat) : (State.fileOwedLoop n s).engine.settings = s.engine.settings := by
  induction n generalizing s with
  | zero => rfl
  | succ n ih => unfold State.fileOwedLoop; split <;> simp [ih]
@[simp] theorem resumeHeld_settings : s.resumeHeld.engine.settings = s.engine.settings := by
  unfold State.resumeHeld; repeat' split
  all_goals simp
  rfl
@[simp] theorem resumeTesting_settings : s.resumeTesting.engine.settings = s.engine.settings := by
  simp only [State.resumeTesting, resumeHeld_settings, fileOwedLoop_settings]
  exact resumeTimer_settings _ _
@[simp] theorem sweepExpiry_settings : s.sweepExpiry.engine.settings = s.engine.settings := by
  simp only [State.sweepExpiry]; repeat' split
  · exact chooseWork_settings _
  · rfl
  · rfl
@[simp] theorem powerCross_settings : (s.powerCross l).engine.settings = s.engine.settings := by
  unfold State.powerCross; split <;> simp
@[simp] theorem retestExpiry_settings : (s.retestExpiry l).engine.settings = s.engine.settings := by
  unfold State.retestExpiry; repeat' split
  all_goals simp
@[simp] theorem restingSample_settings (i : Nat) : (s.restingSample l i).engine.settings = s.engine.settings := by
  simp only [State.restingSample, State.restingUpdate, State.leakageSuspicion]; repeat' split
  all_goals simp
@[simp] theorem dispatchSample_settings (i : Nat) : (s.dispatchSample l i).engine.settings = s.engine.settings := by
  unfold State.dispatchSample State.learningSample; repeat' split
  all_goals simp
@[simp] theorem sample_settings (i : Nat) (ov : Bool) : (s.sample l i ov).engine.settings = s.engine.settings := by
  unfold State.sample State.takeSample State.usableSample
  dsimp only
  repeat' split
  all_goals simp

end

/-! ## The configuration items (R174) -/

theorem SameSettings.congr {s t u : State} (h : SameSettings s t) (hl : u.lines = t.lines) (hp : u.profiles = t.profiles)
    (hc : u.reporter.classMap = t.reporter.classMap) (ht : u.tone = t.tone) (hb : u.battery = t.battery)
    (he : u.engine = t.engine) : SameSettings s u := by
  refine h.trans ?_
  constructor <;> simp [line_congr t hl, hp, hc, ht, hb, he]

theorem commandReset_sameSettings (s : State) : SameSettings s s.commandReset := by
  have hraise : ∀ u : State, SameSettings u u.raiseStart := fun u =>
    sameSettings_of_kept (raiseDevice_kept _ _) (congrArg Engine.settings (raiseDevice_engine _ _))
  refine SameSettings.trans ?_ (hraise _)
  constructor <;> intros <;> simp [State.line, Vector.get, Fin.cast, LineRec.afterCommand, Engine.afterCommand,
    Engine.startTimer] <;> split <;> rfl

/-- The mode derived afresh, whether it changes or not (R154). -/
theorem deriveMode_battery (s : State) :
    s.deriveMode.battery = { s.battery with mode := scanModeOf s.battery.setting s.battery.state } := by
  simp only [State.deriveMode]
  split
  · next h => rw [h]
  · simp [State.reperiodAll]

/-- The derivation of the mode moves nothing of a line but its sample period. -/
theorem deriveMode_line (s : State) (m : Line) : ∃ u, s.deriveMode.line m = { s.line m with lsu := u } := by
  simp only [State.deriveMode]
  split
  · exact ⟨_, rfl⟩
  · rw [raiseDevice_line]
    exact ⟨_, line_modEveryLsu _ _ m⟩

@[simp] theorem deriveMode_profiles (s : State) : s.deriveMode.profiles = s.profiles := by
  simp only [State.deriveMode]; split <;> simp [State.reperiodAll]
@[simp] theorem deriveMode_tone (s : State) : s.deriveMode.tone = s.tone := by
  simp only [State.deriveMode]; split <;> simp [State.reperiodAll]
@[simp] theorem deriveMode_pool (s : State) : s.deriveMode.pool = s.pool := by
  simp only [State.deriveMode]; split <;> simp [State.reperiodAll]
@[simp] theorem deriveMode_partTime (s : State) : s.deriveMode.partTime = s.partTime := by
  simp only [State.deriveMode]; split <;> simp [State.reperiodAll]
@[simp] theorem deriveMode_pending (s : State) : s.deriveMode.pending = s.pending := by
  simp only [State.deriveMode]; split <;> simp [State.reperiodAll]
@[simp] theorem deriveMode_freeCount (s : State) : s.deriveMode.freeCount = s.freeCount := by
  simp only [State.deriveMode]; split <;> simp [State.reperiodAll]
@[simp] theorem deriveMode_classMap (s : State) : s.deriveMode.reporter.classMap = s.reporter.classMap := by
  simp only [State.deriveMode]; split
  · rfl
  · simp [State.raiseDevice, State.report, State.reperiodAll]

theorem deriveMode_sameSettings (s : State) : SameSettings s s.deriveMode := by
  constructor
  all_goals intros
  all_goals first
    | simp [deriveMode_battery]
    | next l =>
      obtain ⟨u, hu⟩ := deriveMode_line s l
      rw [hu]

theorem readBattery_sameSettings (s : State) (v : Nat) : SameSettings s (s.readBattery v) := by
  simp only [State.readBattery]
  repeat' split
  · refine SameSettings.trans ?_ (deriveMode_sameSettings _)
    refine SameSettings.trans ?_ (sameSettings_of_kept (raiseDevice_kept _ _) (congrArg Engine.settings (raiseDevice_engine _ _)))
    constructor <;> intros <;> rfl
  · constructor <;> intros <;> rfl
  · exact .refl s

theorem goodFrame_sameSettings {run : State → State × Reply} (hrun : ∀ u, SameSettings u (run u).1) (s : State) :
    SameSettings s (s.goodFrame run) := by
  have hturned : SameSettings s ((s.modLink fun k => { k with rx := .hunting }).modLink
      fun k => { k with busyPending := true }).txChoose := by
    constructor <;> intros <;> simp
  unfold State.goodFrame
  dsimp only
  split
  · constructor <;> intros <;> rfl
  split
  · exact hturned
  · obtain ⟨k, k', n, h⟩ := execute_eq_run (s.modLink fun k => { k with rx := .hunting }) run
    rw [h]
    have hbefore : SameSettings s { s.modLink (fun k => { k with rx := .hunting }) with link := k } := by
      constructor <;> intros <;> rfl
    exact (hbefore.trans (hrun _)).congr rfl rfl rfl rfl rfl rfl

theorem badFrame_sameSettings (s : State) : SameSettings s s.badFrame := by
  unfold State.badFrame
  dsimp only
  split
  · constructor <;> intros <;> rfl
  split
  · constructor <;> intros <;> simp
  · rw [answer_eq]
    constructor <;> intros <;> rfl

theorem arrive_sameSettings (s : State) (now : Time) {f : State → State} (hf : ∀ u, SameSettings u (f u)) :
    SameSettings s (s.arrive now f) := by
  unfold State.arrive
  split
  · exact .refl s
  · exact (show SameSettings s { s with partTime := now } by constructor <;> intros <;> rfl).trans (hf _)

/-- The commands that read, collect, test, acknowledge or reset leave the configuration items alone. -/
theorem command_sameSettings {s t : State} {now : Time} {run : State → State × Reply} (hrun : ∀ u, SameSettings u (run u).1)
    (h : s.command now run = .next t) : SameSettings s t := by
  cases h
  exact arrive_sameSettings s now (goodFrame_sameSettings hrun)

theorem onLine_sameSettings {s : State} (kind line : Byte) {f : Line → State × Reply} (h : ∀ l, SameSettings s (f l).1) :
    SameSettings s (s.onLine kind line f).1 := by
  unfold State.onLine
  split
  · exact h _
  · exact .refl s

section

variable (s : State) (l : Line)

theorem modRep_latched_sameSettings : SameSettings s (s.modRep l fun r => { r with latched := 0#16 }) :=
  sameSettings_of_kept (modRep_kept _ _ _ rfl) rfl

theorem runCollectOn_sameSettings (line : Byte) : SameSettings s (runCollectOn line s).1 := by
  refine onLine_sameSettings _ _ fun l => ?_
  split
  · exact sameSettings_of_kept (armCollection_kept s l) (congrArg _ (armCollection_engine s l))
  · exact .refl s

theorem runCollectOff_sameSettings (line : Byte) : SameSettings s (runCollectOff line s).1 := by
  refine onLine_sameSettings _ _ fun l => ?_
  unfold State.accept
  split
  · exact sameSettings_of_kept (endCollection_kept s l none) (congrArg _ (endCollection_engine s l none))
  · exact .refl s

theorem runReadDigits_sameSettings (line clear : Byte) : SameSettings s (runReadDigits line clear s).1 := by
  refine onLine_sameSettings _ _ fun l => ?_
  unfold State.accept
  repeat' split
  · exact .refl s
  · exact sameSettings_of_kept (modDial_kept s l _) rfl
  · exact .refl s

theorem runTestLine_sameSettings (line steps force : Byte) : SameSettings s (runTestLine line steps force s).1 := by
  have hfile : ∀ l set f, SameSettings s (s.fileHost l set f) := by
    intro l set f
    simp only [State.fileHost]
    split
    · exact sameSettings_of_kept (by simp) (chooseWork_settings _)
    · exact sameSettings_of_kept rfl rfl
  refine onLine_sameSettings _ _ fun l => ?_
  unfold State.requestTest
  repeat' split
  all_goals first
    | exact .refl s
    | exact hfile _ _ _
    | exact sameSettings_of_kept rfl rfl

theorem runAbortTest_sameSettings (line : Byte) : SameSettings s (runAbortTest line s).1 := by
  refine onLine_sameSettings _ _ fun l => ?_
  dsimp only
  split
  · exact sameSettings_of_kept (abortTests_kept s l) (abortTests_settings s l)
  · exact .refl s

theorem runResumeTests_sameSettings : SameSettings s (runResumeTests s).1 := by
  unfold runResumeTests
  repeat' split
  · exact .refl s
  · exact .refl s
  · exact sameSettings_of_kept (resumeTesting_kept s) (resumeTesting_settings s)

theorem runGetResult_sameSettings (line : Byte) : SameSettings s (runGetResult line s).1 := by
  refine onLine_sameSettings _ _ fun l => ?_
  split <;> exact .refl s

theorem runAckFaults_sameSettings (line faults : Byte) : SameSettings s (runAckFaults line faults s).1 := by
  refine onLine_sameSettings _ _ fun l => ?_
  split
  · exact .refl s
  · exact sameSettings_of_kept (modFault_kept s l _) rfl

theorem runReleaseQuarantine_sameSettings (line : Byte) : SameSettings s (runReleaseQuarantine line s).1 := by
  refine onLine_sameSettings _ _ fun l => ?_
  repeat' split
  · exact .refl s
  · exact .refl s
  · exact sameSettings_of_kept (leaveQuarantine_kept s l) rfl

theorem runGetProfile_sameSettings (profile : Byte) : SameSettings s (runGetProfile profile s).1 := by
  unfold runGetProfile
  split <;> exact .refl s

theorem runReset_sameSettings : SameSettings s (runReset s).1 := by
  constructor <;> intros <;> rfl

end

/-- An arrival handled by a function that is no frame. -/
theorem event_sameSettings {s t : State} {now : Time} {f : State → State} (hf : ∀ u, SameSettings u (f u))
    (h : (.next (s.arrive now f) : Host.Outcome State Fault Refusal) = .next t) : SameSettings s t := by
  cases h
  exact arrive_sameSettings s now hf

theorem gapTimeout_sameSettings (s : State) : SameSettings s s.gapTimeout := by
  unfold State.gapTimeout
  repeat' split
  all_goals constructor <;> intros <;> rfl

theorem discardBusy_sameSettings (s : State) : SameSettings s s.discardBusy := by
  unfold State.discardBusy
  split
  · constructor <;> intros <;> simp [State.setRx]
  · exact .refl s

theorem frameEnd_sameSettings (s : State) : SameSettings s s.frameEnd := by
  unfold State.frameEnd
  repeat' split
  · exact commandReset_sameSettings s
  · constructor <;> intros <;> simp
  · exact .refl s

/-- Settles O25: command by command, by what the shared operations keep. -/
theorem onlyConfigurationCommandsConfigure : Obligations.OnlyConfigurationCommandsConfigure := by
  intro c s t hc h
  cases c
  case resetnLow => cases h; constructor <;> intros <;> rfl
  case commandResetEffect =>
    cases h
    split
    · exact commandReset_sameSettings s
    · exact .refl s
  case identify => exact command_sameSettings SameSettings.refl h
  case deviceStatus => exact command_sameSettings SameSettings.refl h
  case lineStatus line =>
    exact command_sameSettings (fun u => onLine_sameSettings _ _ fun l => modRep_latched_sameSettings u l) h
  case getProfile profile => exact command_sameSettings (runGetProfile_sameSettings · profile) h
  case collectOn line => exact command_sameSettings (runCollectOn_sameSettings · line) h
  case collectOff line => exact command_sameSettings (runCollectOff_sameSettings · line) h
  case readDigits line clear => exact command_sameSettings (runReadDigits_sameSettings · line clear) h
  case testLine line steps force => exact command_sameSettings (runTestLine_sameSettings · line steps force) h
  case abortTest line => exact command_sameSettings (runAbortTest_sameSettings · line) h
  case resumeTests => exact command_sameSettings runResumeTests_sameSettings h
  case getResult line => exact command_sameSettings (runGetResult_sameSettings · line) h
  case ackFaults line faults => exact command_sameSettings (runAckFaults_sameSettings · line faults) h
  case releaseQuarantine line => exact command_sameSettings (runReleaseQuarantine_sameSettings · line) h
  case reset => exact command_sameSettings runReset_sameSettings h
  case unknownKindFrame kind =>
    refine event_sameSettings (fun u => ?_) h
    split
    · exact .refl u
    · exact goodFrame_sameSettings SameSettings.refl u
  case frameError => exact event_sameSettings badFrame_sameSettings h
  case interbyteGapTimeout => exact event_sameSettings gapTimeout_sameSettings h
  case frameDiscardedBusy => exact event_sameSettings discardBusy_sameSettings h
  case transmitFrameEnd => exact event_sameSettings frameEnd_sameSettings h
  case sampleRecord l i ov =>
    exact event_sameSettings (fun u => sameSettings_of_kept (sample_kept u l _ ov) (sample_settings u l _ ov)) h
  case receiverStart b r =>
    exact event_sameSettings (fun u => sameSettings_of_kept (startReceiver_kept u r _) (congrArg _ (startReceiver_engine u r _))) h
  case blockCompletion r frames =>
    exact event_sameSettings (fun u => sameSettings_of_kept (blockDone_kept u r _) (congrArg _ (blockDone_engine u r _))) h
  case firstDigitTimeout l =>
    exact event_sameSettings (fun u => sameSettings_of_kept (firstDigitExpiry_kept u l) (congrArg _ (firstDigitExpiry_engine u l))) h
  case endDiallingTimerExpiry l =>
    exact event_sameSettings
      (fun u => sameSettings_of_kept (endDiallingExpiry_kept u l) (congrArg _ (endDiallingExpiry_engine u l))) h
  case retestTimerExpiry l =>
    exact event_sameSettings (fun u => sameSettings_of_kept (retestExpiry_kept u l) (retestExpiry_settings u l)) h
  case sweepTimerExpiry =>
    exact event_sameSettings (fun u => sameSettings_of_kept (sweepExpiry_kept u) (sweepExpiry_settings u)) h
  case batteryReading volts => exact event_sameSettings (readBattery_sameSettings · volts) h
  case settlePeriodCompletion =>
    exact event_sameSettings (fun u => sameSettings_of_kept (settleDone_kept u) (settleDone_settings u)) h
  case stepCompletion a b =>
    exact event_sameSettings (fun u => sameSettings_of_kept (stepDone_kept u a b) (stepDone_settings u a b)) h
  case firstFrameSyncPulse =>
    exact event_sameSettings (fun u => sameSettings_of_kept (firstSync_kept u) (congrArg _ (firstSync_engine u))) h
  all_goals cases hc

end Sys2Proof.Machine


/-! SUPPORT. What the profile and service operations make of a line's record, and the part time, the queue and the settings laws
across every command, with O2 and O24 (R9, R70, R143, R145, R146, R154, R161). -/

namespace Sys2Proof.Machine

/-! ## Records put in place -/

section

variable (s : State) (l : Line)

/-- The last record put in a line's place stands. -/
@[simp] theorem setLine_setLine (a b : LineRec) : (s.setLine l a).setLine l b = s.setLine l b := by
  apply State.ext_fields <;> try rfl
  intro m
  by_cases h : m = l
  · subst h; simp
  · simp [h]

theorem setLine_comm (a b : LineRec) {m : Line} (h : m ≠ l) : (s.setLine l a).setLine m b = (s.setLine m b).setLine l a := by
  apply State.ext_fields <;> try rfl
  intro k
  by_cases hk : k = l
  · subst hk; simp [h.symm]
  · by_cases hm : k = m
    · subst hm; simp [hk]
    · simp [hk, hm]

@[simp] theorem setLine_profile (r : LineRec) (p : ProfNo) : (s.setLine l r).profile p = s.profile p := rfl

/-- An application of the record `v` to the LSU fields is that of the line's record (R9, R146). -/
theorem applied_eq (r : LineRec) (v : Profile) :
    r.applied v = { r with prof := { r.prof with working := v }, lsu := r.lsu.apply r.hook.state v } := by
  unfold LineRec.applied Lsu.apply
  cases r.hook.state <;> simp [Lsu.rethreshold, baselineMax]

theorem applyProfile_eq : s.applyProfile l = s.setLine l ((s.line l).applied (s.profile (s.line l).prof.number)) := by
  simp [State.applyProfile, State.modProf, State.modLsu, applied_eq]

/-- What a change of the record `v` of a line's number does to the line's record (R143, R145). -/
def LineRec.takenUp (r : LineRec) (v : Profile) : LineRec :=
  if r.hook.state.busy then { r with hook := { r.hook with pendingProfile := true } } else r.applied v

theorem takeUpProfile_eq : s.takeUpProfile l = s.setLine l ((s.line l).takenUp (s.profile (s.line l).prof.number)) := by
  unfold State.takeUpProfile LineRec.takenUp
  split
  · rfl
  · exact applyProfile_eq s l

theorem enterLearning_eq : s.enterLearning l = s.setLine l ((s.line l).learning s.partTime s.battery.mode) := by
  simp only [State.enterLearning, State.modHook, State.modLsu, State.rethresholdLine, State.reperiodLine, LineRec.learning,
    setLine_setLine, line_setLine_self, setLine_partTime, setLine_battery, State.working, Lsu.rethreshold, Lsu.reperiod,
    HookRec.clearCall, Config.learningMs]
  by_cases h : periodOf .learning s.battery.mode = (s.line l).lsu.period
  · simp [h, laterBy]
  · simp [h, Ne.symm h, laterBy]

/-- A change made to the lines of a list, each once, reads each line's record as it stood. -/
theorem foldl_setLine (g : Line → LineRec → LineRec) (ls : List Line) (hn : ls.Nodup) :
    ls.foldl (fun s l => s.setLine l (g l (s.line l))) s =
      { s with lines := Vector.ofFn fun l => if l ∈ ls then g l (s.line l) else s.line l } := by
  induction ls generalizing s with
  | nil =>
    apply State.ext_fields <;> try rfl
    intro m
    simp [State.line, Vector.get, Fin.cast]
  | cons x xs ih =>
    obtain ⟨hx, hxs⟩ := List.nodup_cons.mp hn
    rw [List.foldl_cons, ih _ hxs]
    apply State.ext_fields <;> try rfl
    intro m
    by_cases h : m = x
    · subst h
      simp [State.line, Vector.get, Fin.cast, hx, State.setLine]
    · have hne : x.val ≠ m.val := fun e => h (Fin.ext e.symm)
      simp [State.line, Vector.get, Fin.cast, h, State.setLine, hne]

theorem mem_allLines (m : Line) : m ∈ allLines := List.mem_finRange m
theorem nodup_allLines : allLines.Nodup := List.nodup_finRange 32

/-- Records given line by line. -/
theorem line_withLines (T : Vector Profile 8) (f : Line → LineRec) (m : Line) :
    ({ s with profiles := T, lines := Vector.ofFn f } : State).line m = f m := by
  simp [State.line, Vector.get, Fin.cast]

/-- An accepted SET_PROFILE acts on every line whose number it is (R143). -/
theorem writeProfile_eq (p : ProfNo) (v : Profile) :
    s.writeProfile p v = { s with
      profiles := s.profiles.set p.val v p.isLt
      lines := Vector.ofFn fun l => if (s.line l).prof.number = p then (s.line l).takenUp v else s.line l } := by
  let g : Line → LineRec → LineRec := fun _ r => if r.prof.number = p then r.takenUp v else r
  have hstep : ∀ (ls : List Line) (u : State), u.profile p = v →
      ls.foldl (fun s l => if (s.line l).prof.number = p then s.takeUpProfile l else s) u =
        ls.foldl (fun s l => s.setLine l (g l (s.line l))) u := by
    intro ls
    induction ls with
    | nil => exact fun _ _ => rfl
    | cons x xs ih =>
      intro u hu
      have hx : (if (u.line x).prof.number = p then u.takeUpProfile x else u) = u.setLine x (g x (u.line x)) := by
        by_cases h : (u.line x).prof.number = p
        · simp only [g, h, if_true, takeUpProfile_eq, hu]
        · simp [g, h]
      rw [List.foldl_cons, List.foldl_cons, hx]
      exact ih _ (by rw [setLine_profile, hu])
  unfold State.writeProfile
  rw [hstep _ _ (by simp [State.profile, Vector.get, Fin.cast]), foldl_setLine _ _ _ nodup_allLines]
  simp only [mem_allLines, if_true, g]
  rfl

theorem assignProfile_eq (p : ProfNo) :
    s.assignProfile l p = if (s.line l).hook.state.busy && (s.line l).prof.number == p then s
      else s.setLine l ({ s.line l with prof := { (s.line l).prof with number := p } }.takenUp (s.profile p)) := by
  unfold State.assignProfile
  split
  · rfl
  · simp [takeUpProfile_eq, State.modProf]

end

/-! ## The part time and the queue -/

/-- The part time and the queue. -/
def State.clock (s : State) : Time × List Instr := (s.partTime, s.pending)

theorem clock_of_kept {s t : State} (h : t.kept = s.kept) : t.clock = s.clock := by
  simp only [State.kept, Kept.mk.injEq] at h
  obtain ⟨htime, -, -, -, -, -, -, -, -, hpending, -⟩ := h
  simp [State.clock, htime, hpending]

/-- A line that goes out of service changes its service, and no other configuration item. -/
theorem takeOut_kept (s : State) (l : Line) : (s.takeOut l).kept = (s.modHook l fun h => { h.clearCall with
    service := .serviceOut, state := .outOfService, pendingQuarantine := false }).kept := by
  unfold State.takeOut
  dsimp only
  rw [honourProfile_kept]
  split <;> simp only [modFault_kept, endCollection_kept, modLsu_kept]

theorem effect_clock {s t : State} (h : Effect s t) : t.clock = s.clock := by
  cases h with
  | nothing => rfl
  | clearLatched l => rfl
  | writeProfile p fields v changed h => rw [writeProfile_eq, State.clock, State.clock]
  | assignProfile l p => rw [assignProfile_eq]; split <;> rfl
  | takeOut l h =>
    rw [clock_of_kept (takeOut_kept s l)]
    simp only [State.clock, modHook_partTime, modHook_pending]
  | putIn l h => rw [enterLearning_eq]; rfl
  | moveSlot l t h hfree =>
    simp only [State.moveSlot, State.markSlotChange]
    exact (clock_of_kept (modHeldReceiver_kept _ _ _)).trans rfl
  | setMask l kinds => rfl
  | setClassMap classes m h => rfl
  | setTone p => rfl
  | setScan setting index =>
    unfold State.setScan
    dsimp only
    split
    · simp [State.clock]
    · rfl
  | setSweep on interval steps => rfl
  | arm l h => exact clock_of_kept (armCollection_kept s l)
  | endCollection l h => exact clock_of_kept (endCollection_kept s l none)
  | clearBuffer l => rfl
  | mergeHost l steps force => rfl
  | fileHost l steps force h hnew hroom =>
    unfold State.fileHost
    dsimp only
    split
    · exact clock_of_kept (chooseWork_kept _)
    · rfl
  | abort l => exact clock_of_kept (abortTests_kept s l)
  | resume h => exact clock_of_kept (resumeTesting_kept s)
  | ack l left => rfl
  | release l h => exact clock_of_kept (leaveQuarantine_kept s l)
  | reset => rfl

theorem txChoose_clock (s : State) : s.txChoose.clock = s.clock := by simp [State.clock]

theorem goodFrame_clock (s : State) {run : State → State × Reply} (hrun : ∀ u, RunOf u (run u)) :
    (s.goodFrame run).clock = s.clock := by
  obtain ⟨k, r, h⟩ | ⟨k, k', n, h⟩ := goodFrame_eq_run s run
  · rw [h]; rfl
  · have hrun := effect_clock (effect_of_runOf (hrun { s with link := k }))
    rw [h]
    exact hrun

theorem badFrame_clock (s : State) : s.badFrame.clock = s.clock := by
  unfold State.badFrame
  dsimp only
  repeat' split
  · rfl
  · exact txChoose_clock _
  · rw [answer_eq]; rfl

theorem readBattery_clock (s : State) (v : Nat) : (s.readBattery v).clock = s.clock := by
  unfold State.readBattery
  dsimp only
  repeat' split
  · simp [State.clock]
  · rfl
  · rfl

/-- An arrival but the end of the RESET reply's frame leaves the part time it has set. -/
theorem takes_clock {s t : State} (h : Takes s t) : t.pending = s.pending ∧ (s.sendingResetReply = false → t.clock = s.clock) := by
  have hsame : t.clock = s.clock → t.pending = s.pending ∧ (s.sendingResetReply = false → t.clock = s.clock) :=
    fun h => ⟨congrArg Prod.snd h, fun _ => h⟩
  cases h with
  | commandReset h =>
    refine ⟨raiseDevice_pending _ _, fun hno => ?_⟩
    rw [h] at hno
    cases hno
  | nothing => exact hsame rfl
  | frame run hrun => exact hsame (goodFrame_clock s hrun)
  | badFrame => exact hsame (badFrame_clock s)
  | receive r => exact hsame rfl
  | turnAway h => exact hsame (txChoose_clock _)
  | nextFrame f h => exact hsame (txChoose_clock _)
  | sample l i ov => exact hsame (clock_of_kept (sample_kept s l i ov))
  | firstSync => exact hsame (clock_of_kept (firstSync_kept s))
  | startReceiver r frame => exact hsame (clock_of_kept (startReceiver_kept s r frame))
  | blockDone r frames => exact hsame (clock_of_kept (blockDone_kept s r frames))
  | firstDigitExpiry l => exact hsame (clock_of_kept (firstDigitExpiry_kept s l))
  | endDiallingExpiry l => exact hsame (clock_of_kept (endDiallingExpiry_kept s l))
  | retestExpiry l => exact hsame (clock_of_kept (retestExpiry_kept s l))
  | sweepExpiry => exact hsame (clock_of_kept (sweepExpiry_kept s))
  | readBattery volts => exact hsame (readBattery_clock s volts)
  | settleDone => exact hsame (clock_of_kept (settleDone_kept s))
  | stepDone a b => exact hsame (clock_of_kept (stepDone_kept s a b))

theorem becomes_pending {s t : State} (h : Becomes s t) : t.pending = s.pending := by
  cases h with
  | cold cause => exact raiseDevice_pending _ _
  | low => rfl
  | held => rfl
  | reset => exact raiseDevice_pending _ _
  | taken now h ht => exact (takes_clock ht).1

/-- Settles O2: every command is a reset or an arrival, and an arrival sets the part time before it does anything else. -/
theorem commandsAnswerAndKeepQueue : Obligations.CommandsAnswerAndKeepQueue := by
  intro c s
  obtain ⟨t, ht, hb⟩ := exec_becomes c s
  refine ⟨t, ht, becomes_pending hb, fun now harr hhigh hsend => ?_⟩
  obtain ⟨f, hexec, hf⟩ := exec_arrives harr
  obtain rfl : s.arrive now f = t := by
    have := (hexec s).symm.trans ht
    injection this
  rw [arrive_high hhigh]
  exact congrArg Prod.fst ((takes_clock (hf (s.at now))).2 hsend)

/-! ## The settings laws (R70, R154, R161) -/

theorem SettingsLaws.congr {s t : State} (hs : SettingsLaws s) (hm : ∀ l, (t.line l).rep.mask = (s.line l).rep.mask)
    (hp : ∀ l, (t.line l).pool.slot = (s.line l).pool.slot) (hb : t.battery = s.battery) : SettingsLaws t where
  masks l := by rw [hm]; exact hs.masks l
  lawFive l m h := hs.lawFive l m (by rwa [hp, hp] at h)
  mode := by rw [hb]; exact hs.mode

theorem SettingsLaws.kept {s t : State} (hs : SettingsLaws s) (h : t.kept = s.kept) : SettingsLaws t := by
  simp only [State.kept, Kept.mk.injEq] at h
  obtain ⟨-, -, -, hbat, -, -, -, -, -, -, hl⟩ := h
  refine hs.congr (fun l => ?_) (fun l => ?_) hbat
  all_goals
    have hl := congrFun hl l
    simp only [Prod.mk.injEq] at hl
    obtain ⟨-, -, hslot, hmask⟩ := hl
    assumption

/-- A record put in place with the mask and the timeslot it had. -/
theorem SettingsLaws.setLine {s : State} (hs : SettingsLaws s) (l : Line) (r : LineRec) (hm : r.rep.mask = (s.line l).rep.mask)
    (hp : r.pool.slot = (s.line l).pool.slot) : SettingsLaws (s.setLine l r) := by
  refine hs.congr (fun m => ?_) (fun m => ?_) rfl
  all_goals by_cases h : m = l <;> simp_all

theorem takenUp_mask (r : LineRec) (v : Profile) : (r.takenUp v).rep = r.rep := by
  unfold LineRec.takenUp; split <;> rfl
theorem takenUp_pool (r : LineRec) (v : Profile) : (r.takenUp v).pool = r.pool := by
  unfold LineRec.takenUp; split <;> rfl

/-- After the derivation of the mode the mode is the derived one. -/
theorem SettingsLaws.deriveMode {s : State} (hm : ∀ l, (s.line l).rep.mask.getLsbD 12 = true)
    (hp : ∀ l m, (s.line l).pool.slot = (s.line m).pool.slot → l = m) : SettingsLaws s.deriveMode where
  masks l := by obtain ⟨u, hu⟩ := deriveMode_line s l; rw [hu]; exact hm l
  lawFive l m h := by
    obtain ⟨u, hu⟩ := deriveMode_line s l
    obtain ⟨v, hv⟩ := deriveMode_line s m
    rw [hu, hv] at h
    exact hp l m h
  mode := by rw [deriveMode_battery]

theorem SettingsLaws.moveSlot {s : State} (hs : SettingsLaws s) {l : Line} {t : Timeslot} (hfree : s.slotHolder l t = none) :
    SettingsLaws (s.moveSlot l t) := by
  have hother : ∀ m, m ≠ l → (s.line m).pool.slot ≠ t := by
    intro m hm he
    have := List.find?_eq_none.mp hfree m (mem_allLines m)
    simp [hm, he] at this
  refine SettingsLaws.kept (s := s.modPoolLine l fun p => { p with slot := t }) ?_ (modHeldReceiver_kept _ _ _)
  constructor
  · intro m
    by_cases h : m = l
    · subst h; simp [hs.masks m]
    · simp [h, hs.masks m]
  · intro a b h
    by_cases ha : a = l <;> by_cases hb : b = l
    · rw [ha, hb]
    · subst ha
      exact absurd (by simpa [hb] using h.symm) (hother b hb)
    · subst hb
      exact absurd (by simpa [ha] using h) (hother a ha)
    · exact hs.lawFive a b (by simpa [ha, hb] using h)
  · exact hs.mode

theorem SettingsLaws.effect {s t : State} (hs : SettingsLaws s) (h : Effect s t) : SettingsLaws t := by
  cases h with
  | nothing => exact hs
  | clearLatched l => exact hs.setLine l _ rfl rfl
  | writeProfile p fields v changed h =>
    rw [writeProfile_eq]
    refine hs.congr (fun l => ?_) (fun l => ?_) rfl
    · rw [line_withLines]
      split
      · rw [takenUp_mask]
      · rfl
    · rw [line_withLines]
      split
      · rw [takenUp_pool]
      · rfl
  | assignProfile l p =>
    rw [assignProfile_eq]
    split
    · exact hs
    · exact hs.setLine l _ (by rw [takenUp_mask]) (by rw [takenUp_pool])
  | takeOut l h =>
    have hout := hs.setLine l { s.line l with hook := { (s.line l).hook.clearCall with
      service := .serviceOut, state := .outOfService, pendingQuarantine := false } } rfl rfl
    exact hout.kept (takeOut_kept s l)
  | putIn l h =>
    rw [enterLearning_eq]
    rw [State.modHook, setLine_setLine]
    exact hs.setLine l _ (by simp [LineRec.learning]) (by simp [LineRec.learning])
  | moveSlot l t h hfree => exact hs.moveSlot hfree
  | setMask l kinds =>
    refine ⟨fun m => ?_, fun a b h => hs.lawFive a b (by simpa using h), hs.mode⟩
    by_cases h : m = l
    · subst h; simp [powerCrossBit]
    · simp [h, hs.masks m]
  | setClassMap classes m h => exact hs.congr (fun _ => rfl) (fun _ => rfl) rfl
  | setTone p => exact hs.congr (fun _ => rfl) (fun _ => rfl) rfl
  | setScan setting index =>
    unfold State.setScan
    dsimp only
    split
    · exact .deriveMode hs.masks hs.lawFive
    · next h =>
      refine ⟨hs.masks, hs.lawFive, ?_⟩
      have hsame : setting = s.battery.setting := by simpa using h
      rw [hsame]
      exact hs.mode
  | setSweep on interval steps => exact hs.congr (fun _ => rfl) (fun _ => rfl) rfl
  | arm l h => exact hs.kept (armCollection_kept s l)
  | endCollection l h => exact hs.kept (endCollection_kept s l none)
  | clearBuffer l => exact hs.setLine l _ rfl rfl
  | mergeHost l steps force => exact hs.congr (fun _ => rfl) (fun _ => rfl) rfl
  | fileHost l steps force h hnew hroom =>
    unfold State.fileHost
    dsimp only
    split
    · exact hs.kept (chooseWork_kept _)
    · exact hs.congr (fun _ => rfl) (fun _ => rfl) rfl
  | abort l => exact hs.kept (abortTests_kept s l)
  | resume h => exact hs.kept (resumeTesting_kept s)
  | ack l left => exact hs.setLine l _ rfl rfl
  | release l h => exact hs.kept (leaveQuarantine_kept s l)
  | reset => exact hs.congr (fun _ => rfl) (fun _ => rfl) rfl

theorem SettingsLaws.readBattery {s : State} (hs : SettingsLaws s) (v : Nat) : SettingsLaws (s.readBattery v) := by
  unfold State.readBattery
  dsimp only
  repeat' split
  · refine .deriveMode (fun l => ?_) fun l m h => hs.lawFive l m ?_
    · rw [raiseDevice_line]; exact hs.masks l
    · rwa [raiseDevice_line, raiseDevice_line] at h
  · next h =>
    have hsame : judgedState s.battery.state s.battery.index (min v 80) = s.battery.state := by simpa using h
    refine ⟨hs.masks, hs.lawFive, ?_⟩
    rw [hsame]
    exact hs.mode
  · exact hs

theorem SettingsLaws.commandReset {s : State} (hs : SettingsLaws s) : SettingsLaws s.commandReset := by
  have hsame := commandReset_sameSettings s
  refine ⟨fun l => by rw [hsame.mask]; exact hs.masks l, fun l m h => hs.lawFive l m ?_, ?_⟩
  · rwa [hsame.slot, hsame.slot] at h
  · unfold State.commandReset State.raiseStart
    rw [raiseDevice_battery]

/-- The line records after a cold reset. -/
theorem coldReset_line (s : State) (cause : ResetCause) (l : Line) : (s.coldReset cause).line l = LineRec.powerUp l := by
  unfold State.coldReset State.raiseStart
  rw [raiseDevice_line]
  simp [State.line, State.reset, Vector.get, Fin.cast]

theorem coldReset_settingsLaws (s : State) (cause : ResetCause) : SettingsLaws (s.coldReset cause) := by
  refine ⟨fun l => ?_, fun l m h => ?_, ?_⟩
  · rw [coldReset_line]; simp [LineRec.powerUp]
  · rw [coldReset_line, coldReset_line] at h
    simpa [LineRec.powerUp, Fin.ext_iff] using h
  · unfold State.coldReset State.raiseStart
    rw [raiseDevice_battery]
    rfl

theorem SettingsLaws.takes {s t : State} (hs : SettingsLaws s) (ht : Takes s t) : SettingsLaws t := by
  have hchoose : ∀ k : Link, SettingsLaws ({ s with link := k } : State).txChoose := fun k =>
    hs.congr (fun _ => by rw [txChoose_line]; rfl) (fun _ => by rw [txChoose_line]; rfl) (by simp)
  cases ht with
  | nothing => exact hs
  | frame run hrun =>
    obtain ⟨k, r, h⟩ | ⟨k, k', n, h⟩ := goodFrame_eq_run s run
    · rw [h]; exact hs.congr (fun _ => rfl) (fun _ => rfl) rfl
    · rw [h]
      have hk : SettingsLaws { s with link := k } := hs.congr (fun _ => rfl) (fun _ => rfl) rfl
      exact (hk.effect (effect_of_runOf (hrun _))).congr (fun _ => rfl) (fun _ => rfl) rfl
  | badFrame =>
    unfold State.badFrame
    dsimp only
    repeat' split
    · exact hs.congr (fun _ => rfl) (fun _ => rfl) rfl
    · exact hchoose _
    · rw [answer_eq]; exact hs.congr (fun _ => rfl) (fun _ => rfl) rfl
  | receive r => exact hs.congr (fun _ => rfl) (fun _ => rfl) rfl
  | turnAway h => exact hchoose _
  | nextFrame f h => exact hchoose _
  | commandReset h => exact hs.commandReset
  | sample l i ov => exact hs.kept (sample_kept s l i ov)
  | firstSync => exact hs.kept (firstSync_kept s)
  | startReceiver r frame => exact hs.kept (startReceiver_kept s r frame)
  | blockDone r frames => exact hs.kept (blockDone_kept s r frames)
  | firstDigitExpiry l => exact hs.kept (firstDigitExpiry_kept s l)
  | endDiallingExpiry l => exact hs.kept (endDiallingExpiry_kept s l)
  | retestExpiry l => exact hs.kept (retestExpiry_kept s l)
  | sweepExpiry => exact hs.kept (sweepExpiry_kept s)
  | readBattery volts => exact hs.readBattery volts
  | settleDone => exact hs.kept (settleDone_kept s)
  | stepDone a b => exact hs.kept (stepDone_kept s a b)

/-- Settles O24: a line moves only to a slot that no other line holds, every mask set joins POWER_CROSS, and the mode is derived with
every change of the setting and of the battery state. -/
theorem settingsLawsAreKept : Obligations.SettingsLawsAreKept := by
  intro s t
  refine KeptByArrivals.step (P := SettingsLaws)
    { pending := fun s q hs => hs.congr (fun _ => rfl) (fun _ => rfl) rfl
      time := fun s now hs => hs.congr (fun _ => rfl) (fun _ => rfl) rfl
      cold := fun s cause _ => coldReset_settingsLaws s cause
      reset := fun s hs => hs.commandReset
      low := fun s hs => hs.congr (fun _ => rfl) (fun _ => rfl) rfl
      takes := fun s t _ hs ht => hs.takes ht }

end Sys2Proof.Machine


/-! SUPPORT. The resets, the frames that are turned away or answered, the frame receiver byte by byte, and the transmitter, with O3 to
O7, O11 and O13 (R160 to R174). -/

namespace Sys2Proof.Machine

/-! ## Resets (R174) -/

/-- START finds a reporter and a link that are empty, and a free transmitter: its frame is begun, and nothing else changes. -/
theorem raiseStart_eq (s : State) (cause : ResetCause) (m : Vector EventClass 19) (hl : s.link = Link.afterReset cause)
    (hr : s.reporter = ⟨[], [], false, false, m⟩) :
    s.raiseStart = { s with link := { s.link with tx := some (.event (.device s.stamp (.start cause))) } } := by
  unfold State.raiseStart State.raiseDevice State.report State.txChoose
  cases hc : m.get 16 <;>
    simp [hl, hr, Link.afterReset, State.deviceClass, Reporter.enqueue, Reporter.queue, EventClass.capacity, Config.prioCap,
      Config.normCap, Reporter.setQueue, Reporter.overflow, Reporter.removeHead, hc, State.stamp]

/-- A cold reset, as the state it leaves. -/
theorem coldReset_eq (s : State) (cause : ResetCause) : s.coldReset cause = { State.reset with
    link := { Link.afterReset cause with tx := some (.event (.device 0#16 (.start cause))) }
    freeCount := s.freeCount, pending := s.pending } := by
  unfold State.coldReset
  rw [raiseStart_eq _ cause _ rfl rfl]
  rfl

theorem defaultClassMap_get (k : Fin 19) :
    defaultClassMap.get k = if k.val ∈ [10, 11, 12, 13, 14, 16] then .priority else .normal := by
  revert k
  decide

/-- Settles O3: the state of a cold reset is the one written down as the state after a power-up. -/
theorem powerUpAndPinReset : Obligations.PowerUpAndPinReset := by
  intro s c cause hc
  have hexec : exec c s = .next (s.coldReset cause) := by
    obtain ⟨rfl, rfl⟩ | ⟨rfl, rfl⟩ := hc <;> rfl
  refine ⟨_, hexec, ?_⟩
  have hprofile : ∀ p, (s.coldReset cause).profile p = Profile.default := by
    intro p
    rw [coldReset_eq]
    simp [State.profile, State.reset, Vector.get, Fin.cast]
  have hreceiver : ∀ r, (s.coldReset cause).receiver r = none := by
    intro r
    rw [coldReset_eq]
    simp [State.receiver, State.reset, Pool.cleared, Vector.get, Fin.cast]
  have hlines : ∀ l, (s.coldReset cause).line l = LineRec.powerUp l := coldReset_line s cause
  refine ⟨by rw [coldReset_eq]; rfl, hprofile, fun l => ?_, hreceiver, ?_⟩
  · rw [hlines, hprofile]
    exact ⟨rfl, rfl, rfl, rfl, rfl, rfl, rfl, rfl, rfl, rfl, rfl⟩
  · rw [coldReset_eq]
    exact ⟨rfl, rfl, rfl, rfl, rfl, rfl, rfl, rfl, rfl, defaultClassMap_get, rfl⟩

/-- The command reset, as the state it leaves. -/
theorem commandReset_eq (s : State) : s.commandReset =
    { partTime := 0#32
      lines := Vector.ofFn fun l => (s.line l).afterCommand (s.profile (s.line l).prof.number)
        (scanModeOf s.battery.setting .normal)
      pool := Pool.cleared
      tone := s.tone
      profiles := s.profiles
      engine := s.engine.afterCommand
      battery := ⟨none, s.battery.index, .normal, s.battery.setting, scanModeOf s.battery.setting .normal⟩
      reporter := ⟨[], [], false, false, s.reporter.classMap⟩
      link := { Link.afterReset .command with tx := some (.event (.device 0#16 (.start .command))) }
      freeCount := s.freeCount
      pending := s.pending } := by
  unfold State.commandReset
  dsimp only
  rw [raiseStart_eq _ .command _ rfl rfl]
  rfl

theorem commandReset_line (s : State) (l : Line) : s.commandReset.line l =
    (s.line l).afterCommand (s.profile (s.line l).prof.number) (scanModeOf s.battery.setting .normal) := by
  rw [commandReset_eq]
  simp [State.line, Vector.get, Fin.cast]

theorem commandResetEffect_requested {s : State} (hhigh : s.link.resetnLow = false) (hreq : s.link.resetRequested = true)
    (htx : s.link.tx = some (.reply ⟨0x16#8, .ok, []⟩)) : exec .commandResetEffect s = .next s.commandReset := by
  have hsend : s.sendingResetReply = true := by simp [State.sendingResetReply, hreq, htx, TxFrame.isResetReply]
  show Host.Outcome.next (if !s.link.resetnLow && s.sendingResetReply then s.commandReset else s) = _
  simp [hhigh, hsend]

/-- Settles O4: field by field of the state that the command reset leaves. -/
theorem commandResetEffect : Obligations.CommandResetEffect := by
  intro s hhigh hreq htx
  refine ⟨_, commandResetEffect_requested hhigh hreq htx, commandReset_sameSettings s, ?_⟩
  have hmode : s.commandReset.battery.mode = if s.battery.setting = .economy then .economy else .normal := by
    rw [commandReset_eq]
    cases h : s.battery.setting <;> simp [scanModeOf]
  refine ⟨by rw [commandReset_eq], hmode, by rw [commandReset_eq], by rw [commandReset_eq], fun l => ?_, fun r => ?_, ?_⟩
  · have hderived : s.commandReset.battery.mode = scanModeOf s.battery.setting .normal := by rw [commandReset_eq]
    rw [commandReset_line, hderived]
    generalize scanModeOf s.battery.setting .normal = mode
    generalize s.profile (s.line l).prof.number = p
    cases hserv : (s.line l).hook.service <;> cases mode <;>
      simp [LineRec.afterCommand, hserv, periodOf, Period.nextAfter, nextMultiple, laterBy, Config.learningMs]
  · rw [commandReset_eq]
    simp [State.receiver, Pool.cleared, Vector.get, Fin.cast]
  · rw [commandReset_eq]
    cases h : s.engine.sweepEnabled <;>
      simp [Pool.cleared, Engine.afterCommand, Engine.startTimer, Engine.powerUp, h, laterBy, Engine.intervalMs, Link.afterReset]

/-! ## Frames that are turned away or answered (R167, R169, R171, R174) -/

/-- A frame that the Command Interpreter judges is a good frame with some command, or a frame error. -/
theorem exec_frame {c : Instr} {now : Time} (hc : isFrame c = true) (ht : arrivalTime c = some now) :
    (∃ run, ∀ s, exec c s = .next (s.arrive now fun u => u.goodFrame run)) ∨
    ∀ s, exec c s = .next (s.arrive now State.badFrame) := by
  cases c <;> cases ht
  case unknownKindFrame kind =>
    have hkind : isCommandKind kind = false := by simpa [isFrame] using hc
    refine .inl ⟨fun u => u.refuse kind .unknown, fun s => ?_⟩
    show Host.Outcome.next (s.arrive now fun u => if isCommandKind kind then u else u.goodFrame fun v => v.refuse kind .unknown) = _
    simp [hkind]
  case frameError => exact .inr fun s => rfl
  all_goals first
    | exact .inl ⟨_, fun s => rfl⟩
    | cases hc

section

variable {s : State} {now : Time}

theorem goodFrame_requested (h : s.link.resetRequested = true) (run : State → State × Reply) :
    s.goodFrame run = s.modLink fun k => { k with rx := .hunting } := by
  simp [State.goodFrame, h]

theorem badFrame_requested (h : s.link.resetRequested = true) : s.badFrame = s.modLink fun k => { k with rx := .hunting } := by
  simp [State.badFrame, h]

/-- A busy-pending flag set behind a frame being sent waits there. -/
theorem turnedAway_sending {f : TxFrame} (h : s.link.tx = some f) :
    ((s.modLink fun k => { k with rx := .hunting }).modLink fun k => { k with busyPending := true }).txChoose =
      { s with link := { s.link with rx := .hunting, busyPending := true } } := by
  rw [txChoose_sending (by simpa using h)]
  rfl

theorem goodFrame_occupied {r : Reply} {f : TxFrame} (hreq : s.link.resetRequested = false) (hslot : s.link.slot = some r)
    (htx : s.link.tx = some f) (run : State → State × Reply) :
    s.goodFrame run = { s with link := { s.link with rx := .hunting, busyPending := true } } := by
  rw [← turnedAway_sending htx]
  simp [State.goodFrame, hreq, hslot]

theorem badFrame_occupied {r : Reply} {f : TxFrame} (hreq : s.link.resetRequested = false) (hslot : s.link.slot = some r)
    (htx : s.link.tx = some f) : s.badFrame = { s with link := { s.link with rx := .hunting, busyPending := true } } := by
  rw [← turnedAway_sending htx]
  simp [State.badFrame, hreq, hslot]

theorem discardBusy_occupied {r : Reply} {f : TxFrame} (hreq : s.link.resetRequested = false) (hslot : s.link.slot = some r)
    (htx : s.link.tx = some f) : s.discardBusy = { s with link := { s.link with rx := .hunting, busyPending := true } } := by
  rw [← turnedAway_sending htx]
  simp [State.discardBusy, State.setRx, hreq, hslot]

/-- A frame error on a part ready for a frame. -/
theorem badFrame_ready (h : s.ready) : s.badFrame = { s with link := s.link.afterReply ⟨0#8, .frameError, []⟩ } := by
  have := h.noReset
  have := h.slotEmpty
  unfold State.badFrame
  simp only [modLink_link, answer_eq]
  cases htx : s.link.tx <;> simp_all [Link.afterReply, State.modLink]

end

/-- Settles O6: each frame is a good frame or a frame error, turned away by the slot or answered on a ready part. -/
theorem framesAreTurnedAwayOrAnswered : Obligations.FramesAreTurnedAwayOrAnswered := by
  refine ⟨fun s now c r f hhigh hreq hslot htx hc ht => ?_, fun s now h => ?_, fun s now kind h hkind => ?_, fun s now h => ?_⟩
  · obtain hc | rfl := hc
    · obtain ⟨run, hexec⟩ | hexec := exec_frame hc ht
      · rw [hexec, arrive_high hhigh, goodFrame_occupied (s := s.at now) hreq hslot htx]
        rfl
      · rw [hexec, arrive_high hhigh, badFrame_occupied (s := s.at now) hreq hslot htx]
        rfl
    · show Host.Outcome.next (s.arrive now State.discardBusy) = _
      rw [arrive_high hhigh, discardBusy_occupied (s := s.at now) hreq hslot htx]
      rfl
  · show Host.Outcome.next (s.arrive now State.badFrame) = _
    rw [arrive_high h.resetnHigh, badFrame_ready (at_ready h now)]
    rfl
  · show Host.Outcome.next (s.arrive now fun u => if isCommandKind kind then u else u.goodFrame fun v => v.refuse kind .unknown) = _
    simp only [hkind, Bool.false_eq_true, if_false]
    exact command_unchanged h rfl
  · show Host.Outcome.next (s.arrive now State.discardBusy) = _
    rw [arrive_high h.resetnHigh]
    simp [State.discardBusy, h.slotEmpty]

/-! ## RESETN low and the RESET command (R174) -/

/-- Settles O5: a part in reset takes no arrival; the RESET command requests the reset, which then meets every frame, and the end of
its reply's frame. -/
theorem resetsHoldThePart : Obligations.ResetsHoldThePart := by
  refine ⟨fun s => rfl, fun s c now hlow ht => ?_, fun s hlow => ?_, fun s now h => ?_, fun s now c hhigh hreq hc ht => ?_,
    fun s now hhigh hreq htx => ?_⟩
  · obtain ⟨f, hexec, -⟩ := exec_arrives ht
    rw [hexec, arrive_held hlow]
  · show Host.Outcome.next (if !s.link.resetnLow && s.sendingResetReply then s.commandReset else s) = _
    simp [hlow]
  · show Host.Outcome.next (s.arrive now fun u => u.goodFrame runReset) = _
    rw [arrive_high h.resetnHigh, goodFrame_ready (at_ready h now)]
    unfold State.execute
    cases htx : s.link.tx <;>
      simp [runReset, State.accept, htx, answer_eq, State.modLink, State.at, Link.afterReply, h.slotEmpty]
  · obtain ⟨run, hexec⟩ | hexec := exec_frame hc ht
    · rw [hexec, arrive_high hhigh, goodFrame_requested (s := s.at now) hreq]
      rfl
    · rw [hexec, arrive_high hhigh, badFrame_requested (s := s.at now) hreq]
      rfl
  · rw [commandResetEffect_requested hhigh hreq htx]
    have hsend : (s.at now).sendingResetReply = true := by simp [State.sendingResetReply, hreq, htx, TxFrame.isResetReply]
    show Host.Outcome.next (s.arrive now State.frameEnd) = _
    rw [arrive_high hhigh]
    simp only [State.frameEnd, at_link, htx, hsend, if_true]
    rw [commandReset_eq, commandReset_eq]
    rfl

/-! ## The frame receiver (R167, R168) -/

section

variable {s : State} {now : Time} (hhigh : s.link.resetnLow = false)
include hhigh

theorem exec_byte (b : Byte) : exec (.frameByteArrival now b) s = .next ((s.at now).rxByte b) := by
  show Host.Outcome.next (s.arrive now fun u => u.rxByte b) = _
  rw [arrive_high hhigh]

theorem exec_gap : exec (.interbyteGapTimeout now) s = .next (s.at now).gapTimeout := by
  show Host.Outcome.next (s.arrive now State.gapTimeout) = _
  rw [arrive_high hhigh]

theorem exec_frameError : exec (.frameError now) s = .next (s.at now).badFrame := by
  show Host.Outcome.next (s.arrive now State.badFrame) = _
  rw [arrive_high hhigh]

end

theorem huntByte_eq (s : State) (b : Byte) : s.huntByte b =
    { s with link := { s.link with rx := if b = 0xC3#8 then .collecting [] s.partTime else .hunting } } := by
  unfold State.huntByte
  split
  · next h => simp [show b = 0xC3#8 from h, State.setRx, State.modLink]
  · next h => simp [show b ≠ 0xC3#8 from h, State.setRx, State.modLink]

/-- The check bytes are what follows the bytes they cover (R167). -/
theorem dropLast_dropLast_of_length {all : List Byte} {n : Nat} (h : all.length = n + 3) :
    all.dropLast.dropLast = all.take (n + 1) := by
  rw [List.dropLast_eq_take, List.dropLast_eq_take, List.take_take]
  congr 1
  simp [h]

section

variable {s : State} {got : List Byte} {b : Byte}

theorem collectByte_badLength (h : ((got ++ [b]).headD 0#8).toNat = 0 ∨ 64 < ((got ++ [b]).headD 0#8).toNat) :
    s.collectByte got b = s.badFrame := if_pos h

theorem collectByte_short (h : ¬ (((got ++ [b]).headD 0#8).toNat = 0 ∨ 64 < ((got ++ [b]).headD 0#8).toNat))
    (hlen : (got ++ [b]).length < ((got ++ [b]).headD 0#8).toNat + 3) :
    s.collectByte got b = s.setRx (.collecting (got ++ [b]) s.partTime) :=
  (if_neg h).trans (if_pos hlen)

theorem collectByte_last (h : ¬ (((got ++ [b]).headD 0#8).toNat = 0 ∨ 64 < ((got ++ [b]).headD 0#8).toNat))
    (hlen : (got ++ [b]).length = ((got ++ [b]).headD 0#8).toNat + 3) :
    s.collectByte got b = s.frameComplete (got ++ [b]) :=
  (if_neg h).trans (if_neg (by simp [frameSpan, hlen]))

end

/-- Settles O7: the receiver's two states, and in COLLECTING the gap, the length byte and the last byte in turn. -/
theorem frameReceiverTakesBytes : Obligations.FrameReceiverTakesBytes := by
  intro s now b hhigh
  refine ⟨fun hrx => ⟨?_, ?_⟩, fun got last hrx => ?_⟩
  · rw [exec_byte hhigh]
    simp only [State.rxByte, at_link, hrx, huntByte_eq]
    rfl
  · rw [exec_gap hhigh]
    simp only [State.gapTimeout, at_link, hrx]
  dsimp only
  have hlate : 4 < elapsed now last → (s.at now).rxByte b = (s.at now).huntByte b := by
    intro h
    simp [State.rxByte, hrx, h]
  have hintime : elapsed now last ≤ 4 → (s.at now).rxByte b = (s.at now).collectByte got b := by
    intro h
    simp [State.rxByte, hrx, Nat.not_lt.mpr h]
  refine ⟨fun h => ?_, fun h hlen => ?_, fun h hlow hhighLen hlen => ?_, fun h hlow hhighLen hlen hcheck => ?_, fun h => ?_, fun h => ?_⟩
  · rw [exec_byte hhigh, hlate h, huntByte_eq]
    rfl
  · rw [exec_byte hhigh, hintime h, collectByte_badLength hlen, exec_frameError hhigh]
  · rw [exec_byte hhigh, hintime h, collectByte_short (by omega) hlen]
    rfl
  · rw [exec_byte hhigh, hintime h, collectByte_last (by omega) hlen, exec_frameError hhigh]
    unfold State.frameComplete
    dsimp only
    rw [dropLast_dropLast_of_length hlen, if_neg]
    rw [List.length_take, hlen, Nat.min_eq_left (by omega)]
    exact hcheck.symm
  · rw [exec_gap hhigh]
    simp only [State.gapTimeout, at_link, hrx, at_partTime, h, if_true]
    rfl
  · rw [exec_gap hhigh]
    simp only [State.gapTimeout, at_link, hrx, at_partTime, show ¬ 4 ≤ elapsed now last by omega, if_false]

/-! ## The transmitter (R164, R170) -/

/-- Settles O11: the transmitter's choice, case by case. -/
theorem transmitterTakesFirstThatApplies : Obligations.TransmitterTakesFirstThatApplies := by
  intro s now hhigh
  have hexec : exec (.transmitFrameEnd now) s = .next (s.at now).frameEnd := by
    show Host.Outcome.next (s.arrive now State.frameEnd) = _
    rw [arrive_high hhigh]
  rw [hexec]
  refine ⟨fun h => by simp [State.frameEnd, h], fun f htx hsend => ?_⟩
  have hend : (s.at now).frameEnd = ((s.at now).modLink fun k => { k with tx := none }).txChoose := by
    have hsend : (s.at now).sendingResetReply = false := hsend
    simp [State.frameEnd, htx, hsend]
  rw [hend]
  refine ⟨fun r hr => ?_, fun hr hb => ?_, fun hr hb => ⟨fun e rest hq => ?_, fun e rest hp hq => ?_, fun hp hq => ?_⟩⟩
  · rw [txChoose_reply (r := r) rfl (by simpa using hr)]
    rfl
  · rw [txChoose_busy rfl (by simpa using hr) (by simpa using hb)]
    rfl
  · rw [txChoose_prio (e := e) (q := rest) rfl (by simpa using hr) (by simpa using hb) (by simpa using hq)]
    cases ho : s.reporter.prioOverflow <;>
      simp [Reporter.removeHead, Reporter.overflow, Reporter.setQueue, ho, State.at, State.modLink, State.stamp]
  · rw [txChoose_norm (e := e) (q := rest) rfl (by simpa using hr) (by simpa using hb) (by simpa using hp) (by simpa using hq)]
    cases ho : s.reporter.normOverflow <;>
      simp [Reporter.removeHead, Reporter.overflow, Reporter.setQueue, ho, State.at, State.modLink, State.stamp]
  · rw [txChoose_nothing (by simpa using hr) (by simpa using hb) (by simpa using hp) (by simpa using hq)]
    rfl

/-! ## Events at the reporter (R160 to R163) -/

/-- The reporter holds no event and no overflow flag, and the link has nothing to send: an event met by a free transmitter is sent. -/
structure State.Quiet (s : State) : Prop where
  tx : s.link.tx = none
  slot : s.link.slot = none
  busy : s.link.busyPending = false
  prio : s.reporter.prio = []
  norm : s.reporter.norm = []
  prioFlag : s.reporter.prioOverflow = false
  normFlag : s.reporter.normOverflow = false

/-- A free transmitter finds a part quiet (R163, R170). -/
theorem quiet_of_free {s : State} (h11 : LawEleven s) (hfree : FreeMeansNothingToSend s) (hhigh : s.link.resetnLow = false)
    (htx : s.link.tx = none) : s.Quiet := by
  obtain ⟨hslot, hbusy, hprio, hnorm⟩ := hfree hhigh htx
  refine ⟨htx, hslot, hbusy, hprio, hnorm, ?_, ?_⟩
  · cases h : s.reporter.prioOverflow with
    | false => rfl
    | true => have := h11.prioFlag h; simp [hprio] at this
  · cases h : s.reporter.normOverflow with
    | false => rfl
    | true => have := h11.normFlag h; simp [hnorm] at this

/-- An event raised on a quiet part is being sent at once. -/
theorem report_quiet {s : State} (h : s.Quiet) (c : EventClass) (e : Event) :
    s.report c e = { s with link := { s.link with tx := some (.event e) } } := by
  obtain ⟨htx, hslot, hbusy, hprio, hnorm, hpf, hnf⟩ := h
  obtain ⟨time, lines, pool, tone, profiles, engine, battery, ⟨prio, norm, pf, nf, map⟩, link, n, pending⟩ := s
  subst hprio hnorm hpf hnf
  unfold State.report
  cases c with
  | priority => exact txChoose_prio (e := e) (q := []) htx hslot hbusy rfl
  | normal => exact txChoose_norm (e := e) (q := []) htx hslot hbusy rfl rfl

/-- An event raised behind a frame being sent goes to its queue. -/
theorem report_sending {s : State} {f : TxFrame} (h : s.link.tx = some f) (c : EventClass) (e : Event) :
    s.report c e = { s with reporter := s.reporter.enqueue c e } := txChoose_sending h

theorem enqueue_priority (r : Reporter) (e : Event) : r.enqueue .priority e =
    if r.prio.length < 16 then { r with prio := r.prio ++ [e] } else { r with prioOverflow := true } := rfl

theorem enqueue_normal (r : Reporter) (e : Event) : r.enqueue .normal e =
    if r.norm.length < 48 then { r with norm := r.norm ++ [e] } else { r with normOverflow := true } := rfl

/-- Where an event of a class has gone, of two states that the event parts (R163, R170). -/
structure EventSent (s t : State) (e : Event) (c : EventClass) : Prop where
  rest : t = { s with lines := t.lines, reporter := t.reporter, link := t.link }
  free : s.link.tx = none → t.reporter = s.reporter ∧ t.link = { s.link with tx := some (.event e) }
  behind : s.link.tx.isSome = true → t.link = s.link ∧ t.reporter = s.reporter.enqueue c e

theorem report_sent {s u : State} (h11 : LawEleven s) (hfree : FreeMeansNothingToSend s) (hhigh : s.link.resetnLow = false)
    (hu : u = { s with lines := u.lines }) (e : Event) (c : EventClass) : EventSent s (u.report c e) e c := by
  have hlink : u.link = s.link := by rw [hu]
  have hrep : u.reporter = s.reporter := by rw [hu]
  cases htx : s.link.tx with
  | none =>
    have hq := quiet_of_free h11 hfree hhigh htx
    have hq : u.Quiet := by rw [hu]; exact ⟨hq.tx, hq.slot, hq.busy, hq.prio, hq.norm, hq.prioFlag, hq.normFlag⟩
    rw [report_quiet hq]
    refine ⟨?_, fun _ => ⟨hrep, by rw [hlink]⟩, fun hsome => ?_⟩
    · rw [hu]
    · rw [htx] at hsome; cases hsome
  | some f =>
    have hu' : u.link.tx = some f := by rw [hlink, htx]
    rw [report_sending hu']
    refine ⟨?_, fun hnone => ?_, fun _ => ⟨hlink, by rw [hrep]⟩⟩
    · rw [hu]
    · rw [htx] at hnone; cases hnone

/-- Settles O13: the event goes to the queue of its class, from which a free transmitter, with nothing else to send, takes it. -/
theorem raisedEventsAreLatchedAndQueued : Obligations.RaisedEventsAreLatchedAndQueued := by
  intro s h11 hfree hhigh sent
  have hsent : ∀ {t : State} {e c}, EventSent s t e c → sent t e c := by
    intro t e c h
    refine ⟨h.rest, h.free, fun hsome => ?_⟩
    obtain ⟨hl, hr⟩ := h.behind hsome
    exact ⟨hl, fun hc => by rw [hr, hc, enqueue_priority], fun hc => by rw [hr, hc, enqueue_normal]⟩
  refine ⟨fun l b => ?_, fun volts st => ?_, fun m => ?_⟩
  · refine ⟨raise_line_self s l b, fun m hm => raise_line_ne s l b hm, fun hmask => ?_, fun hmask => hsent ?_⟩
    · simp only [State.raise, hmask, Bool.false_eq_true, if_false]
      rfl
    · simp only [State.raise, hmask, if_true]
      exact report_sent h11 hfree hhigh rfl _ _
  · exact ⟨raiseDevice_lines s _, hsent (report_sent h11 hfree hhigh rfl _ _)⟩
  · exact ⟨raiseDevice_lines s _, hsent (report_sent h11 hfree hhigh rfl _ _)⟩

end Sys2Proof.Machine


/-! SUPPORT. Command frames byte by byte, and the bytes of the frames and the bodies that are sent, with O9, O10 and O16 (R144, R166 to
R172, R175 to R179). -/

namespace Sys2Proof.Machine

/-! ## The bytes of sent frames (R175 to R177) -/

theorem frameBytes_eq_check (kind : Byte) (body : List Byte) : ∃ check, check.length = 2 ∧
    frameBytes kind body = [0xC3#8, byteOf (body.length + 1), kind] ++ body ++ check :=
  ⟨wordBytes (crc (byteOf (body.length + 1) :: kind :: body)), rfl, rfl⟩

/-- Settles O9: every frame is laid out by `frameBytes`, and each body by its own function, code by code. -/
theorem sentFramesAreLaidOut : Obligations.SentFramesAreLaidOut := by
  refine ⟨fun r => ?_, ?_, fun e => ?_, fun b => by cases b <;> rfl⟩
  · obtain ⟨check, hlen, h⟩ := frameBytes_eq_check 0x80#8 r.bytes
    refine ⟨check, hlen, h.trans ?_⟩
    obtain ⟨kind, status, data⟩ := r
    cases status <;> rfl
  · obtain ⟨check, hlen, h⟩ := frameBytes_eq_check 0x80#8 (Reply.bytes ⟨0#8, .busy, []⟩)
    exact ⟨check, hlen, h⟩
  · obtain ⟨check, hlen, h⟩ := frameBytes_eq_check 0x40#8 e.bytes
    refine ⟨e.bytes, check, hlen, h, ?_⟩
    cases e with
    | line l time b =>
      cases b with
      | digit k m => cases m <;> rfl
      | diallingEnd r => cases r <;> rfl
      | _ => rfl
    | device time b =>
      cases b with
      | start cause => cases cause <;> rfl
      | battery volts st => cases st <;> rfl
      | scanMode m => cases m <;> rfl
      | overflow q => cases q <;> rfl

/-! ## Records and results shown (R144, R179) -/

theorem bytesSigned_eq_twoBytes (n : Int) : bytesSigned n = twoBytes n := by
  have hhigh : (BitVec.ofInt 16 n).extractLsb' 8 8 = BitVec.ofInt 8 (n / 256) := by
    apply BitVec.eq_of_toNat_eq
    simp only [BitVec.extractLsb'_toNat, Nat.shiftRight_eq_div_pow, BitVec.toNat_ofInt]
    omega
  have hlow : (BitVec.ofInt 16 n).extractLsb' 0 8 = BitVec.ofInt 8 n := by
    apply BitVec.eq_of_toNat_eq
    simp only [BitVec.extractLsb'_toNat, Nat.shiftRight_eq_div_pow, BitVec.toNat_ofInt]
    omega
  rw [bytesSigned, wordBytes, twoBytes, hhigh, hlow]

theorem profileOf_eq_none {b : Byte} (h : 8 ≤ b.toNat) : profileOf b = none := dif_neg (by omega)

@[simp] theorem profileOf_profileByte (p : ProfNo) : profileOf (profileByte p) = some p := by
  have hp : (profileByte p).toNat = p.val := Nat.mod_eq_of_lt (by omega)
  simp [profileOf, hp]

theorem bytes16_funext : bytes16 = fun x : Nat => twoBytes x := funext bytes16_eq_twoBytes

/-- The fields of a record with its four enumerated fields as codes (R172, log entry 4). -/
theorem toFields_eq (v : Profile) : v.toFields =
    [v.seizeMargin, v.hysteresis, v.trackShift, v.leakMax, v.leakAlarmTime, v.seizeTime, v.hitMax, v.pulseMax, v.flashMin,
      v.releaseMin, v.interdigit, v.firstDigitTimeout, v.endTimeout,
      (match v.dialModes with
        | .pulse => 0
        | .tone => 1
        | .both => 2),
      if v.autoCollect then 1 else 0, if v.receiverPriority then 1 else 0, if v.quarantineOnFault then 1 else 0,
      v.retestInterval, v.clearCount, v.fvDcLimit, v.fvAcLimit, v.irLimit, v.lowLoopLimit] := by
  have hbool : ∀ b : Bool, b.toNat = if b then 1 else 0 := by decide
  simp only [Profile.toFields, hbool]
  cases v.dialModes <;> rfl

/-- The step bits of a result record (R179). -/
theorem steps_setWidth (v : TestValues) : v.steps.setWidth 8 =
    (if v.dcv.isSome then 1#8 else 0#8) ||| (if v.acv.isSome then 2#8 else 0#8) ||| (if v.irt.isSome then 4#8 else 0#8) |||
      (if v.irr.isSome then 8#8 else 0#8) ||| (if v.rtr.isSome then 16#8 else 0#8) := by
  unfold TestValues.steps
  cases v.dcv.isSome <;> cases v.acv.isSome <;> cases v.irt.isSome <;> cases v.irr.isSome <;> cases v.rtr.isSome <;> rfl

/-- Settles O16: the two bodies field by field. -/
theorem profilesAndResultsAreShown : Obligations.ProfilesAndResultsAreShown := by
  refine ⟨fun s now b h hb => ?_, fun s now p h => ?_, fun s now b h hb => ?_, fun s now l h => ⟨fun hnone => ?_, fun r hr => ?_⟩⟩
  · exact command_unchanged h (by rw [runGetProfile, profileOf_eq_none hb]; rfl)
  · refine command_unchanged h ?_
    simp only [runGetProfile, profileOf_profileByte, State.accept, State.profileBytes, toFields_eq, bytes16_funext]
    rfl
  · exact command_unchanged h (by rw [runGetResult, State.onLine, lineOf_eq_none hb]; rfl)
  · refine command_unchanged h ?_
    simp [runGetResult, State.onLine, hnone, State.refuse]
  · refine command_unchanged h ?_
    simp only [runGetResult, State.onLine, lineOf_lineByte, modLink_line, at_line, hr, State.accept]
    obtain ⟨line, origin, steps, ⟨dcv, acv, irt, irr, rtr⟩, completion, verdict⟩ := r
    simp only [ResultRec.bytes, steps_setWidth, bytesSigned_eq_twoBytes, bytes16_eq_twoBytes]
    cases dcv <;> cases acv <;> cases irt <;> cases irr <;> cases rtr <;> rfl

/-! ## Frames byte by byte (R167, R168) -/

/-- The part at `now` with the frame receiver in a state of its own. -/
def State.receiving (s : State) (now : Time) (r : FrameRx) : State := { s with partTime := now, link := { s.link with rx := r } }

theorem elapsed_self (t : Time) : elapsed t t = 0 := by simp [elapsed]

section

variable {s : State} {now : Time} (hhigh : s.link.resetnLow = false)
include hhigh

theorem feedBytes_cons (r : FrameRx) (b : Byte) (rest : List Byte) :
    feedBytes now (b :: rest) (s.receiving now r) = feedBytes now rest ((s.receiving now r).rxByte b) := by
  have h : exec (.frameByteArrival now b) (s.receiving now r) = .next (((s.receiving now r).at now).rxByte b) :=
    exec_byte (s := s.receiving now r) hhigh b
  rw [feedBytes, h]
  rfl

/-- The bytes of a frame short of its last are collected. -/
theorem feedBytes_collect (rest : List Byte) {n : Nat} (hlow : 1 ≤ n) (hmax : n ≤ 64) (bytes got : List Byte)
    (hhead : ((got ++ bytes).headD 0#8).toNat = n) (hlen : (got ++ bytes).length < n + 3) :
    feedBytes now (bytes ++ rest) (s.receiving now (.collecting got now)) =
      feedBytes now rest (s.receiving now (.collecting (got ++ bytes) now)) := by
  induction bytes generalizing got with
  | nil => simp
  | cons b bytes ih =>
    have hsplit : got ++ b :: bytes = (got ++ [b]) ++ bytes := by simp
    have hfirst : ((got ++ [b]).headD 0#8).toNat = n := by
      rw [← hhead]
      cases got <;> rfl
    have hbyte : (s.receiving now (.collecting got now)).rxByte b = s.receiving now (.collecting (got ++ [b]) now) := by
      have htime : ¬ 4 < elapsed (s.receiving now (.collecting got now)).partTime now := by
        have := elapsed_self now
        simp only [State.receiving]
        omega
      refine (if_neg htime).trans ?_
      rw [collectByte_short (by omega) (by rw [hfirst]; simp only [List.length_append, List.length_cons] at hlen ⊢; simp; omega)]
      rfl
    rw [List.cons_append, feedBytes_cons hhigh, hbyte, hsplit]
    exact ih (got ++ [b]) (by rw [← hsplit]; exact hhead) (by rw [← hsplit]; exact hlen)

omit hhigh in
theorem dropLast_dropLast_pair (covered : List Byte) (a b : Byte) : (covered ++ [a, b]).dropLast.dropLast = covered := by
  rw [show covered ++ [a, b] = covered ++ [a] ++ [b] by simp, List.dropLast_concat, List.dropLast_concat]

/-- All the bytes of a frame, from a HUNTING receiver on, end in the judgement of the frame by its check. -/
theorem feedBytes_frame (hrx : s.link.rx = .hunting) {kind : Byte} {body : List Byte} (hbody : body.length ≤ 63) (a b : Byte) :
    ∃ r, feedBytes now (0xC3#8 :: byteOf (body.length + 1) :: kind :: body ++ [a, b]) s =
      .next (if [a, b] = wordBytes (crc (byteOf (body.length + 1) :: kind :: body)) then
        (s.receiving now r).goodFrame (runFrame kind body) else (s.receiving now r).badFrame) := by
  have hlength : (byteOf (body.length + 1)).toNat = body.length + 1 := by
    simp only [byteOf, BitVec.toNat_ofNat]
    omega
  have hstart : feedBytes now (0xC3#8 :: (byteOf (body.length + 1) :: kind :: body ++ [a, b])) s =
      feedBytes now (byteOf (body.length + 1) :: kind :: body ++ [a, b]) (s.receiving now (.collecting [] now)) := by
    rw [feedBytes, exec_byte hhigh]
    simp only [State.rxByte, at_link, hrx, huntByte_eq]
    rfl
  have hcollected : feedBytes now ((byteOf (body.length + 1) :: kind :: body ++ [a]) ++ [b]) (s.receiving now (.collecting [] now)) =
      feedBytes now [b] (s.receiving now (.collecting (byteOf (body.length + 1) :: kind :: body ++ [a]) now)) := by
    refine feedBytes_collect hhigh [b] (n := body.length + 1) (by omega) (by omega) _ [] ?_ ?_
    · exact hlength
    · simp
  have hall : byteOf (body.length + 1) :: kind :: body ++ [a] ++ [b] = byteOf (body.length + 1) :: kind :: body ++ [a, b] := by simp
  refine ⟨.collecting (byteOf (body.length + 1) :: kind :: body ++ [a]) now, ?_⟩
  rw [List.cons_append, hstart, ← hall, hcollected, feedBytes_cons hhigh, feedBytes]
  congr 1
  have htime : ∀ r, ¬ 4 < elapsed (s.receiving now r).partTime now := by
    intro r
    have := elapsed_self now
    simp only [State.receiving]
    omega
  refine (if_neg (htime _)).trans ?_
  rw [collectByte_last, State.frameComplete, hall]
  · rw [dropLast_dropLast_pair, List.drop_left]
    by_cases h : [a, b] = wordBytes (crc (byteOf (body.length + 1) :: kind :: body))
    · rw [if_pos h, if_pos h.symm]
      rfl
    · rw [if_neg h, if_neg (Ne.symm h)]
  · rw [List.cons_append, List.cons_append, List.headD_cons, hlength]
    omega
  · rw [List.cons_append, List.cons_append, List.headD_cons, hlength]
    simp

end

theorem goodFrame_receiving (s : State) (now : Time) (r : FrameRx) (run : State → State × Reply) :
    (s.receiving now r).goodFrame run = (s.at now).goodFrame run := rfl

theorem badFrame_receiving (s : State) (now : Time) (r : FrameRx) : (s.receiving now r).badFrame = (s.at now).badFrame := rfl

/-- A part held in reset takes no byte. -/
theorem feedBytes_held {s : State} (hlow : s.link.resetnLow = true) (now : Time) (bytes : List Byte) :
    feedBytes now bytes s = .next s := by
  induction bytes with
  | nil => rfl
  | cons b bytes ih =>
    have h : exec (.frameByteArrival now b) s = .next s := by
      show Host.Outcome.next (s.arrive now fun u => u.rxByte b) = _
      rw [arrive_held hlow]
    rw [feedBytes, h]
    exact ih

/-- The bytes of a good frame, whatever its kind and body, are its arrival. -/
theorem feedBytes_good {s : State} (hrx : s.link.rx = .hunting) (now : Time) (kind : Byte) {body : List Byte}
    (hbody : body.length ≤ 63) :
    feedBytes now (frameBytes kind body) s = .next (s.arrive now fun u => u.goodFrame (runFrame kind body)) := by
  cases h : s.link.resetnLow with
  | true => rw [feedBytes_held h, arrive_held h]
  | false =>
    obtain ⟨r, hr⟩ := feedBytes_frame (now := now) h hrx (kind := kind) hbody
      ((crc (byteOf (body.length + 1) :: kind :: body)).extractLsb' 8 8)
      ((crc (byteOf (body.length + 1) :: kind :: body)).extractLsb' 0 8)
    rw [arrive_high h]
    refine hr.trans ?_
    exact congrArg _ ((if_pos rfl).trans (goodFrame_receiving s now r _))

theorem word_of_bytes (w : BitVec 16) : w.extractLsb' 8 8 ++ w.extractLsb' 0 8 = w := by
  ext i hi
  simp only [BitVec.getElem_append, BitVec.getElem_extractLsb']
  split
  · simp [BitVec.getLsbD_eq_getElem hi]
  · rw [show 8 + (i - 8) = i by omega, BitVec.getLsbD_eq_getElem hi]

theorem wordsOf_flatMap (fields : List (BitVec 16)) : wordsOf (fields.flatMap wordBytes) = fields := by
  induction fields with
  | nil => rfl
  | cons w fields ih =>
    rw [List.flatMap_cons, wordBytes, List.cons_append, List.cons_append, List.nil_append, wordsOf, word_of_bytes, ih]

/-- The frame of a command is the command (R172). -/
theorem exec_eq_frame {c : Instr} {kind : Byte} {body : List Byte} {now : Time} (hf : frameOf c = some (kind, body))
    (hwf : c.wf = true) (ht : arrivalTime c = some now) :
    body.length ≤ 63 ∧ ∀ s, exec c s = .next (s.arrive now fun u => u.goodFrame (runFrame kind body)) := by
  cases c <;> cases hf <;> cases ht
  case setProfile profile fields =>
    have hlen : fields.length = 23 := by simpa [Instr.wf] using hwf
    have hbytes : (fields.flatMap wordBytes).length = 46 := by
      simp [wordBytes, List.length_flatMap, hlen]
    have hrun : runFrame 0x04#8 (profile :: fields.flatMap wordBytes) = runSetProfile profile fields := by
      funext u
      rw [runFrame_setProfile, if_pos (by simp [hbytes]), List.headD_cons, List.tail_cons, wordsOf_flatMap]
    exact ⟨by simp [hbytes], fun s => by rw [hrun]; rfl⟩
  case setMask line kinds =>
    have hrun : runFrame 0x09#8 (line :: wordBytes kinds) = runSetMask line kinds :=
      congrArg (runSetMask line) (word_of_bytes kinds)
    exact ⟨by simp [wordBytes], fun s => by rw [hrun]; rfl⟩
  case setClassMap =>
    have hlen : body.length = 19 := by simpa [Instr.wf] using hwf
    exact ⟨by omega, fun s => rfl⟩
  case setToneParams =>
    have hlen : body.length = 7 := by simpa [Instr.wf] using hwf
    exact ⟨by omega, fun s => rfl⟩
  all_goals exact ⟨by simp, fun s => rfl⟩

theorem choiceOf_eq_none {b : Byte} (h : 2 ≤ b.toNat) : choiceOf b = none := by
  have h0 : b ≠ 0#8 := by rintro rfl; simp at h
  have h1 : b ≠ 1#8 := by rintro rfl; simp at h
  simp [choiceOf, h0, h1]

/-- Settles O10: the bytes are the frame's arrival, and the frame is its command, is turned down, or fails its check. -/
theorem framesDecodeToTheirCommands : Obligations.FramesDecodeToTheirCommands := by
  refine ⟨fun c kind body now s hf hwf ht hrx => ?_, fun kind body now s hbody hrx => ⟨fun hkind => ?_, fun h hkind hlen => ?_,
    fun line choice h hkind hb hchoice => ?_, fun a b hcheck => ?_⟩⟩
  · obtain ⟨hlen, hexec⟩ := exec_eq_frame hf hwf ht
    rw [feedBytes_good hrx now kind hlen, hexec]
  · rw [feedBytes_good hrx now kind hbody]
    have hrun : runFrame kind body = fun u => u.refuse kind .unknown := funext fun u => runFrame_unknown hkind body u
    show _ = Host.Outcome.next (s.arrive now fun u => if isCommandKind kind then u else u.goodFrame fun v => v.refuse kind .unknown)
    simp [hrun, hkind]
  · rw [feedBytes_good hrx now kind hbody]
    obtain ⟨n, rfl⟩ := commandKind_cases hkind
    refine command_unchanged h (runFrame_badLength n (fun he => hlen ?_) _)
    rw [he]
    congr 1
    simp only [BitVec.toNat_ofNat]
    omega
  · rw [feedBytes_good hrx now kind hbody]
    subst hb
    obtain rfl | rfl := hkind
    · refine command_unchanged h ?_
      show runSetService line choice _ = _
      rw [runSetService, choiceOf_eq_none hchoice]
      rfl
    · refine command_unchanged h ?_
      show runCollect line choice _ = _
      rw [runCollect, choiceOf_eq_none hchoice]
      rfl
  · cases hres : s.link.resetnLow with
    | true =>
      rw [feedBytes_held hres]
      show _ = Host.Outcome.next (s.arrive now State.badFrame)
      rw [arrive_held hres]
    | false =>
      obtain ⟨r, hr⟩ := feedBytes_frame (now := now) hres hrx (kind := kind) hbody a b
      rw [exec_frameError hres]
      exact hr.trans (congrArg _ ((if_neg hcheck).trans (badFrame_receiving s now r)))

end Sys2Proof.Machine


/-! SUPPORT. The setting commands: the judgement of a record's fields, clamped-field sets, and the commands on a ready part, with O17,
O18 and O20 to O23 (R71, R72, R95, R115, R142 to R145, R154, R155, R161, R162, R171). -/

namespace Sys2Proof.Machine

/-! ## Clamped-field sets (R171) -/

theorem clampedBits_shift (i : Nat) (l : List Bool) : clampedBits i l = 2 ^ i * clampedBits 0 l := by
  induction l generalizing i with
  | nil => simp [clampedBits]
  | cons b l ih =>
    rw [clampedBits, clampedBits, ih (i + 1), ih (0 + 1)]
    cases b <;> simp <;> ring

theorem clampedBits_cons (b : Bool) (l : List Bool) : clampedBits 0 (b :: l) = b.toNat + 2 * clampedBits 0 l := by
  rw [clampedBits, clampedBits_shift]
  cases b <;> simp

/-- Bit i of a clamped-field set says whether field i was clamped. -/
theorem testBit_clampedBits (l : List Bool) (i : Nat) : (clampedBits 0 l).testBit i = l.getD i false := by
  induction l generalizing i with
  | nil => simp [clampedBits]
  | cons b l ih =>
    rw [clampedBits_cons]
    cases i with
    | zero => cases b <;> simp [Nat.testBit_zero]
    | succ i =>
      rw [Nat.testBit_succ, show (b.toNat + 2 * clampedBits 0 l) / 2 = clampedBits 0 l by cases b <;> simp; omega, ih]
      simp

theorem clampedSet_bit (changed : List Bool) {i : Nat} (h : i < 24) :
    ((clampedSet changed).getD (2 - i / 8) 0).getLsbD (i % 8) = changed.getD i false := by
  have hbit : ∀ k : Nat, (BitVec.ofNat 8 (clampedBits 0 changed / 2 ^ (8 * k))).getLsbD (i % 8) =
      changed.getD (i % 8 + 8 * k) false := by
    intro k
    rw [BitVec.getLsbD_ofNat, Nat.testBit_div_two_pow, testBit_clampedBits]
    simp [Nat.mod_lt]
  have hcases : i / 8 = 0 ∨ i / 8 = 1 ∨ i / 8 = 2 := by omega
  obtain hk | hk | hk := hcases
  · have := hbit 0
    rw [show i % 8 + 8 * 0 = i by omega] at this
    simpa [clampedSet, hk] using this
  · have := hbit 1
    rw [show i % 8 + 8 * 1 = i by omega] at this
    simpa [clampedSet, hk] using this
  · have := hbit 2
    rw [show i % 8 + 8 * 2 = i by omega] at this
    simpa [clampedSet, hk] using this

/-- The reply to an accepted command with clamped fields. -/
def clampedReply (kind : Byte) (changed : List Bool) : Reply :=
  if changed.any id then ⟨kind, .clamped, clampedSet changed⟩ else ⟨kind, .ok, []⟩

theorem acceptClamped_eq (s : State) (kind : Byte) (changed : List Bool) :
    s.acceptClamped kind changed = (s, clampedReply kind changed) := by
  unfold State.acceptClamped clampedReply
  split <;> rfl

theorem clampedReply_spec (kind : Byte) (changed : List Bool) : ClampedReply kind changed (clampedReply kind changed) := by
  unfold clampedReply
  refine ⟨by split <;> rfl, fun hall => ?_, fun hany => ?_⟩
  · rw [if_neg]
    · exact ⟨rfl, rfl⟩
    · simpa using hall
  · rw [if_pos]
    · exact ⟨rfl, rfl, fun i hi => clampedSet_bit changed hi⟩
    · simpa using hany

/-! ## The judgement of a profile record (R140, R142) -/

theorem list_of_length_23 {v : List Nat} (h : v.length = 23) : v =
    [v.getD 0 0, v.getD 1 0, v.getD 2 0, v.getD 3 0, v.getD 4 0, v.getD 5 0, v.getD 6 0, v.getD 7 0, v.getD 8 0, v.getD 9 0,
     v.getD 10 0, v.getD 11 0, v.getD 12 0, v.getD 13 0, v.getD 14 0, v.getD 15 0, v.getD 16 0, v.getD 17 0, v.getD 18 0,
     v.getD 19 0, v.getD 20 0, v.getD 21 0, v.getD 22 0] := by
  apply List.ext_getElem h
  intro i hi hi'
  have hi : i < 23 := by omega
  interval_cases i <;> simp [List.getD_eq_getElem?_getD, h]

/-- The enumerated fields of a list of values lie in their sets. -/
def choicesOf (v : List Nat) : Prop := v.getD 13 0 ≤ 2 ∧ v.getD 14 0 ≤ 1 ∧ v.getD 15 0 ≤ 1 ∧ v.getD 16 0 ≤ 1

theorem admits_iff {v : List Nat} (h : v.length = 23) :
    ((profileRules.zip v).all fun (r, x) => r.admits x) = true ↔ choicesOf v := by
  rw [list_of_length_23 h]
  simp [profileRules, FieldRule.admits, choicesOf, Nat.lt_succ_iff]

/-- The values of a SET_PROFILE body clamped by its rules (R142 step 3). -/
def clampedValues (v : List Nat) : List Nat := (profileRules.zip v).map fun (r, x) => r.clamp x

theorem clampedValues_length {v : List Nat} (h : v.length = 23) : (clampedValues v).length = 23 := by
  simp [clampedValues, h, profileRules]

theorem ordered_ofFields (c : List Nat) : (Profile.ofFields c).ordered = true ↔
    c.getD 6 0 < c.getD 7 0 ∧ c.getD 7 0 < c.getD 8 0 ∧ c.getD 8 0 < c.getD 9 0 := by
  simp [Profile.ordered, Profile.ofFields, and_assoc]

theorem toFields_ofFields {c : List Nat} (h : c.length = 23) (hc : choicesOf c) : (Profile.ofFields c).toFields = c := by
  have hdial : ∀ n ≤ 2, (dialModesOf n).code = n := by decide
  have hbit : ∀ n ≤ 1, (n == 1).toNat = n := by decide
  obtain ⟨h13, h14, h15, h16⟩ := hc
  conv_rhs => rw [list_of_length_23 h]
  simp only [Profile.toFields, Profile.ofFields, hdial _ h13, hbit _ h14, hbit _ h15, hbit _ h16]

theorem clampedValues_choices {v : List Nat} (h : v.length = 23) (hc : choicesOf v) : choicesOf (clampedValues v) := by
  rw [list_of_length_23 h]
  simpa [clampedValues, choicesOf, profileRules, FieldRule.clamp] using hc

/-- The judgement of a list of 23 values, in the order of R142. -/
theorem judgeProfile_eq {v : List Nat} (h : v.length = 23) : (¬ choicesOf v → judgeProfile v = .error .badArgument) ∧
    (choicesOf v → (Profile.ofFields (clampedValues v)).ordered = false → judgeProfile v = .error .badOrder) ∧
    (choicesOf v → (Profile.ofFields (clampedValues v)).ordered = true → judgeProfile v =
      .ok (Profile.ofFields (clampedValues v), ((clampedValues v).zip v).map fun (c, x) => c != x)) := by
  have hlen : ¬ v.length ≠ 23 := by simp [h]
  refine ⟨fun hc => ?_, fun hc ho => ?_, fun hc ho => ?_⟩ <;> unfold judgeProfile <;> rw [if_neg hlen]
  · rw [if_neg (by rwa [admits_iff h])]
  all_goals
    rw [if_pos (by rwa [admits_iff h])]
    dsimp only
    rw [show ((profileRules.zip v).map fun (r, x) => r.clamp x) = clampedValues v from rfl, ho]
    rfl

/-- An accepted record is the clamped values. -/
theorem judgeProfile_ok {v : List Nat} {p : Profile} {changed : List Bool} (h : judgeProfile v = .ok (p, changed)) :
    v.length = 23 ∧ choicesOf v ∧ p = Profile.ofFields (clampedValues v) ∧ p.ordered = true := by
  by_cases hlen : v.length = 23
  · obtain ⟨hbad, horder, hok⟩ := judgeProfile_eq hlen
    by_cases hc : choicesOf v
    · cases ho : (Profile.ofFields (clampedValues v)).ordered with
      | false => rw [horder hc ho] at h; cases h
      | true =>
        rw [hok hc ho] at h
        cases h
        exact ⟨hlen, hc, rfl, ho⟩
    · rw [hbad hc] at h; cases h
  · rw [judgeProfile, if_pos hlen] at h; cases h

/-- The fields of a SET_PROFILE body as numbers: the words that the statements use. -/
theorem body_choices (fields : List (BitVec 16)) : choicesOf (fields.map BitVec.toNat) ↔ choicesInSet fields := by
  have hget : ∀ i, (fields.map BitVec.toNat).getD i 0 = (fields.getD i 0).toNat := by
    intro i
    simp only [List.getD_eq_getElem?_getD, List.getElem?_map]
    cases fields[i]? <;> rfl
  simp only [choicesOf, choicesInSet, hget]

theorem body_clamped {fields : List (BitVec 16)} (h : fields.length = 23) (hc : choicesInSet fields) :
    clampedValues (fields.map BitVec.toNat) = clampedFields fields := by
  have hmap : clampedFields fields = (profileRanges.zip (fields.map BitVec.toNat)).map fun (r, x) => clampNat r.1 r.2 x := by
    simp [clampedFields, List.zip_map_right, Function.comp_def]
  have hlen : (fields.map BitVec.toNat).length = 23 := by simp [h]
  obtain ⟨h13, h14, h15, h16⟩ := (body_choices fields).mpr hc
  have hclamp : ∀ {n x : Nat}, x ≤ n → clampNat 0 n x = x := by intro n x hx; simp [clampNat, hx]
  rw [hmap, list_of_length_23 hlen]
  simp only [clampedValues, profileRules, profileRanges, List.zip_cons_cons, List.map_cons, FieldRule.clamp, hclamp h13, hclamp h14,
    hclamp h15, hclamp h16, List.zip_nil_right, List.map_nil]

theorem body_changed (c : List Nat) (fields : List (BitVec 16)) :
    ((c.zip (fields.map BitVec.toNat)).map fun (a, x) => a != x) = c.zipWith (fun a x => a != x.toNat) fields := by
  simp [List.zip, List.map_zipWith, List.zipWith_map_right]

/-- Settles O17: the judgement in its order, and the change to every line's record. -/
theorem setProfileJudgesAndReplaces : Obligations.SetProfileJudgesAndReplaces := by
  refine ⟨fun s now b fields h => ⟨fun hlen => ?_, fun hlen hbad => ?_, fun hlen hb hc ho => ?_⟩, fun s now p fields h hlen hc ho => ?_⟩
  · exact command_unchanged h (if_pos hlen)
  · have hlen' : (fields.map BitVec.toNat).length = 23 := by simp [hlen]
    refine command_unchanged h ((if_neg (by simp [hlen])).trans ?_)
    by_cases hb : 8 ≤ b.toNat
    · rw [profileOf_eq_none hb]; rfl
    · have hc : ¬ choicesOf (fields.map BitVec.toNat) := by
        rw [body_choices]
        exact hbad.resolve_left hb
      rw [(judgeProfile_eq hlen').1 hc]
      cases profileOf b <;> rfl
  · have hlen' : (fields.map BitVec.toNat).length = 23 := by simp [hlen]
    refine command_unchanged h ((if_neg (by simp [hlen])).trans ?_)
    have hord : (Profile.ofFields (clampedValues (fields.map BitVec.toNat))).ordered = false := by
      rw [← Bool.not_eq_true, ordered_ofFields, body_clamped hlen hc]
      exact ho
    rw [(judgeProfile_eq hlen').2.1 ((body_choices fields).mpr hc) hord, profileOf, dif_pos hb]
    rfl
  · have hlen' : (fields.map BitVec.toNat).length = 23 := by simp [hlen]
    have hc' := (body_choices fields).mpr hc
    have hord : (Profile.ofFields (clampedValues (fields.map BitVec.toNat))).ordered = true := by
      rw [ordered_ofFields, body_clamped hlen hc]
      exact ho
    have hjudge := (judgeProfile_eq hlen').2.2 hc' hord
    rw [body_clamped hlen hc, body_changed] at hjudge
    generalize hchanged : (clampedFields fields).zipWith (fun c x => c != x.toNat) fields = changed at hjudge
    have hrun : ∀ u : State, runSetProfile (profileByte p) fields u =
        (u.writeProfile p (Profile.ofFields (clampedFields fields)), clampedReply 0x04#8 changed) := by
      intro u
      unfold runSetProfile
      rw [if_neg (by simp [hlen]), profileOf_profileByte]
      dsimp only
      rw [hjudge]
      exact acceptClamped_eq _ _ _
    refine ⟨Profile.ofFields (clampedFields fields), _, ?_, clampedReply_spec _ _, ?_⟩
    · rw [← body_clamped hlen hc]
      exact toFields_ofFields (clampedValues_length hlen') (clampedValues_choices hlen' hc')
    · refine (command_quiet h (hrun _) (by rw [writeProfile_eq]; rfl)).trans ?_
      rw [writeProfile_eq]
      rfl

/-! ## Profiles of lines and timeslots (R71, R72, R79, R145) -/

/-- The part as a good frame of a ready part finds it: at its time, the receiver HUNTING. -/
def State.hunting (s : State) (now : Time) : State := (s.at now).modLink fun k => { k with rx := .hunting }

@[simp] theorem hunting_line (s : State) (now : Time) (m : Line) : (s.hunting now).line m = s.line m := rfl
@[simp] theorem hunting_partTime (s : State) (now : Time) : (s.hunting now).partTime = now := rfl
@[simp] theorem hunting_receiver (s : State) (now : Time) (r : Rx) : (s.hunting now).receiver r = s.receiver r := rfl
@[simp] theorem hunting_engine (s : State) (now : Time) : (s.hunting now).engine = s.engine := rfl
@[simp] theorem hunting_pool (s : State) (now : Time) : (s.hunting now).pool = s.pool := rfl
@[simp] theorem hunting_battery (s : State) (now : Time) : (s.hunting now).battery = s.battery := rfl
@[simp] theorem hunting_profile (s : State) (now : Time) (p : ProfNo) : (s.hunting now).profile p = s.profile p := rfl
@[simp] theorem hunting_working (s : State) (now : Time) (m : Line) : (s.hunting now).working m = s.working m := rfl

/-- A command on a ready part that leaves the link as it is: the state it makes, with its reply given. -/
theorem command_makes {s t : State} {now : Time} {run : State → State × Reply} {r : Reply} (h : s.ready)
    (hrun : run (s.hunting now) = (t.hunting now, r)) (hl : t.link = s.link) : s.command now run = .next (t.answered now r) := by
  have hlink : (t.hunting now).link = { s.link with rx := .hunting } := by
    show { t.link with rx := FrameRx.hunting } = _
    rw [hl]
  refine (command_quiet h hrun hlink).trans ?_
  rw [State.answered, hl]
  rfl

/-- A command whose line number is out of range is refused (R171). -/
theorem onLine_badLine (s : State) (kind : Byte) {b : Byte} (hb : 32 ≤ b.toNat) (f : Line → State × Reply) :
    s.onLine kind b f = s.refuse kind .badArgument := by
  rw [State.onLine, lineOf_eq_none hb]

theorem onLine_lineByte (s : State) (kind : Byte) (l : Line) (f : Line → State × Reply) :
    s.onLine kind (lineByte l) f = f l := by
  rw [State.onLine, lineOf_lineByte]

theorem runSetLineProfile_eq (s : State) (l : Line) (p : ProfNo) :
    runSetLineProfile (lineByte l) (profileByte p) s = (s.assignProfile l p, ⟨0x06#8, .ok, []⟩) := by
  rw [runSetLineProfile, onLine_lineByte, profileOf_profileByte]
  rfl

/-- A command that names a line is refused where any operand of its is out of range. -/
theorem onLine_refused {s : State} {kind b : Byte} {f : Line → State × Reply}
    (h : 32 ≤ b.toNat ∨ ∀ l, f l = s.refuse kind .badArgument) : s.onLine kind b f = s.refuse kind .badArgument := by
  obtain hb | hf := h
  · exact onLine_badLine s kind hb f
  · unfold State.onLine
    split
    · exact hf _
    · rfl

/-- Settles O18: the three cases of the effect. -/
theorem setLineProfileAppliesOrStages : Obligations.SetLineProfileAppliesOrStages := by
  refine ⟨fun s now b n h hbad => ?_, fun s now l p h => ⟨fun hbusy => ?_, fun hbusy hp => ?_, fun hbusy hp => ?_⟩⟩
  · refine command_unchanged h (onLine_refused (hbad.imp id fun hn l => ?_))
    rw [profileOf_eq_none hn]
  all_goals
    refine command_makes h ((runSetLineProfile_eq _ l p).trans ?_) rfl
    rw [assignProfile_eq]
  · simp only [hunting_line, hbusy, Bool.false_and, Bool.false_eq_true, if_false, LineRec.takenUp]
    rfl
  · simp [hbusy, hp]
  · simp only [hunting_line, hbusy, Bool.true_and, beq_iff_eq, hp, if_false, LineRec.takenUp, if_true]
    rfl

theorem timeslotOf_eq_none {b : Byte} (h : 64 ≤ b.toNat) : timeslotOf b = none := dif_neg (by omega)

theorem timeslotOf_ofNat (t : Timeslot) : timeslotOf (BitVec.ofNat 8 t.val) = some t := by
  have ht : (BitVec.ofNat 8 t.val).toNat = t.val := Nat.mod_eq_of_lt (by omega)
  simp [timeslotOf, ht]

theorem slotHolder_isSome {s : State} {l : Line} {t : Timeslot} :
    (s.slotHolder l t).isSome = true ↔ ∃ m, m ≠ l ∧ (s.line m).pool.slot = t := by
  simp [State.slotHolder, List.find?_isSome, mem_allLines]

theorem runSetTimeslot_eq (s : State) (l : Line) (t : Timeslot) :
    runSetTimeslot (lineByte l) (BitVec.ofNat 8 t.val) s =
      if (s.line l).pool.slot = t then (s, ⟨0x08#8, .ok, []⟩)
      else if (s.slotHolder l t).isSome then (s, ⟨0x08#8, .slotInUse, []⟩)
      else (s.moveSlot l t, ⟨0x08#8, .ok, []⟩) := by
  rw [runSetTimeslot, onLine_lineByte, timeslotOf_ofNat]
  rfl

/-- Settles O20: the order of the refusals, and the mark on the receiver the line holds. -/
theorem setTimeslotMovesOnlyToFreeSlots : Obligations.SetTimeslotMovesOnlyToFreeSlots := by
  refine ⟨fun s now b n h hbad => ?_, fun s now l t h => ⟨fun hown => ?_, fun hown hused => ?_, fun hfree => ?_⟩⟩
  · refine command_unchanged h (onLine_refused (hbad.imp id fun hn l => ?_))
    rw [timeslotOf_eq_none hn]
  · exact command_unchanged h ((runSetTimeslot_eq _ l t).trans (if_pos hown))
  · refine command_unchanged h ((runSetTimeslot_eq _ l t).trans ((if_neg hown).trans (if_pos ?_)))
    obtain ⟨m, hm⟩ := hused
    exact slotHolder_isSome.mpr ⟨m, fun he => hown (he ▸ hm), hm⟩
  · have hmoves : ∀ u : State, u.lines = s.lines → runSetTimeslot (lineByte l) (BitVec.ofNat 8 t.val) u =
        (u.moveSlot l t, ⟨0x08#8, .ok, []⟩) := by
      intro u hu
      rw [runSetTimeslot_eq, if_neg, if_neg]
      · rw [slotHolder_isSome]
        rintro ⟨m, -, hm⟩
        exact hfree m (by rwa [line_congr s hu] at hm)
      · rw [line_congr s hu]
        exact hfree l
    refine ⟨fun hnone => ?_, fun x rec hx hrec => ?_⟩
    · refine command_makes h ((hmoves (s.hunting now) rfl).trans ?_) rfl
      simp only [State.moveSlot, State.markSlotChange, State.modHeldReceiver, State.modPoolLine, line_setLine_self, hunting_line, hnone]
      rfl
    · refine command_makes h ((hmoves (s.hunting now) rfl).trans ?_) rfl
      simp only [State.moveSlot, State.markSlotChange, State.modHeldReceiver, State.modPoolLine, line_setLine_self, hunting_line, hx]
      have hrec' : ∀ r, ((s.hunting now).setLine l r).receiver x = some rec := fun r => hrec
      rw [hrec']
      rfl

/-! ## Masks, classes, tone parameters and the sweep settings (R95, R115, R161, R162) -/

theorem getD_mem_or {classes : List Byte} {i : Nat} (h : i < classes.length) : classes.getD i 0#8 ∈ classes := by
  rw [List.getD_eq_getElem _ _ h]
  exact List.getElem_mem h

theorem list_of_length_7 {v : List Byte} (h : v.length = 7) : ∃ v0 v1 v2 v3 v4 v5 v6, v = [v0, v1, v2, v3, v4, v5, v6] := by
  match v, h with
  | [v0, v1, v2, v3, v4, v5, v6], _ => exact ⟨v0, v1, v2, v3, v4, v5, v6, rfl⟩

section

variable {e : Engine} (v : Nat) (set : StepSet) (now : Time)

/-- SET_SWEEP on an enabled sweep, or beside a sweep test in flight or held, changes the settings alone (R115). -/
theorem setSweep_running (h : e.sweepEnabled = true ∨ e.sweeping) : e.setSweep true v set now =
    { e with sweepEnabled := true, sweepInterval := v, sweepSteps := set } := by
  refine if_pos ?_
  obtain h | h | ⟨c, hc, ho⟩ := h
  · simp [h]
  · simp [h]
  · simp [hc, ho]

/-- SET_SWEEP that enables the sweep with none in flight or held starts its timer, or leaves it a full remaining time (R111, R115). -/
theorem setSweep_starts (hoff : e.sweepEnabled = false) (hno : ¬ e.sweeping) : e.setSweep true v set now =
    if e.state = .suspended then
      { e with sweepEnabled := true, sweepInterval := v, sweepSteps := set, sweepTimer := .remaining (1000 * v) }
    else { e with sweepEnabled := true, sweepInterval := v, sweepSteps := set, sweepTimer := .running (laterBy now (1000 * v)) } := by
  refine if_neg ?_
  unfold Engine.sweeping at hno
  push Not at hno
  obtain ⟨hheld, hrun⟩ := hno
  cases hr : e.running with
  | none => simpa [hoff] using hheld
  | some c => simpa [hoff, hrun c hr] using hheld

end

theorem classOf_isSome (b : Byte) : (classOf b).isSome = true ↔ b.toNat ≤ 1 := by
  revert b
  decide

theorem classOf_of_le {b : Byte} (h : b.toNat ≤ 1) : (classOf b).getD .priority = if b = 0#8 then .priority else .normal := by
  revert b
  decide

/-- Settles O21: each command's refusals and its effect. -/
theorem masksClassesAndToneParamsAreSet : Obligations.MasksClassesAndToneParamsAreSet := by
  refine ⟨fun s now b kinds h hb => ?_, fun s now l kinds h => ?_, fun s now classes h => ⟨fun hlen => ?_, fun hlen hbad => ?_,
    fun hlen hall hstart hcross => ?_⟩, fun s now values h => ⟨fun hlen => ?_, fun hlen => ?_⟩⟩
  · exact command_unchanged h (onLine_badLine _ _ hb _)
  · exact command_makes h (onLine_lineByte _ _ l _) rfl
  · exact command_unchanged h (if_pos hlen)
  · refine command_unchanged h ((if_neg (by simp [hlen])).trans ?_)
    rw [classMapOf, if_neg]
    · rfl
    · simp only [Bool.and_eq_true, List.all_eq_true, classOf_isSome, beq_iff_eq]
      rintro ⟨⟨hall, hstart⟩, hcross⟩
      obtain ⟨b, hb, hlarge⟩ | hbad | hbad := hbad
      · have := hall b hb
        omega
      · exact hbad hstart
      · exact hbad hcross
  · have hmap : classMapOf classes = some (Vector.ofFn fun k => if classes.getD k.val 0#8 = 0#8 then .priority else .normal) := by
      rw [classMapOf, if_pos]
      · congr 2
        funext i
        exact classOf_of_le (hall _ (getD_mem_or (by omega)))
      · simp only [Bool.and_eq_true, List.all_eq_true, classOf_isSome, beq_iff_eq]
        exact ⟨⟨hall, hstart⟩, hcross⟩
    have hrun : ∀ u : State, runSetClassMap classes u = ({ u with reporter := { u.reporter with
        classMap := Vector.ofFn fun k => if classes.getD k.val 0#8 = 0#8 then .priority else .normal } }, ⟨0x0A#8, .ok, []⟩) := by
      intro u
      rw [runSetClassMap, if_neg (by simp [hlen]), hmap]
      rfl
    exact command_quiet h (hrun _) rfl
  · exact command_unchanged h (if_pos hlen)
  · obtain ⟨v0, v1, v2, v3, v4, v5, v6, rfl⟩ := list_of_length_7 hlen
    let x (i : Nat) : Int := if i < 5 then ([v0, v1, v2, v3, v4, v5, v6].getD i 0#8).toInt
      else (([v0, v1, v2, v3, v4, v5, v6].getD i 0#8).toNat : Int)
    have hrun : ∀ u : State, runSetToneParams [v0, v1, v2, v3, v4, v5, v6] u =
        ({ u with tone := ToneParams.ofList (clampTone [x 0, x 1, x 2, x 3, x 4, x 5, x 6]) }, clampedReply 0x0B#8
          (((clampTone [x 0, x 1, x 2, x 3, x 4, x 5, x 6]).zip [x 0, x 1, x 2, x 3, x 4, x 5, x 6]).map fun (a, b) => a != b)) :=
      fun u => acceptClamped_eq _ _ _
    exact ⟨_, clampedReply_spec _ _, command_quiet h (hrun _) rfl⟩

/-- Settles O23: the refusals, and the timer by what enabling and disabling do to it. -/
theorem setSweepReplacesTheSettings : Obligations.SetSweepReplacesTheSettings := by
  refine ⟨fun s now enabled interval steps h hbad => ?_, fun s now on interval steps h hsteps hne => ?_⟩
  · refine command_unchanged h ?_
    unfold runSetSweep
    obtain hbad | hbad | rfl := hbad
    · rw [choiceOf_eq_none hbad]
      rfl
    · rw [stepSetOf, if_neg (by omega)]
      cases choiceOf enabled <;> rfl
    · cases choiceOf enabled <;> rfl
  · have hset : (steps.setWidth 5 : StepSet) ≠ 0#5 := by
      intro he
      apply hne
      have := congrArg BitVec.toNat he
      apply BitVec.eq_of_toNat_eq
      simp only [BitVec.toNat_setWidth, BitVec.toNat_ofNat] at this ⊢
      omega
    have hrun : ∀ u : State, runSetSweep (if on then 1#8 else 0#8) interval steps u =
        (u.modEngine fun e => e.setSweep on (clampNat 1 60 interval.toNat) (steps.setWidth 5) u.partTime,
          clampedReply 0x0D#8 [clampNat 1 60 interval.toNat != interval.toNat]) := by
      intro u
      have hon : choiceOf (if on then 1#8 else 0#8) = some on := by cases on <;> rfl
      unfold runSetSweep
      rw [hon, stepSetOf, if_pos hsteps]
      dsimp only
      rw [if_neg hset]
      exact acceptClamped_eq _ _ _
    refine ⟨_, _, clampedReply_spec _ _, ?_, ?_, ?_, ?_, command_quiet h (hrun _) rfl⟩
    · rintro rfl
      rfl
    · rintro rfl hor
      exact setSweep_running _ _ _ hor
    · rintro rfl hoff hno hsusp
      exact (setSweep_starts _ _ _ hoff hno).trans (if_neg hsusp)
    · rintro rfl hoff hno hsusp
      exact (setSweep_starts _ _ _ hoff hno).trans (if_pos hsusp)

/-! ## A command that raises one event (R163, R169, R170) -/

/-- Whether `t` is what a command with one event `e` of class `c` and the reply `r` leaves of the link and the queues of `s`, whose
receiver is HUNTING. -/
def EventWithReply (s t : State) (c : EventClass) (e : Event) (r : Reply) : Prop :=
  (s.link.tx.isSome = true ∧ t.link = { s.link with slot := some r } ∧ t.reporter = s.reporter.enqueue c e) ∨
  (s.link.tx = none ∧ t.link = { s.link with slot := some r, tx := some (.event e) } ∧ t.reporter = s.reporter) ∨
  (s.link.tx = none ∧ t.link = { s.link with tx := some (.reply r) } ∧ t.reporter = s.reporter.enqueue c e)

/-- A command that does `u` with the rest of the part and raises one event: the event and the reply, in the order that is drawn. -/
theorem execute_event {s u : State} {run : State → State × Reply} {c : EventClass} {e : Event} {r : Reply}
    (hquiet : s.link.tx = none → s.Quiet) (hslot : s.link.slot = none) (hrep : u.reporter = s.reporter)
    (hrun : ∀ k : Link, k.slot = none → run { s with link := k } = (({ u with link := k } : State).report c e, r)) :
    s.execute run = { u with reporter := (s.execute run).reporter, link := (s.execute run).link,
                             freeCount := (s.execute run).freeCount } ∧
      EventWithReply s (s.execute run) c e r := by
  cases htx : s.link.tx with
  | some f =>
    have hs : run s = (({ u with link := s.link, reporter := u.reporter.enqueue c e } : State), r) := by
      refine (hrun s.link hslot).trans ?_
      rw [report_sending (s := { u with link := s.link }) (f := f) htx]
    have hresult : s.execute run =
        { u with link := { s.link with slot := some r }, reporter := u.reporter.enqueue c e } := by
      rw [execute_sending run htx, hs, answer_eq]
      simp only [htx]
    rw [hresult]
    exact ⟨rfl, .inl ⟨by rw [htx]; rfl, rfl, congrArg (fun x => Reporter.enqueue x c e) hrep⟩⟩
  | none =>
    have hq := hquiet htx
    have hs : run s = (({ u with link := { s.link with tx := some (.event e) } } : State), r) := by
      refine (hrun s.link hslot).trans ?_
      rw [report_quiet (s := { u with link := s.link })
        ⟨hq.tx, hq.slot, hq.busy, hrep ▸ hq.prio, hrep ▸ hq.norm, hrep ▸ hq.prioFlag, hrep ▸ hq.normFlag⟩]
    have hkept : run (s.modLink fun k => { k with tx := some .busy }) =
        (({ u with link := { s.link with tx := some .busy }, reporter := u.reporter.enqueue c e } : State), r) := by
      refine (hrun { s.link with tx := some .busy } hslot).trans ?_
      rw [report_sending (s := { u with link := { s.link with tx := some .busy } }) (f := .busy) rfl]
    have hresult : s.execute run =
        (if Config.replyFirst s.freeCount then
          { u with link := { s.link with tx := some (.reply r) }, reporter := u.reporter.enqueue c e, freeCount := s.freeCount + 1 }
        else { u with link := { s.link with slot := some r, tx := some (.event e) }, freeCount := s.freeCount + 1 }) := by
      unfold State.execute
      rw [hs, hkept]
      simp only [htx, Option.isNone_none, Option.isSome_some, Bool.and_self, if_true, answer_eq, modLink_link, hslot]
      rfl
    rw [hresult]
    split
    · exact ⟨rfl, .inr (.inr ⟨htx, rfl, congrArg (fun x => Reporter.enqueue x c e) hrep⟩)⟩
    · exact ⟨rfl, .inr (.inl ⟨htx, rfl, hrep⟩)⟩

/-! ## The scan setting (R154, R155) -/

theorem settingOf_eq_none {b : Byte} (h : 3 ≤ b.toNat) : settingOf b = none := by
  have h0 : b ≠ 0#8 := by rintro rfl; simp at h
  have h1 : b ≠ 1#8 := by rintro rfl; simp at h
  have h2 : b ≠ 2#8 := by rintro rfl; simp at h
  simp [settingOf, h0, h1, h2]

theorem indexOf_eq (b : Byte) : indexOf b = Fin.ofNat 8 (min 7 b.toNat) := by
  unfold indexOf
  split
  · next h => exact Fin.ext (by simp only [Fin.ofNat]; omega)
  · next h => rw [Nat.min_eq_left (by omega)]; rfl

theorem indexOf_clamped (b : Byte) : ((indexOf b).val != b.toNat) = decide (7 < b.toNat) := by
  unfold indexOf
  split
  · next h => simp; omega
  · next h =>
    have h7 : (7 : Fin 8).val = 7 := rfl
    rw [h7, decide_eq_true (by omega), bne_iff_ne]
    omega

theorem runSetScan_eq {setting : Byte} {v : ScanSetting} (h : settingOf setting = some v) (index : Byte) (s : State) :
    runSetScan setting index s = (s.setScan v (Fin.ofNat 8 (min 7 index.toNat)), clampedReply 0x0C#8 [decide (7 < index.toNat)]) := by
  rw [runSetScan, h]
  dsimp only
  rw [acceptClamped_eq, indexOf_eq, ← indexOf_clamped, indexOf_eq]

theorem scanModeOf_eq (v : ScanSetting) (b : BatteryState) :
    scanModeOf v b = if v = .economy ∨ (v = .auto ∧ b = .low) then .economy else .normal := by
  cases v <;> cases b <;> rfl

/-- A setting that keeps the derived mode changes the setting and the index alone. -/
theorem setScan_same {s : State} {v : ScanSetting} (index : Fin 8) (h : scanModeOf v s.battery.state = s.battery.mode) :
    s.setScan v index = { s with battery := { s.battery with setting := v, index := index } } := by
  unfold State.setScan
  dsimp only
  split
  · exact if_pos h
  · rfl

/-- A setting that changes the derived mode sets every line's period and raises SCAN_MODE. -/
theorem setScan_changes {s : State} {v : ScanSetting} (hs : s.battery.mode = scanModeOf s.battery.setting s.battery.state)
    (index : Fin 8) (h : scanModeOf v s.battery.state ≠ s.battery.mode) :
    s.setScan v index =
      (({ s with battery := ⟨s.battery.reading, index, s.battery.state, v, scanModeOf v s.battery.state⟩ } : State).reperiodAll).raiseDevice
        (.scanMode (scanModeOf v s.battery.state)) := by
  have hne : v ≠ s.battery.setting := by
    rintro rfl
    exact h hs.symm
  unfold State.setScan
  dsimp only
  rw [if_pos (by simpa using hne)]
  exact if_neg h

/-- Settles O22: the derived mode stays, or changes and is raised behind or ahead of the reply. -/
theorem setScanDerivesTheMode : Obligations.SetScanDerivesTheMode := by
  refine ⟨fun s now setting index h hbad => ?_, fun s now setting index v h hlaws h11 hfree hv => ?_⟩
  · refine command_unchanged h ?_
    rw [runSetScan, settingOf_eq_none hbad]
    rfl
  have hsetting : settingOf setting = some v := by
    obtain ⟨rfl, rfl⟩ | ⟨rfl, rfl⟩ | ⟨rfl, rfl⟩ := hv <;> rfl
  intro m battery
  have hm : m = scanModeOf v s.battery.state := (scanModeOf_eq v s.battery.state).symm
  clear_value m
  subst hm
  refine ⟨_, clampedReply_spec _ _, fun hsame => ?_, fun hchange => ?_⟩
  · have hrun : runSetScan setting index (s.hunting now) = (({ s with battery := battery } : State).hunting now,
        clampedReply 0x0C#8 [decide (7 < index.toNat)]) := by
      rw [runSetScan_eq hsetting, setScan_same (s := s.hunting now) _ hsame]
      simp only [battery, hsame]
      rfl
    exact command_makes h hrun rfl
  · let u : State := ({ s.hunting now with battery := battery } : State).reperiodAll
    have hrun : ∀ k : Link, k.slot = none → runSetScan setting index { s.hunting now with link := k } =
        (({ u with link := k } : State).report (s.reporter.classMap.get 18) (.device (now.setWidth 16)
          (.scanMode (scanModeOf v s.battery.state))), clampedReply 0x0C#8 [decide (7 < index.toNat)]) := by
      intro k _
      rw [runSetScan_eq hsetting, setScan_changes (s := { s.hunting now with link := k }) hlaws.mode _ hchange]
      rfl
    have hquiet : (s.hunting now).link.tx = none → (s.hunting now).Quiet := fun htx => by
      have hq := quiet_of_free h11 hfree h.resetnHigh htx
      exact ⟨hq.tx, hq.slot, hq.busy, hq.prio, hq.norm, hq.prioFlag, hq.normFlag⟩
    obtain ⟨hrest, hevent⟩ := execute_event (u := u) hquiet h.slotEmpty rfl hrun
    have hexec : exec (.setScan now setting index) s = .next ((s.hunting now).execute (runSetScan setting index)) := by
      show Host.Outcome.next (s.arrive now fun u => u.goodFrame (runSetScan setting index)) = _
      rw [arrive_high h.resetnHigh, goodFrame_ready (at_ready h now)]
      rfl
    refine ⟨_, hexec, ?_, fun l => ?_, hevent⟩
    · rw [hrest]
      rfl
    · have hlines : ((s.hunting now).execute (runSetScan setting index)).lines = u.lines := by rw [hrest]
      rw [line_congr u hlines]
      exact line_modEveryLsu _ _ l

end Sys2Proof.Machine


/-! SUPPORT. How a line's record moves: its core, which no operation on the pool, the test bus, the sticky set, the latched set or the
last sample touches, and the single changes of a core, one for each thing that can happen to a line. -/

namespace Sys2Proof.Machine

/-! ## The core of a line's record -/

/-- A line's record without the parts that no law of a call, a period, a baseline or a profile reads: the pool's, the test's and the
reporter's parts, the sticky set and the owed flag, the last sample, the over-voltage run, the settle window and the truncated flag. -/
def LineRec.core (r : LineRec) : LineRec where
  lsu := { r.lsu with lastSample := none, ovRun := 0, ovActive := false, settleEnd := none }
  hook := r.hook
  dial := { r.dial with truncated := false }
  pool := ⟨0, none, false⟩
  test := ⟨false, false, none⟩
  fault := { r.fault with sticky := 0#6, owed := false }
  prof := r.prof
  rep := ⟨0#16, 0#16⟩

/-- The cores of the lines, with what the rules read them against: the profile table and the scan mode. -/
def State.core (s : State) : Vector Profile 8 × ScanMode × (Line → LineRec) :=
  (s.profiles, s.battery.mode, fun m => (s.line m).core)

theorem core_congr {s t : State} (hp : t.profiles = s.profiles) (hb : t.battery = s.battery)
    (hl : ∀ m, (t.line m).core = (s.line m).core) : t.core = s.core := by
  simp only [State.core, hp, hb, hl]

section

variable (s : State) (l : Line)

theorem setLine_core {r : LineRec} (h : r.core = (s.line l).core) : (s.setLine l r).core = s.core := by
  refine core_congr rfl rfl fun m => ?_
  by_cases hm : m = l
  · subst hm; rw [line_setLine_self, h]
  · rw [line_setLine_ne _ _ _ hm]

@[simp] theorem modPoolLine_core (f : PoolLine → PoolLine) : (s.modPoolLine l f).core = s.core := setLine_core s l rfl
@[simp] theorem modTest_core (f : TestLine → TestLine) : (s.modTest l f).core = s.core := setLine_core s l rfl
@[simp] theorem modRep_core (f : RepLine → RepLine) : (s.modRep l f).core = s.core := setLine_core s l rfl
@[simp] theorem modEngine_core (f : Engine → Engine) : (s.modEngine f).core = s.core := rfl
@[simp] theorem modLink_core (f : Link → Link) : (s.modLink f).core = s.core := rfl
@[simp] theorem setReceiver_core (r : Rx) (v : Option Receiver) : (s.setReceiver r v).core = s.core := rfl
@[simp] theorem pool_core (p : Pool) : ({ s with pool := p } : State).core = s.core := rfl
@[simp] theorem freeCount_core (n : Nat) : ({ s with freeCount := n } : State).core = s.core := rfl
@[simp] theorem owed_core (b : Bool) : (s.modFault l fun f => { f with owed := b }).core = s.core := setLine_core s l rfl
@[simp] theorem settleEnd_core (v : Option Time) : (s.modLsu l fun u => { u with settleEnd := v }).core = s.core :=
  setLine_core s l rfl

@[simp] theorem report_core (c : EventClass) (e : Event) : (s.report c e).core = s.core :=
  core_congr (by simp) (by simp) fun m => by simp
@[simp] theorem raise_core (b : LineEvent) : (s.raise l b).core = s.core := by
  refine core_congr (by simp) (by simp) fun m => ?_
  rw [raise_line]
  by_cases hm : m = l
  · subst hm; simp [LineRec.core]
  · simp [hm]
@[simp] theorem raiseDevice_core (b : DeviceEvent) : (s.raiseDevice b).core = s.core := report_core _ _ _

@[simp] theorem assign_core (r : Rx) : (s.assign r l).core = s.core := by simp [State.assign]
@[simp] theorem joinWait_core : (s.joinWait l).core = s.core := by simp [State.joinWait]
@[simp] theorem requestReceiver_core : (s.requestReceiver l).core = s.core := by
  unfold State.requestReceiver; repeat' split
  all_goals simp
@[simp] theorem returnReceiver_core (r : Rx) : (s.returnReceiver r l).core = s.core := by
  unfold State.returnReceiver
  dsimp only
  split
  · simp
  · rw [assign_core, modPoolLine_core, pool_core, modPoolLine_core]
@[simp] theorem removeWait_core : (s.removeWait l).core = s.core := by simp [State.removeWait]
@[simp] theorem giveUpReceiver_core : (s.giveUpReceiver l).core = s.core := by
  unfold State.giveUpReceiver; repeat' split
  all_goals simp
@[simp] theorem modHeldReceiver_core (f : Receiver → Receiver) : (s.modHeldReceiver l f).core = s.core := by
  unfold State.modHeldReceiver; split <;> simp
@[simp] theorem receiverStep_core : (s.receiverStep l).core = s.core := by
  unfold State.receiverStep; split <;> simp
@[simp] theorem reachBoundary_core (frame : Nat) : (s.reachBoundary frame).core = s.core := rfl
@[simp] theorem startReceiver_core (r : Rx) (frame : Nat) : (s.startReceiver r frame).core = s.core := by
  unfold State.startReceiver; repeat' split
  all_goals simp
@[simp] theorem firstSync_core : s.firstSync.core = s.core := by
  unfold State.firstSync; split <;> simp

@[simp] theorem joinSticky_core (k : FaultSet) : (s.joinSticky l k).core = s.core := by
  unfold State.joinSticky
  dsimp only
  split
  · exact setLine_core s l rfl
  · rw [raise_core]; exact setLine_core s l rfl

@[simp] theorem connect_core : (s.connect l).core = s.core := by simp [State.connect, State.holdReceiver]
@[simp] theorem disconnect_core : (s.disconnect l).core = s.core := by simp [State.disconnect]
@[simp] theorem beginTest_core (c : TestCtx) (e : EngineState) : (s.beginTest c e).core = s.core := by simp [State.beginTest]
@[simp] theorem beginStep_core (c : TestCtx) (p : Step) : (s.beginStep c p).core = s.core := rfl
@[simp] theorem enterSuspended_core : s.enterSuspended.core = s.core := rfl
@[simp] theorem placeAuto_core : (s.placeAuto l).core = s.core := by
  unfold State.placeAuto; repeat' split
  all_goals simp
@[simp] theorem fileOwed_core : s.fileOwed.core = s.core := by
  unfold State.fileOwed; split <;> simp
@[simp] theorem serveOwed_core : s.serveOwed.core = s.core := by
  unfold State.serveOwed; split <;> simp
@[simp] theorem runEntry_core (q : TestReq) : (s.runEntry q).core = s.core := by simp [State.runEntry]
@[simp] theorem dropTest_core (h : Bool) : (s.dropTest l h).core = s.core := by
  unfold State.dropTest; split <;> simp
@[simp] theorem resumeSweep_core (c : SweepCtx) : (s.resumeSweep c).core = s.core := by simp [State.resumeSweep]
@[simp] theorem startSweep_core : s.startSweep.core = s.core := by
  unfold State.startSweep
  dsimp only
  split <;> simp
@[simp] theorem chooseLoop_core (n : Nat) : (State.chooseLoop n s).core = s.core := by
  induction n generalizing s with
  | zero => rfl
  | succ n ih =>
    simp only [State.chooseLoop]
    repeat' split
    all_goals simp [ih]
@[simp] theorem chooseWork_core : s.chooseWork.core = s.core := chooseLoop_core s _
@[simp] theorem fileAuto_core : (s.fileAuto l).core = s.core := by
  unfold State.fileAuto
  dsimp only
  split <;> simp
@[simp] theorem storeResult_core (r : ResultRec) : (s.storeResult r).core = s.core := by simp [State.storeResult]
@[simp] theorem clearRunning_core (c : TestCtx) : (s.clearRunning c).core = s.core := rfl
@[simp] theorem finishAborted_core (c : TestCtx) : (s.finishAborted c).core = s.core := by simp [State.finishAborted]
@[simp] theorem finishAbandoned_core (c : TestCtx) : (s.finishAbandoned c).core = s.core := by
  unfold State.finishAbandoned
  dsimp only
  split <;> simp
@[simp] theorem abandon_core (c : TestCtx) : (s.abandon c).core = s.core := by
  unfold State.abandon
  dsimp only
  split <;> simp
@[simp] theorem requestSuspension_core : (s.requestSuspension l).core = s.core := by
  obtain ⟨-, h⟩ | ⟨-, h⟩ | ⟨-, ⟨c, -, -, h⟩ | ⟨-, h⟩⟩ := s.requestSuspension_cases l <;> rw [h]
  · rfl
  · obtain ⟨-, hx⟩ | ⟨-, -, hx⟩ | ⟨-, -, hx⟩ := s.crossInFlight_cases c <;> rw [hx]
    · simp
    · rfl
    · simp
  · rfl
@[simp] theorem afterCross_core (c : TestCtx) : (s.afterCross c).core = s.core := by
  unfold State.afterCross; split <;> simp
@[simp] theorem endAborted_core (c : TestCtx) : (s.endAborted c).core = s.core := by simp [State.endAborted]
@[simp] theorem holdSweep_core (c : TestCtx) : (s.holdSweep c).core = s.core := by simp [State.holdSweep]
@[simp] theorem abortTests_core : (s.abortTests l).1.core = s.core := by
  have hrun : ∀ t : State, (t.abortRunning l).1.core = t.core := by
    intro t; unfold State.abortRunning; repeat' split
    all_goals simp
  have hqueue : ∀ t : State, (t.abortQueued l).1.core = t.core := by
    intro t; unfold State.abortQueued; split <;> simp
  have hsweep : ∀ t : State, (t.abortHeldSweep l).1.core = t.core := by
    intro t; unfold State.abortHeldSweep; repeat' split
    all_goals rfl
  simp [State.abortTests, hrun, hqueue, hsweep]
@[simp] theorem fileOwedLoop_core (n : Nat) : (State.fileOwedLoop n s).core = s.core := by
  induction n generalizing s with
  | zero => rfl
  | succ n ih => unfold State.fileOwedLoop; split <;> simp [ih]
@[simp] theorem resumeHeld_core : s.resumeHeld.core = s.core := by
  unfold State.resumeHeld; repeat' split
  all_goals simp
@[simp] theorem resumeTesting_core : s.resumeTesting.core = s.core := by simp [State.resumeTesting]
@[simp] theorem sweepExpiry_core : s.sweepExpiry.core = s.core := by
  unfold State.sweepExpiry
  dsimp only
  repeat' split
  all_goals simp
@[simp] theorem fileHost_core (steps : StepSet) (force : Bool) : (s.fileHost l steps force).core = s.core := by
  unfold State.fileHost
  dsimp only
  split <;> simp

end

/-! ## The larger changes of a record -/

/-- A line's record at its isolation (R43, with R3, R13 and R17). -/
def LineRec.isolated (r : LineRec) (now : Time) (mode : ScanMode) : LineRec :=
  { r with
    hook := { r.hook.clearCall with state := .quarantined, pendingQuarantine := false }
    lsu := { r.lsu with learningEnd := none, leakClamp := none, leakReported := false }.reperiod .quarantined mode now }

/-- A line's record with its collection ended, its receiver or place apart (R63). -/
def LineRec.ended (r : LineRec) : LineRec :=
  if r.dial.collection.active then
    { r with
      dial := { r.dial with collection := .inactive, firstDeadline := none, endDeadline := none }
      hook := { r.hook with pulseCount := 0 } }
  else r

/-- A line's record with a pending profile, the record `v` of the table, applied (R147). -/
def LineRec.honoured (r : LineRec) (v : Profile) : LineRec :=
  if r.hook.pendingProfile then { r with hook := { r.hook with pendingProfile := false } }.applied v else r

/-- A line's record with the counting of CLEAR verdicts begun anew and the retest due set (R129). -/
def LineRec.awaitingRetest (r : LineRec) (now : Time) : LineRec :=
  { r with fault := { r.fault with clearCount := 0, retestDue := some (laterBy now (1000 * r.prof.working.retestInterval)) } }

/-- A line's record after its entry to QUARANTINED, its receiver or place and the latched set apart (R129). -/
def LineRec.quarantined (r : LineRec) (v : Profile) (now : Time) (mode : ScanMode) : LineRec :=
  (((r.isolated now mode).ended).honoured v).awaitingRetest now

/-- A line's record with the dial mode fixed by a digit's method that the mode allows, its receiver or place apart (R56, R57). -/
def LineRec.fixed (r : LineRec) (m : Method) : LineRec :=
  { r with
    dial := { r.dial with mode := match m with
      | .pulse => .pulse
      | .tone => .tone }
    hook := { r.hook with pulseCount := if r.dial.mode = .undetermined ∧ m = .tone then 0 else r.hook.pulseCount } }

/-- A line's record with a digit taken, its receiver or place and the latched set apart (R55). -/
def LineRec.dialled (r : LineRec) (k : Key) (m : Method) (deadline : Time) : LineRec :=
  { r.fixed m with dial := { (r.fixed m).dial with
      buffer := r.dial.buffer ++ [.digit k m], collection := .collecting, firstDeadline := none, endDeadline := some deadline } }

/-- A line's record on its return to IDLE, before what is pending is seen to (R31). -/
def LineRec.returned (r : LineRec) (now : Time) (mode : ScanMode) : LineRec :=
  { r with lsu := (r.lsu.rethreshold r.prof.working).reperiod r.hook.state mode now }

/-- A line's record with no retest due and no CLEAR verdict counted (R128, R136). -/
def LineRec.unretested (r : LineRec) : LineRec := { r with fault := { r.fault with retestDue := none, clearCount := 0 } }

/-- A line's record once it is out of service, its receiver or place and the latched set apart (R46). -/
def LineRec.takenOut (r : LineRec) (v : Profile) : LineRec :=
  let out : LineRec := { r with
    hook := { r.hook.clearCall with service := .serviceOut, state := .outOfService, pendingQuarantine := false }
    lsu := r.lsu.outOfService }
  (if r.hook.state = .quarantined then out.ended.unretested else out.ended).honoured v

/-- A record with other pool's and reporter's parts. -/
def LineRec.withParts (r : LineRec) (p : PoolLine) (q : RepLine) : LineRec := { r with pool := p, rep := q }

section

variable (r : LineRec) (v : Profile) (p p' : PoolLine) (q q' : RepLine) (now : Time)

@[simp] theorem withParts_withParts : (r.withParts p q).withParts p' q' = r.withParts p' q' := rfl
@[simp] theorem withParts_core : (r.withParts p q).core = r.core := rfl
@[simp] theorem withParts_hook : (r.withParts p q).hook = r.hook := rfl
@[simp] theorem withParts_prof : (r.withParts p q).prof = r.prof := rfl
@[simp] theorem ended_withParts : (r.withParts p q).ended = r.ended.withParts p q := by
  unfold LineRec.ended LineRec.withParts; split <;> rfl
@[simp] theorem honoured_withParts : (r.withParts p q).honoured v = (r.honoured v).withParts p q := by
  unfold LineRec.honoured LineRec.withParts; split <;> rfl
@[simp] theorem unretested_withParts : (r.withParts p q).unretested = r.unretested.withParts p q := rfl
@[simp] theorem unretested_prof : r.unretested.prof = r.prof := rfl
@[simp] theorem awaitingRetest_withParts : (r.withParts p q).awaitingRetest now = (r.awaitingRetest now).withParts p q := rfl

@[simp] theorem ended_state : r.ended.hook.state = r.hook.state := by unfold LineRec.ended; split <;> rfl
@[simp] theorem ended_pendingProfile : r.ended.hook.pendingProfile = r.hook.pendingProfile := by
  unfold LineRec.ended; split <;> rfl
@[simp] theorem ended_pendingQuarantine : r.ended.hook.pendingQuarantine = r.hook.pendingQuarantine := by
  unfold LineRec.ended; split <;> rfl
@[simp] theorem ended_prof : r.ended.prof = r.prof := by unfold LineRec.ended; split <;> rfl
@[simp] theorem ended_lsu : r.ended.lsu = r.lsu := by unfold LineRec.ended; split <;> rfl
@[simp] theorem ended_fault : r.ended.fault = r.fault := by unfold LineRec.ended; split <;> rfl
@[simp] theorem honoured_fault : (r.honoured v).fault = r.fault := by unfold LineRec.honoured; split <;> rfl
theorem ended_inactive : r.ended.dial.collection = .inactive := by
  unfold LineRec.ended
  split
  · rfl
  · next h => cases hc : r.dial.collection <;> simp_all [Collection.active]

end

section

variable (s : State) (l m : Line)

theorem isolate_eq : s.isolate l = s.setLine l ((s.line l).isolated s.partTime s.battery.mode) := by
  simp only [State.isolate, State.modHook, State.modLsu, State.reperiodLine, LineRec.isolated, setLine_setLine, line_setLine_self,
    setLine_partTime, setLine_battery]

/-- The lines' records without the pool's parts. -/
def State.besidesPool (s : State) : Line → LineRec := fun m => { s.line m with pool := ⟨0, none, false⟩ }

theorem line_of_besidesPool {s t : State} (h : t.besidesPool = s.besidesPool) (m : Line) :
    t.line m = { s.line m with pool := (t.line m).pool } := by
  have hm := congrFun h m
  simp only [State.besidesPool, LineRec.mk.injEq] at hm
  obtain ⟨h1, h2, h3, -, h4, h5, h6, h7⟩ := hm
  dsimp only
  rw [← h1, ← h2, ← h3, ← h4, ← h5, ← h6, ← h7]

@[simp] theorem modPoolLine_besidesPool (f : PoolLine → PoolLine) : (s.modPoolLine l f).besidesPool = s.besidesPool := by
  funext m
  by_cases h : m = l
  · subst h; simp [State.besidesPool, State.modPoolLine]
  · simp [State.besidesPool, State.modPoolLine, h]
@[simp] theorem setReceiver_besidesPool (x : Rx) (v : Option Receiver) : (s.setReceiver x v).besidesPool = s.besidesPool := rfl
theorem pool_besidesPool (p : Pool) : ({ s with pool := p } : State).besidesPool = s.besidesPool := rfl
@[simp] theorem assign_besidesPool (x : Rx) : (s.assign x l).besidesPool = s.besidesPool := by simp [State.assign]
@[simp] theorem joinWait_besidesPool : (s.joinWait l).besidesPool = s.besidesPool := by
  rw [State.joinWait, modPoolLine_besidesPool, pool_besidesPool]
@[simp] theorem removeWait_besidesPool : (s.removeWait l).besidesPool = s.besidesPool := by
  rw [State.removeWait, modPoolLine_besidesPool, pool_besidesPool]
@[simp] theorem requestReceiver_besidesPool : (s.requestReceiver l).besidesPool = s.besidesPool := by
  unfold State.requestReceiver; repeat' split
  all_goals simp
@[simp] theorem returnReceiver_besidesPool (x : Rx) : (s.returnReceiver x l).besidesPool = s.besidesPool := by
  unfold State.returnReceiver
  dsimp only
  split
  · simp
  · rw [assign_besidesPool, modPoolLine_besidesPool, pool_besidesPool, modPoolLine_besidesPool]
@[simp] theorem giveUpReceiver_besidesPool : (s.giveUpReceiver l).besidesPool = s.besidesPool := by
  unfold State.giveUpReceiver; repeat' split
  all_goals simp
@[simp] theorem receiverStep_besidesPool : (s.receiverStep l).besidesPool = s.besidesPool := by
  unfold State.receiverStep; split <;> simp

/-- What is left of a line when its receiver or place is given up: all but the pool's part. -/
theorem giveUpReceiver_line : (s.giveUpReceiver l).line m = { s.line m with pool := ((s.giveUpReceiver l).line m).pool } :=
  line_of_besidesPool (giveUpReceiver_besidesPool s l) m

/-- What the end of collection makes of the line's own record (R63). -/
theorem endCollection_none_line_self : ∃ p q, (s.endCollection l none).line l = (s.line l).ended.withParts p q := by
  unfold State.endCollection LineRec.ended
  split
  · exact ⟨_, _, (giveUpReceiver_line _ l l).trans (by simp [State.discardPulses]; rfl)⟩
  · exact ⟨_, _, giveUpReceiver_line s l l⟩

theorem endCollection_none_line_ne (h : m ≠ l) : ∃ p, (s.endCollection l none).line m = { s.line m with pool := p } := by
  unfold State.endCollection
  split
  · exact ⟨_, (giveUpReceiver_line _ l m).trans (by simp [State.discardPulses, h]; rfl)⟩
  · exact ⟨_, giveUpReceiver_line s l m⟩

theorem honourProfile_pending (h : (s.line l).hook.pendingProfile = true) : s.honourProfile l =
    (s.setLine l ((s.line l).honoured (s.profile (s.line l).prof.number))).raise l .profileApplied := by
  unfold State.honourProfile LineRec.honoured
  rw [if_pos h, if_pos h, applyProfile_eq]
  simp only [State.modHook, setLine_setLine, line_setLine_self, setLine_profile]

theorem honourProfile_none (h : (s.line l).hook.pendingProfile = false) : s.honourProfile l = s := by
  unfold State.honourProfile
  rw [if_neg (by simp [h])]

theorem honourProfile_line_self :
    ∃ p q, (s.honourProfile l).line l = ((s.line l).honoured (s.profile (s.line l).prof.number)).withParts p q := by
  cases h : (s.line l).hook.pendingProfile with
  | true =>
    rw [honourProfile_pending s l h, raise_line_self, line_setLine_self]
    exact ⟨_, _, rfl⟩
  | false =>
    rw [honourProfile_none s l h, LineRec.honoured, if_neg (by simp [h])]
    exact ⟨_, _, rfl⟩

theorem honourProfile_line_ne (h : m ≠ l) : (s.honourProfile l).line m = s.line m := by
  cases hp : (s.line l).hook.pendingProfile with
  | true => rw [honourProfile_pending s l hp, raise_line_ne _ _ _ h, line_setLine_ne _ _ _ h]
  | false => rw [honourProfile_none s l hp]

theorem setRetestDue_eq : (s.modFault l fun f => { f with clearCount := 0 }).setRetestDue l =
    s.setLine l ((s.line l).awaitingRetest s.partTime) := by
  simp only [State.setRetestDue, State.modFault, setLine_setLine, line_setLine_self, State.working]
  rfl

theorem profile_of_kept {s t : State} (h : t.kept = s.kept) (p : ProfNo) : t.profile p = s.profile p := by
  simp only [State.kept, Kept.mk.injEq] at h
  obtain ⟨-, -, hprof, -⟩ := h
  simp only [State.profile, hprof]

theorem partTime_of_kept {s t : State} (h : t.kept = s.kept) : t.partTime = s.partTime := congrArg Kept.partTime h

theorem battery_of_kept {s t : State} (h : t.kept = s.kept) : t.battery = s.battery := congrArg Kept.battery h

/-- A line that enters QUARANTINED (R129). -/
theorem enterQuarantine_line_self : ∃ p q, (s.enterQuarantine l).line l =
    ((s.line l).quarantined (s.profile (s.line l).prof.number) s.partTime s.battery.mode).withParts p q := by
  obtain ⟨raised, hr⟩ : ∃ t, t = (s.isolate l).raise l .quarantined := ⟨_, rfl⟩
  have hraised : raised.line l = ((s.line l).isolated s.partTime s.battery.mode).withParts (s.line l).pool
      { (s.line l).rep with latched := (s.line l).rep.latched ||| kindBit LineEvent.quarantined.kind } := by
    rw [hr, raise_line_self, isolate_eq, line_setLine_self]
    rfl
  obtain ⟨p, q, hended⟩ := endCollection_none_line_self raised l
  obtain ⟨p', q', hhonoured⟩ := honourProfile_line_self (raised.endCollection l none) l
  have hkept : (raised.endCollection l none).kept = s.kept := by simp [hr]
  have htime : ((raised.endCollection l none).honourProfile l).partTime = s.partTime := partTime_of_kept (by simp [hr])
  refine ⟨p', q', ?_⟩
  unfold State.enterQuarantine
  dsimp only
  rw [← hr, setRetestDue_eq, line_setLine_self, hhonoured, hended, hraised, profile_of_kept hkept, htime]
  simp only [ended_withParts, withParts_withParts, honoured_withParts, awaitingRetest_withParts, withParts_prof, ended_prof]
  rfl

theorem enterQuarantine_line_ne (h : m ≠ l) : ∃ p, (s.enterQuarantine l).line m = { s.line m with pool := p } := by
  obtain ⟨p, hp⟩ := endCollection_none_line_ne ((s.isolate l).raise l .quarantined) l m h
  refine ⟨p, ?_⟩
  unfold State.enterQuarantine
  dsimp only
  rw [setRetestDue_eq, line_setLine_ne _ _ _ h, honourProfile_line_ne _ _ _ h, hp, raise_line_ne _ _ _ h, isolate_eq, line_setLine_ne _ _ _ h]

/-- A line that goes out of service (R46). -/
theorem takeOut_line_self : ∃ p q, (s.takeOut l).line l =
    ((s.line l).takenOut (s.profile (s.line l).prof.number)).withParts p q := by
  obtain ⟨out, ho⟩ : ∃ t, t = (s.modHook l fun h =>
    { h.clearCall with service := .serviceOut, state := .outOfService, pendingQuarantine := false }).modLsu l Lsu.outOfService := ⟨_, rfl⟩
  obtain ⟨p, q, hended⟩ := endCollection_none_line_self out l
  have hkept : ∀ n, (out.endCollection l none).profile n = s.profile n := by
    intro n
    rw [profile_of_kept (s := out) (by simp), ho]
    rfl
  have hout : out.line l = { s.line l with
      hook := { (s.line l).hook.clearCall with service := .serviceOut, state := .outOfService, pendingQuarantine := false }
      lsu := (s.line l).lsu.outOfService } := by simp [ho]
  unfold State.takeOut LineRec.takenOut
  dsimp only
  rw [← ho]
  by_cases hq : (s.line l).hook.state = .quarantined
  · obtain ⟨p', q', hh⟩ := honourProfile_line_self ((out.endCollection l none).modFault l fun f =>
      { f with retestDue := none, clearCount := 0 }) l
    refine ⟨p', q', ?_⟩
    rw [decide_eq_true hq, if_pos rfl, if_pos hq, hh]
    have hline : ((out.endCollection l none).modFault l fun f => { f with retestDue := none, clearCount := 0 }).line l =
        ((out.endCollection l none).line l).unretested := line_setLine_self _ _ _
    have hprofile : ∀ n, ((out.endCollection l none).modFault l fun f => { f with retestDue := none, clearCount := 0 }).profile n =
        s.profile n := hkept
    rw [hline, hprofile, hended, hout]
    simp only [unretested_withParts, honoured_withParts, withParts_withParts, withParts_prof, unretested_prof, ended_prof]
  · obtain ⟨p', q', hh⟩ := honourProfile_line_self (out.endCollection l none) l
    refine ⟨p', q', ?_⟩
    rw [decide_eq_false hq, if_neg (by simp), if_neg hq, hh, hkept, hended, hout]
    simp only [honoured_withParts, withParts_withParts, withParts_prof, ended_prof]

theorem takeOut_line_ne (h : m ≠ l) : ∃ p, (s.takeOut l).line m = { s.line m with pool := p } := by
  obtain ⟨p, hp⟩ := endCollection_none_line_ne ((s.modHook l fun h =>
    { h.clearCall with service := .serviceOut, state := .outOfService, pendingQuarantine := false }).modLsu l Lsu.outOfService) l m h
  refine ⟨p, ?_⟩
  unfold State.takeOut
  dsimp only
  rw [honourProfile_line_ne _ _ _ h]
  split
  · rw [line_modFault_ne _ _ _ h, hp]; simp [h]
  · rw [hp]; simp [h]

/-- A line that returns to IDLE: its thresholds and its period are set, and what is pending is seen to (R31). -/
theorem returnToIdle_line_self : ∃ p q, (s.returnToIdle l).line l = LineRec.withParts
    (if (s.line l).hook.pendingQuarantine then
      ((s.line l).returned s.partTime s.battery.mode).quarantined (s.profile (s.line l).prof.number) s.partTime s.battery.mode
    else ((s.line l).returned s.partTime s.battery.mode).honoured (s.profile (s.line l).prof.number)) p q := by
  have hret : (s.rethresholdLine l).reperiodLine l = s.setLine l ((s.line l).returned s.partTime s.battery.mode) := by
    simp only [State.rethresholdLine, State.reperiodLine, State.modLsu, setLine_setLine, line_setLine_self, setLine_partTime,
      setLine_battery, State.working]
    rfl
  unfold State.returnToIdle
  dsimp only
  rw [hret, line_setLine_self]
  cases hq : (s.line l).hook.pendingQuarantine with
  | true =>
    have hq' : ((s.line l).returned s.partTime s.battery.mode).hook.pendingQuarantine = true := hq
    obtain ⟨p, q, h⟩ := enterQuarantine_line_self ((s.setLine l ((s.line l).returned s.partTime s.battery.mode)).modHook l
      fun h => { h with pendingQuarantine := false }) l
    refine ⟨p, q, ?_⟩
    rw [if_pos hq', if_pos rfl, h]
    simp only [line_modHook_self, line_setLine_self]
    rfl
  | false =>
    have hq' : ¬ ((s.line l).returned s.partTime s.battery.mode).hook.pendingQuarantine = true := by simp [LineRec.returned, hq]
    obtain ⟨p, q, h⟩ := honourProfile_line_self (s.setLine l ((s.line l).returned s.partTime s.battery.mode)) l
    refine ⟨p, q, ?_⟩
    rw [if_neg hq', if_neg (by simp), h, line_setLine_self]
    rfl

theorem returnToIdle_line_ne (h : m ≠ l) : ∃ p, (s.returnToIdle l).line m = { s.line m with pool := p } := by
  unfold State.returnToIdle
  dsimp only
  split
  · obtain ⟨p, hp⟩ := enterQuarantine_line_ne (((s.rethresholdLine l).reperiodLine l).modHook l
      fun h => { h with pendingQuarantine := false }) l m h
    exact ⟨p, hp.trans (by simp [State.rethresholdLine, State.reperiodLine, h])⟩
  · exact ⟨(s.line m).pool, (honourProfile_line_ne _ _ _ h).trans (by simp [State.rethresholdLine, State.reperiodLine, h])⟩

omit s l m in
theorem fixed_pulse {r : LineRec} (h : r.dial.mode = .pulse) : r.fixed .pulse = r := by
  obtain ⟨lsu, hook, ⟨c, mode, b, t, f, e⟩, pool, test, fault, prof, rep⟩ := r
  cases h
  simp [LineRec.fixed]

omit s l m in
theorem fixed_tone {r : LineRec} (h : r.dial.mode = .tone) : r.fixed .tone = r := by
  obtain ⟨lsu, hook, ⟨c, mode, b, t, f, e⟩, pool, test, fault, prof, rep⟩ := r
  cases h
  simp [LineRec.fixed]

/-- The first digit's change of the line's own record, where the mode allows its method (R56, R57). -/
theorem fixMode_line_self {d : Method} (ha : (s.line l).dial.mode.allows d = true) :
    ∃ p q, (s.fixMode l d).line l = ((s.line l).fixed d).withParts p q := by
  unfold State.fixMode
  cases hm : (s.line l).dial.mode <;> cases d
  case undetermined.pulse =>
    exact ⟨_, _, (giveUpReceiver_line _ l l).trans (by simp [LineRec.fixed]; rfl)⟩
  case undetermined.tone => exact ⟨_, _, by simp [State.discardPulses, LineRec.fixed, hm]; rfl⟩
  case pulse.pulse => exact ⟨_, _, (fixed_pulse hm).symm⟩
  case tone.tone => exact ⟨_, _, (fixed_tone hm).symm⟩
  all_goals rw [hm] at ha; cases ha

theorem fixMode_line_ne (d : Method) (h : m ≠ l) : ∃ p, (s.fixMode l d).line m = { s.line m with pool := p } := by
  unfold State.fixMode
  split
  · exact ⟨_, (giveUpReceiver_line _ l m).trans (by simp [h]; rfl)⟩
  · exact ⟨(s.line m).pool, by simp [State.discardPulses, h]⟩
  · exact ⟨(s.line m).pool, rfl⟩
  · exact ⟨(s.line m).pool, rfl⟩

/-- A digit taken, in the line's own record (R55). -/
theorem takeDigit_line_self (k : Key) {d : Method} (ha : (s.line l).dial.mode.allows d = true) :
    ∃ p q, (s.takeDigit l k d).line l =
      ((s.line l).dialled k d (s.deadlineIn (s.working l).endTimeout)).withParts p q := by
  obtain ⟨fixed, hf⟩ : ∃ t, t = s.fixMode l d := ⟨_, rfl⟩
  obtain ⟨p, q, hfixed⟩ := fixMode_line_self s l ha
  have htime : fixed.partTime = s.partTime := partTime_of_kept (by rw [hf]; exact fixMode_kept s l d)
  unfold State.takeDigit LineRec.dialled
  dsimp only
  rw [← hf] at hfixed ⊢
  simp only [State.deadlineIn, State.working, line_modDial_self, raise_line_self, raise_partTime, modDial_partTime, htime, hfixed]
  exact ⟨_, _, rfl⟩

theorem takeDigit_line_ne (k : Key) (d : Method) (h : m ≠ l) :
    ∃ p, (s.takeDigit l k d).line m = { s.line m with pool := p } := by
  obtain ⟨p, hp⟩ := fixMode_line_ne s l m d h
  refine ⟨p, ?_⟩
  unfold State.takeDigit
  dsimp only
  rw [line_modDial_ne _ _ _ h, raise_line_ne _ _ _ h, line_modDial_ne _ _ _ h, hp]

end

end Sys2Proof.Machine


/-! SUPPORT. The single changes of a line's record, and the rule by which a property of every line's record, read against the profile
table and the scan mode, is kept by every operation; with it the laws of periods, bounds, working parameters and calls. -/

namespace Sys2Proof.Machine

/-- The hook record of a line that returns to IDLE: a SEIZING line falls back, a line in BREAK is released (R30, R38). -/
inductive HookRec.Returns (h : HookRec) : HookRec → Prop
  | fallBack (hs : h.state = .seizing) : h.Returns { h with state := .idle, runStart := none }
  | release (hs : h.state = .onBreak) :
      h.Returns { h with state := .idle, breakStart := none, makeStart := none, pulseCount := 0 }

/-- Whether a break of a line counts as a pulse (R36). -/
def LineRec.countsPulses (r : LineRec) : Bool :=
  r.dial.collection.active && r.prof.working.dialModes != .tone && r.dial.mode != .tone

/-- The single changes of a line's record under a profile table `T` and a scan mode. -/
inductive LineRec.Moves (T : Vector Profile 8) (mode : ScanMode) (r : LineRec) : LineRec → Prop
  | apart (r' : LineRec) (h : r'.core = r.core) : r.Moves T mode r'
  | sampled (now : Time) (x : Option Sample) :
      r.Moves T mode { r with lsu := { r.lsu with lastSample := x, nextSample := r.lsu.period.nextAfter now } }
  | learns (i : Nat) (h : r.hook.state = .learning) : r.Moves T mode { r with lsu := r.lsu.update r.prof.working i 2 }
  | rests (i : Nat) (c : Option LeakClamp) (b : Bool) (h : r.hook.state = .idle)
      (hc : (c.isSome = true → b = false) ∨ c = r.lsu.leakClamp ∧ b = r.lsu.leakReported) :
      r.Moves T mode { r with
        lsu := { r.lsu.update r.prof.working i r.prof.working.trackShift with leakClamp := c, leakReported := b } }
  | endsLearning (now : Time) (h : r.hook.state = .learning) : r.Moves T mode { r with
      hook := { r.hook.clearCall with state := .idle }
      lsu := { r.lsu with learningEnd := none }.reperiod .idle mode now }
  | seizes (now : Time) (h : r.hook.state = .idle) : r.Moves T mode { r with
      hook := { r.hook with state := .seizing, runStart := some now }
      lsu := { r.lsu with leakClamp := none, leakReported := false }.reperiod .seizing mode now }
  | goesOffHook (h : r.hook.state = .seizing) : r.Moves T mode { r with
      hook := { r.hook with state := .offHook, runStart := none, makeStart := none, pulseCount := 0 } }
  | arms (t : Time) (h : r.hook.state.inCall) : r.Moves T mode { r with
      dial := ⟨.waitFirst, .undetermined, [], false, some t, none⟩
      hook := { r.hook with pulseCount := if r.dial.collection.active then 0 else r.hook.pulseCount } }
  | discards : r.Moves T mode { r with hook := { r.hook with pulseCount := 0 } }
  | ends : r.Moves T mode r.ended
  | dials (k : Key) (m : Method) (t : Time) (h : r.dial.collection.active = true) (hm : r.dial.mode.allows m = true)
      (hroom : r.dial.buffer.length < Config.bufferCap) : r.Moves T mode (r.dialled k m t)
  | flashesFirst (t : Time) (h : r.dial.collection = .waitFirst) (hroom : r.dial.buffer.length < Config.bufferCap) :
      r.Moves T mode { r with dial := { r.dial with buffer := r.dial.buffer ++ [.flash], firstDeadline := some t } }
  | flashesLater (t : Time) (h : r.dial.collection = .collecting) (hroom : r.dial.buffer.length < Config.bufferCap) :
      r.Moves T mode { r with dial := { r.dial with buffer := r.dial.buffer ++ [.flash], endDeadline := some t } }
  | empties : r.Moves T mode { r with dial := { r.dial with buffer := [], truncated := false } }
  | breaks (now : Time) (h : r.hook.state = .offHook) :
      r.Moves T mode { r with hook := { r.hook with state := .onBreak, breakStart := some now } }
  | makes (h : r.hook.state = .onBreak) : r.Moves T mode { r with hook := { r.hook with state := .offHook, breakStart := none } }
  | marksMake (now : Time) (h : r.hook.state = .offHook) : r.Moves T mode { r with hook := { r.hook with makeStart := some now } }
  | counts (now : Time) (h : r.hook.state = .offHook) : r.Moves T mode { r with
      hook := { r.hook with
        makeStart := some now
        pulseCount := if r.countsPulses then min 11 (r.hook.pulseCount + 1) else r.hook.pulseCount } }
  | returns (now : Time) (h' : HookRec) (hr : r.hook.Returns h') (hd : r.hook.state = .onBreak → r.dial.collection = .inactive) :
      r.Moves T mode
        (if r.hook.pendingQuarantine then
          ({ r with hook := h' }.returned now mode).quarantined (T.get r.prof.number) now mode
        else ({ r with hook := h' }.returned now mode).honoured (T.get r.prof.number))
  | quarantines (now : Time) (h : r.hook.state ≠ .outOfService) : r.Moves T mode (r.quarantined (T.get r.prof.number) now mode)
  | leavesQuarantine (now : Time) (h : r.hook.state = .quarantined) : r.Moves T mode (r.unretested.learning now mode)
  | counts_clear (n : Nat) (h : r.hook.state = .quarantined) : r.Moves T mode { r with fault := { r.fault with clearCount := n } }
  | retests (t : Time) (h : r.hook.state = .quarantined) : r.Moves T mode { r with fault := { r.fault with retestDue := some t } }
  | awaitsQuarantine (h : r.hook.state.busy = true) : r.Moves T mode { r with hook := { r.hook with pendingQuarantine := true } }
  | restarts (now : Time) : r.Moves T mode { r with hook := r.hook.restart now }
  | takesOut (h : r.hook.state ≠ .outOfService) : r.Moves T mode (r.takenOut (T.get r.prof.number))
  | putsIn (now : Time) (h : r.hook.state = .outOfService) :
      r.Moves T mode ({ r with hook := { r.hook with service := .serviceIn } }.learning now mode)

/-- A property of a line's record, read against the profile table and the scan mode, that every single change keeps. -/
def LineClosed (P : Vector Profile 8 → ScanMode → LineRec → Prop) : Prop :=
  ∀ T mode r r', r.Moves T mode r' → P T mode r → P T mode r'

/-- The property holds of every line. -/
def Lines (P : Vector Profile 8 → ScanMode → LineRec → Prop) (s : State) : Prop := ∀ m, P s.profiles s.battery.mode (s.line m)

section

variable {P : Vector Profile 8 → ScanMode → LineRec → Prop} (h : LineClosed P) {s t : State} {l : Line}
include h

namespace LineClosed

theorem apart (hs : Lines P s) (hc : t.core = s.core) : Lines P t := by
  intro m
  simp only [State.core, Prod.mk.injEq] at hc
  obtain ⟨hp, hb, hl⟩ := hc
  rw [hp, hb]
  exact h _ _ _ _ (.apart _ (congrFun hl m)) (hs m)

/-- One line's record moves, the others stay. -/
theorem set (hs : Lines P s) {r : LineRec} (hr : (s.line l).Moves s.profiles s.battery.mode r) : Lines P (s.setLine l r) := by
  intro m
  by_cases hm : m = l
  · subst hm; rw [line_setLine_self]; exact h _ _ _ _ hr (hs _)
  · rw [line_setLine_ne _ _ _ hm]; exact hs m

/-- One line's record moves, with the parts apart from the cores wherever they go. -/
theorem move (hs : Lines P s) {r : LineRec} (hr : (s.line l).Moves s.profiles s.battery.mode r) (ht : t.kept = s.kept)
    (hself : ∃ p q, t.line l = r.withParts p q) (hne : ∀ m, m ≠ l → ∃ p, t.line m = { s.line m with pool := p }) : Lines P t := by
  refine h.apart (h.set hs hr) ?_
  have hprofiles : t.profiles = s.profiles := congrArg Kept.profiles ht
  refine core_congr hprofiles (battery_of_kept (s := s) ht) fun m => ?_
  by_cases hm : m = l
  · subst hm
    obtain ⟨p, q, hp⟩ := hself
    rw [hp, line_setLine_self, withParts_core]
  · obtain ⟨p, hp⟩ := hne m hm
    rw [hp, line_setLine_ne _ _ _ hm]
    rfl

/-! ### The Digit Collector -/

theorem endCollection (e : Option LineEvent) (hs : Lines P s) : Lines P (s.endCollection l e) := by
  unfold State.endCollection
  split
  · next hactive =>
    have hended : Lines P ((s.modDial l fun d =>
        { d with collection := .inactive, firstDeadline := none, endDeadline := none }).discardPulses l) := by
      have hmove := h.set hs (.ends (r := s.line l))
      rw [LineRec.ended, if_pos hactive] at hmove
      simpa only [State.discardPulses, State.modDial, State.modHook, setLine_setLine, line_setLine_self] using hmove
    dsimp only
    split
    · exact h.apart hended (by simp)
    · exact h.apart hended (by simp)
  · exact h.apart hs (by simp)

theorem arm (hs : Lines P s) (hcall : (s.line l).hook.state.inCall) : Lines P (s.armCollection l) := by
  have hmove := h.set hs (.arms (s.deadlineIn (s.working l).firstDigitTimeout) hcall)
  refine h.apart hmove ?_
  unfold State.armCollection
  dsimp only
  rw [receiverStep_core]
  split <;> simp_all [State.discardPulses, State.modDial, State.modHook]

theorem discardPulses (hs : Lines P s) : Lines P (s.discardPulses l) := h.set hs .discards

omit h in
theorem collectDigit_taken {m : Method} (hcan : ((s.line l).dial.collection.active && (s.line l).dial.mode.allows m) = true)
    (hroom : (s.line l).dial.buffer.length < Config.bufferCap) (k : Key) : s.collectDigit l k m = s.takeDigit l k m :=
  (if_pos hcan).trans (if_pos hroom)

theorem collectDigit (k : Key) (m : Method) (hs : Lines P s) : Lines P (s.collectDigit l k m) := by
  unfold State.collectDigit
  dsimp only
  split
  · next hcan =>
    obtain ⟨hactive, hallows⟩ := Bool.and_eq_true_iff.mp hcan
    split
    · next hroom =>
      exact h.move hs (.dials k m (s.deadlineIn (s.working l).endTimeout) hactive hallows hroom)
        ((collectDigit_taken hcan hroom k) ▸ collectDigit_kept s l k m)
        (takeDigit_line_self s l k hallows) (takeDigit_line_ne s l · k m)
    · exact h.endCollection _ (h.apart hs (setLine_core _ _ rfl))
  · exact hs

theorem collectFlash (hs : Lines P s) : Lines P (s.collectFlash l) := by
  unfold State.collectFlash
  dsimp only
  split
  · next hroom =>
    split
    · exact hs
    · next hc => exact h.set hs (.flashesFirst _ hc hroom)
    · next hc => exact h.set hs (.flashesLater _ hc hroom)
  · split
    · exact h.endCollection _ (h.apart hs (setLine_core _ _ rfl))
    · exact hs

theorem firstDigitExpiry (hs : Lines P s) : Lines P (s.firstDigitExpiry l) := by
  unfold State.firstDigitExpiry
  split
  · exact h.endCollection _ hs
  · exact hs

theorem endDiallingExpiry (hs : Lines P s) : Lines P (s.endDiallingExpiry l) := by
  unfold State.endDiallingExpiry
  split
  · exact h.endCollection _ hs
  · exact hs

theorem blockDone (r : Rx) (frames : List HighwayFrame) (hs : Lines P s) : Lines P (s.blockDone r frames) := by
  have hblock : ∀ (u : State) (rec : Receiver), Lines P u → Lines P (u.completeBlock r rec frames) := by
    intro u rec hu
    unfold State.completeBlock State.moveDetector
    dsimp only
    repeat' split
    · exact h.apart hu (setReceiver_core _ _ _)
    · exact h.collectDigit _ _ (h.apart hu (setReceiver_core _ _ _))
    · exact h.apart hu (setReceiver_core _ _ _)
  unfold State.blockDone
  repeat' split
  · exact hblock _ _ (h.apart hs (reachBoundary_core _ _))
  all_goals exact hs

/-! ### The Fault Supervisor -/

theorem enterQuarantine (hs : Lines P s) (hin : (s.line l).hook.state ≠ .outOfService) : Lines P (s.enterQuarantine l) :=
  h.move hs (.quarantines s.partTime hin) (enterQuarantine_kept s l) (enterQuarantine_line_self s l)
    (enterQuarantine_line_ne s l)

theorem leaveQuarantine (hs : Lines P s) (hq : (s.line l).hook.state = .quarantined) : Lines P (s.leaveQuarantine l) := by
  have hmove := h.set hs (.leavesQuarantine s.partTime hq)
  unfold State.leaveQuarantine
  rw [enterLearning_eq]
  simpa only [State.modFault, setLine_setLine, line_setLine_self, setLine_partTime, setLine_battery, LineRec.unretested] using hmove

theorem takeVerdict (v : FaultSet) (hs : Lines P s) : Lines P (s.takeVerdict l v) := by
  have hjoin : Lines P (s.joinSticky l v) := h.apart hs (by simp)
  have hstate : ((s.joinSticky l v).line l).hook = (s.line l).hook := by
    unfold State.joinSticky
    dsimp only
    split <;> simp
  have hact : Lines P ((s.joinSticky l v).actOnVerdict l v) := by
    unfold State.actOnVerdict
    split
    · exact hjoin
    · split
      all_goals first
        | exact hjoin
        | next hst => exact h.enterQuarantine hjoin (by simp [hst])
        | next hst => exact h.set hjoin (.awaitsQuarantine (by simp [hst, HookState.busy]))
  unfold State.takeVerdict
  dsimp only
  split
  · next hq =>
    unfold State.countVerdict
    repeat' split
    · exact h.apart (h.leaveQuarantine hjoin hq) (by simp)
    · exact h.set hjoin (.counts_clear _ hq)
    · exact h.set hjoin (.counts_clear _ hq)
  all_goals exact hact

theorem finishDone (c : TestCtx) (hs : Lines P s) : Lines P (s.finishDone c) := by
  unfold State.finishDone
  dsimp only
  have htaken := h.takeVerdict (l := c.line) (verdictOf c.values (s.working c.line)) hs
  split
  · exact h.apart htaken (by simp)
  · exact h.apart htaken (by simp)

theorem endDone (c : TestCtx) (hs : Lines P s) : Lines P (s.endDone c) := by
  have hdisc : Lines P (s.disconnect c.line) := h.apart hs (by simp)
  exact h.apart (h.finishDone c hdisc) (by simp [State.endDone])

theorem phaseDone (c : TestCtx) (b : Bool) (hs : Lines P s) : Lines P (s.phaseDone c b) := by
  unfold State.phaseDone State.runningPhaseDone State.steppingPhaseDone
  repeat' split
  · exact h.apart hs (endAborted_core s c)
  · exact h.apart hs (by simp)
  · exact h.apart hs (beginStep_core s c _)
  · exact h.endDone c hs
  · exact h.apart hs (endAborted_core s c)
  · exact h.endDone c hs
  · exact h.apart hs (by simp)
  · exact h.apart hs (by simp)
  · exact h.apart hs (beginStep_core s c _)
  · exact hs
  · exact hs

theorem settleDone (hs : Lines P s) : Lines P s.settleDone := by
  unfold State.settleDone
  repeat' split
  · exact h.phaseDone _ _ hs
  · exact hs
  · exact hs

theorem stepDone (a b : Int) (hs : Lines P s) : Lines P (s.stepDone a b) := by
  unfold State.stepDone
  repeat' split
  all_goals first
    | exact hs
    | exact h.phaseDone _ _ hs

theorem powerCross (hs : Lines P s) : Lines P (s.powerCross l) := by
  have hreport : Lines P ((s.joinSticky l FaultSet.px).raise l .powerCross) := h.apart hs (by simp)
  have hstate : (((s.joinSticky l FaultSet.px).raise l .powerCross).line l).hook = (s.line l).hook := by
    rw [raise_line_hook]
    unfold State.joinSticky
    dsimp only
    split <;> simp
  have henter : (s.line l).hook.state ≠ .outOfService →
      Lines P ((((s.joinSticky l FaultSet.px).raise l .powerCross).enterQuarantine l).requestSuspension l) := fun hin =>
    h.apart (h.enterQuarantine hreport (by rwa [hstate])) (by simp)
  unfold State.powerCross
  split
  · exact hs
  · next hq => exact h.apart (h.set hreport (.counts_clear 0 (by rwa [hstate]))) (requestSuspension_core _ _)
  all_goals
    next hst => exact henter (by simp [hst])

theorem retestExpiry (hs : Lines P s) : Lines P (s.retestExpiry l) := by
  have hset : ∀ {t : State}, Lines P t → (t.line l).hook.state = .quarantined → Lines P (t.setRetestDue l) := fun ht hq =>
    h.set ht (.retests _ hq)
  unfold State.retestExpiry
  split
  · next hdue =>
    split
    · exact hset hs hdue.1
    · refine hset (h.apart hs (by simp)) ?_
      have hcore := congrFun (congrArg (fun c => c.2.2) (fileAuto_core s l)) l
      exact (congrArg (fun r : LineRec => r.hook.state) hcore).trans hdue.1
  · exact hs

/-! ### The Hook Logic -/

theorem returnToIdle {h' : HookRec} (hs : Lines P s) (hr : (s.line l).hook.Returns h')
    (hd : (s.line l).hook.state = .onBreak → (s.line l).dial.collection = .inactive) :
    Lines P ((s.modHook l fun _ => h').returnToIdle l) := by
  refine h.move hs (.returns s.partTime h' hr hd) ?_ ?_ fun m hm => ?_
  · rw [returnToIdle_kept]
    refine modHook_kept _ _ _ ?_
    cases hr <;> rfl
  · obtain ⟨p, q, hp⟩ := returnToIdle_line_self (s.modHook l fun _ => h') l
    refine ⟨p, q, hp.trans ?_⟩
    have hpending : h'.pendingQuarantine = (s.line l).hook.pendingQuarantine := by cases hr <;> rfl
    simp only [line_modHook_self, hpending]
    rfl
  · obtain ⟨p, hp⟩ := returnToIdle_line_ne (s.modHook l fun _ => h') l m hm
    exact ⟨p, hp.trans (by simp [hm])⟩

theorem seizingSample (i : Nat) (hst : (s.line l).hook.state = .seizing) (hs : Lines P s) : Lines P (s.seizingSample l i) := by
  unfold State.seizingSample
  repeat' split
  · have hoff := h.set hs (.goesOffHook hst)
    have hraised : Lines P ((s.modHook l fun h => { h with state := .offHook, runStart := none, makeStart := none, pulseCount := 0 }).raise
        l .offHook) := h.apart hoff (by simp [State.modHook])
    unfold State.declareOffHook State.offHookNotice
    dsimp only
    split
    · exact h.arm hraised (.inl (by simp))
    · exact hraised
  · exact hs
  · exact h.returnToIdle hs (.fallBack hst) (by simp [hst])

theorem closeIf (b : Bool) (hs : Lines P s) : Lines P (s.closeIf l b) := by
  unfold State.closeIf State.closeDigit
  dsimp only
  repeat' split
  · exact h.collectDigit _ _ (h.discardPulses hs)
  · exact h.apart (h.discardPulses hs) (raise_core _ l _)
  · exact hs

omit h in
theorem collectDigit_hook_state (k : Key) (m : Method) : ((s.collectDigit l k m).line l).hook.state = (s.line l).hook.state := by
  have hcalls := congrFun (collectDigit_calls s l k m) l
  exact congrArg (fun c => c.2.2.1) hcalls

omit h in
theorem closeIf_hook_state (b : Bool) : ((s.closeIf l b).line l).hook.state = (s.line l).hook.state := by
  unfold State.closeIf State.closeDigit
  dsimp only
  repeat' split
  · rw [collectDigit_hook_state]; simp [State.discardPulses]
  · simp [State.discardPulses]
  · rfl

theorem offHookSample (i : Nat) (hst : (s.line l).hook.state = .offHook) (hs : Lines P s) : Lines P (s.offHookSample l i) := by
  unfold State.offHookSample
  dsimp only
  split
  · exact h.set (h.closeIf _ hs) (.breaks _ (by rw [closeIf_hook_state, hst]))
  · exact h.closeIf _ hs

theorem classifyBreak (len : Nat) (hst : (s.line l).hook.state = .offHook) (hs : Lines P s) : Lines P (s.classifyBreak l len) := by
  have hmark : Lines P (s.markMake l) := h.set hs (.marksMake _ hst)
  unfold State.classifyBreak
  dsimp only
  repeat' split
  · exact hs
  · exact h.set hs (.counts _ hst)
  · exact hmark
  · exact h.collectFlash (h.apart hmark (by simp))

theorem breakSample (i : Nat) (hst : (s.line l).hook.state = .onBreak) (hs : Lines P s) : Lines P (s.breakSample l i) := by
  unfold State.breakSample
  dsimp only
  repeat' split
  · unfold State.release
    dsimp only
    generalize hclosed : s.closeIf l _ = u
    have hu : Lines P u := hclosed ▸ h.closeIf _ hs
    have hust : (u.line l).hook.state = .onBreak := by rw [← hclosed, closeIf_hook_state, hst]
    obtain ⟨p, q, hended⟩ := endCollection_none_line_self (u.raise l .onHook) l
    have hest : (((u.raise l .onHook).endCollection l none).line l).hook.state = .onBreak := by
      rw [hended, withParts_hook, ended_state, raise_line_hook, hust]
    refine h.returnToIdle (h.endCollection _ (h.apart hu (by simp))) (.release hest) fun _ => ?_
    rw [hended]
    exact ended_inactive _
  · unfold State.make
    dsimp only
    refine h.classifyBreak _ (by simp) (h.set (h.closeIf _ hs) (.makes ?_))
    rw [closeIf_hook_state, hst]
  · exact h.closeIf _ hs

/-! ### The Line Sense Unit -/

omit h in
theorem judgeClamp_forms (u : Lsu) (p : Profile) (b : Bool) (now : Time) : ∃ c b', u.judgeClamp p b now = { u with leakClamp := c, leakReported := b' } ∧
    ((c.isSome = true → b' = false) ∨ c = u.leakClamp ∧ b' = u.leakReported) := by
  unfold Lsu.judgeClamp
  repeat' split
  · exact ⟨u.leakClamp, u.leakReported, rfl, .inr ⟨rfl, rfl⟩⟩
  · next hr => exact ⟨_, u.leakReported, rfl, .inl fun _ => by simpa using hr⟩
  · exact ⟨u.leakClamp, u.leakReported, rfl, .inr ⟨rfl, rfl⟩⟩
  · exact ⟨_, _, rfl, .inl fun _ => rfl⟩

theorem restingSample (i : Nat) (hst : (s.line l).hook.state = .idle) (hs : Lines P s) : Lines P (s.restingSample l i) := by
  unfold State.restingSample
  split
  · have hmove := h.set hs (.seizes s.partTime hst)
    unfold State.seize
    simpa only [State.modHook, State.modLsu, State.reperiodLine, setLine_setLine, line_setLine_self, setLine_partTime,
      setLine_battery] using hmove
  · unfold State.restingUpdate
    dsimp only
    split
    · refine h.apart (h.set hs (.rests i none true hst (.inl (by simp)))) ?_
      unfold State.leakageSuspicion
      rw [fileAuto_core, raise_core, joinSticky_core]
      rfl
    · obtain ⟨c, b, hjudged, hc⟩ := judgeClamp_forms ((s.line l).lsu.update (s.working l) i (s.working l).trackShift) (s.working l)
        (Lsu.presses ((s.line l).lsu.update (s.working l) i (s.working l).trackShift) (s.working l) i) s.partTime
      rw [hjudged]
      exact h.set hs (.rests i c b hst hc)

theorem learningSample (i : Nat) (hst : (s.line l).hook.state = .learning) (hs : Lines P s) : Lines P (s.learningSample l i) := by
  unfold State.learningSample
  split
  · exact h.set hs (.learns i hst)
  · have hmove := h.set hs (.endsLearning s.partTime hst)
    have hended : Lines P (s.endLearning l) := by
      unfold State.endLearning
      simpa only [State.modHook, State.modLsu, State.reperiodLine, setLine_setLine, line_setLine_self, setLine_partTime,
        setLine_battery] using hmove
    exact h.restingSample i (by simp [State.endLearning, State.reperiodLine]) hended

theorem endWindow (hs : Lines P s) : Lines P (s.endWindow l) :=
  h.apart (h.set (h.apart hs (settleEnd_core s l none)) (.restarts s.partTime)) (by
    unfold State.endWindow State.resumeReceiver
    rw [modHeldReceiver_core]
    rfl)

theorem dispatchSample (i : Nat) (hs : Lines P s) : Lines P (s.dispatchSample l i) := by
  unfold State.dispatchSample
  split
  · next hst => exact h.learningSample i hst hs
  · next hst => exact h.restingSample i hst hs
  · next hst => exact h.seizingSample i hst hs
  · next hst => exact h.offHookSample i hst hs
  · next hst => exact h.breakSample i hst hs
  · exact hs
  · exact hs

theorem sample (i : Nat) (ov : Bool) (hs : Lines P s) : Lines P (s.sample l i ov) := by
  unfold State.sample State.takeSample
  dsimp only
  split
  · have hrec : Lines P (s.recordSample l (min i 1200) ov) := h.set hs (.sampled _ _)
    have heval : Lines P ((s.recordSample l (min i 1200) ov).modLsu l fun _ =>
        (((s.recordSample l (min i 1200) ov).line l).lsu.evalOv ov).1) := by
      refine h.apart hrec (setLine_core _ _ ?_)
      unfold Lsu.evalOv
      repeat' split
      all_goals rfl
    split
    · exact h.powerCross heval
    · unfold State.usableSample
      repeat' split
      · exact heval
      · refine h.dispatchSample _ ?_
        exact h.endWindow heval
      · exact h.dispatchSample _ heval
  · exact hs

end LineClosed

end

end Sys2Proof.Machine


/-! SUPPORT. The rule by which a property of every line's record, read against the profile table and the scan mode, is kept by every
command: by the single changes of a record, and by what SET_PROFILE, a change of the mode and the resets make of it. -/

namespace Sys2Proof.Machine

/-- What a property of a line's record, read against the profile table and the scan mode, needs to be kept by every step. -/
structure LineLaw (P : Vector Profile 8 → ScanMode → LineRec → Prop) : Prop where
  moves : LineClosed P
  writes : ∀ T mode r (n : ProfNo) v, v.valid → P T mode r →
    P (T.set n.val v n.isLt) mode (if r.prof.number = n then r.takenUp v else r)
  assigns : ∀ T mode r (n : ProfNo), (r.hook.state.busy = true → r.prof.number ≠ n) → P T mode r →
    P T mode ({ r with prof := { r.prof with number := n } }.takenUp (T.get n))
  modes : ∀ T mode mode' r now, P T mode r → P T mode' { r with lsu := r.lsu.reperiod r.hook.state mode' now }
  cold : ∀ l, P State.reset.profiles State.reset.battery.mode (LineRec.powerUp l)
  command : ∀ T mode mode' r, P T mode r → P T mode' (r.afterCommand (T.get r.prof.number) mode')

theorem clamp_clamp {r : FieldRule} (h : r ∈ profileRules) (x : Nat) : r.clamp (r.clamp x) = r.clamp x := by
  cases r with
  | choice n => rfl
  | range lo hi =>
    have hle : lo ≤ hi := by
      simp only [profileRules, List.mem_cons, FieldRule.range.injEq, List.not_mem_nil, reduceCtorEq, or_false, false_or] at h
      omega
    simp only [FieldRule.clamp, clampNat]
    omega

theorem admits_clamp {r : FieldRule} {x : Nat} (h : r.admits x = true) : r.admits (r.clamp x) = true := by
  cases r <;> exact h

theorem zip_clamped {rs : List FieldRule} {v : List Nat} {y : FieldRule × Nat}
    (h : y ∈ rs.zip ((rs.zip v).map fun (r, x) => r.clamp x)) : ∃ x, (y.1, x) ∈ rs.zip v ∧ y.2 = y.1.clamp x := by
  induction rs generalizing v with
  | nil => simp at h
  | cons r rs ih =>
    cases v with
    | nil => simp at h
    | cons a v =>
      obtain rfl | h := List.mem_cons.mp h
      · exact ⟨a, List.mem_cons_self, rfl⟩
      · obtain ⟨x, hx, hy⟩ := ih h
        exact ⟨x, List.mem_cons_of_mem _ hx, hy⟩

/-- The records that SET_PROFILE accepts are valid (R140, R142). -/
theorem judgeProfile_valid {v : List Nat} {p : Profile} {changed : List Bool} (h : judgeProfile v = .ok (p, changed)) : p.valid := by
  obtain ⟨hlen, hchoices, rfl, hord⟩ := judgeProfile_ok h
  refine ⟨?_, hord⟩
  rw [toFields_ofFields (clampedValues_length hlen) (clampedValues_choices hlen hchoices)]
  intro y hy
  obtain ⟨x, hx, hyx⟩ := zip_clamped hy
  rw [hyx]
  have hadmits := List.all_eq_true.mp ((admits_iff hlen).mpr hchoices) _ hx
  exact ⟨admits_clamp hadmits, clamp_clamp (List.of_mem_zip hx).1 x⟩

theorem reperiodAll_line (s : State) (b : Battery) (m : Line) : ({ s with battery := b } : State).reperiodAll.line m =
    { s.line m with lsu := (s.line m).lsu.reperiod (s.line m).hook.state b.mode s.partTime } := by
  rw [State.reperiodAll, line_modEveryLsu]
  rfl

section

variable {P : Vector Profile 8 → ScanMode → LineRec → Prop} (h : LineLaw P) {s t : State}
include h

namespace LineLaw

theorem reperiodAll (mode : ScanMode) (hs : Lines P s) :
    Lines P ({ s with battery := { s.battery with mode := mode } } : State).reperiodAll := by
  intro m
  have hline := reperiodAll_line s { s.battery with mode := mode } m
  revert hline
  generalize hu : ({ s with battery := { s.battery with mode := mode } } : State).reperiodAll = u
  intro hline
  have hp : u.profiles = s.profiles := by rw [← hu, State.reperiodAll, State.modEveryLsu]
  have hb : u.battery.mode = mode := by rw [← hu, State.reperiodAll, State.modEveryLsu]
  rw [hline, hp, hb]
  exact h.modes s.profiles s.battery.mode mode (s.line m) s.partTime (hs m)

/-- A change of the mode sets every line's period. -/
theorem deriveMode (hs : Lines P s) : Lines P s.deriveMode := by
  unfold State.deriveMode
  dsimp only
  split
  · exact hs
  · exact h.moves.apart (h.reperiodAll _ hs) (raiseDevice_core _ _)

theorem takeOut {l : Line} (hin : (s.line l).hook.state ≠ .outOfService) (hs : Lines P s) : Lines P (s.takeOut l) := by
  intro m
  have hkept : (s.takeOut l).kept = (s.modHook l fun h => { h.clearCall with
      service := .serviceOut, state := .outOfService, pendingQuarantine := false }).kept := takeOut_kept s l
  have hprofiles : (s.takeOut l).profiles = s.profiles := congrArg Kept.profiles hkept
  have hbattery : (s.takeOut l).battery = s.battery := (battery_of_kept hkept).trans rfl
  rw [hprofiles, hbattery]
  by_cases hm : m = l
  · subst hm
    obtain ⟨p, q, hp⟩ := takeOut_line_self s m
    rw [hp]
    exact h.moves _ _ _ _ (.apart _ (withParts_core _ p q)) (h.moves _ _ _ _ (.takesOut hin) (hs m))
  · obtain ⟨p, hp⟩ := takeOut_line_ne s l m hm
    rw [hp]
    exact h.moves _ _ _ _ (.apart (r := s.line m) _ rfl) (hs m)

theorem effect (hs : Lines P s) (he : Effect s t) : Lines P t := by
  have hc : ∀ {t : State}, t.core = s.core → Lines P t := h.moves.apart hs
  cases he with
  | nothing => exact hs
  | clearLatched l => exact hc (modRep_core s l _)
  | writeProfile p fields v changed hj =>
    intro m
    rw [writeProfile_eq, line_withLines]
    exact h.writes _ _ _ p v (judgeProfile_valid hj) (hs m)
  | assignProfile l p =>
    rw [assignProfile_eq]
    split
    · exact hs
    · next hnew =>
      intro m
      by_cases hm : m = l
      · subst hm
        rw [line_setLine_self]
        exact h.assigns _ _ _ p (fun hb hn => hnew (by simp [hb, hn])) (hs m)
      · rw [line_setLine_ne _ _ _ hm]; exact hs m
  | takeOut l hin => exact h.takeOut hin hs
  | putIn l hout =>
    have hmove := h.moves.set hs (.putsIn s.partTime hout)
    rw [enterLearning_eq]
    simpa only [State.modHook, setLine_setLine, line_setLine_self, setLine_partTime, setLine_battery] using hmove
  | moveSlot l t hne hfree =>
    refine hc ?_
    unfold State.moveSlot State.markSlotChange
    rw [modHeldReceiver_core, modPoolLine_core]
  | setMask l kinds => exact hc (modRep_core s l _)
  | setClassMap classes m hm => exact hs
  | setTone p => exact hs
  | setScan setting index =>
    unfold State.setScan
    dsimp only
    split
    · exact h.deriveMode hs
    · exact hs
  | setSweep on interval steps => exact hs
  | arm l hcall => exact h.moves.arm hs hcall
  | endCollection l hact => exact h.moves.endCollection none hs
  | clearBuffer l => exact h.moves.set hs .empties
  | mergeHost l steps force => exact hs
  | fileHost l steps force hst hnew hroom => exact hc (fileHost_core s l steps force)
  | abort l => exact hc (abortTests_core s l)
  | resume hst => exact hc (resumeTesting_core s)
  | ack l left => exact hc (setLine_core s l rfl)
  | release l hq => exact h.moves.leaveQuarantine hs hq
  | reset => exact hs

theorem readBattery (v : Nat) (hs : Lines P s) : Lines P (s.readBattery v) := by
  unfold State.readBattery
  dsimp only
  repeat' split
  · refine h.deriveMode (h.moves.apart (s := { s with battery := { s.battery with reading := _, state := _ } }) ?_ (raiseDevice_core _ _))
    exact hs
  · exact hs
  · exact hs

theorem commandReset (hs : Lines P s) : Lines P s.commandReset := by
  intro m
  rw [commandReset_line, commandReset_eq]
  exact h.command _ _ _ _ (hs m)

theorem coldReset (s : State) (cause : ResetCause) : Lines P (s.coldReset cause) := by
  intro m
  rw [coldReset_line, coldReset_eq]
  exact h.cold m

theorem takes (hs : Lines P s) (ht : Takes s t) : Lines P t := by
  have hc : ∀ {t : State}, t.core = s.core → Lines P t := h.moves.apart hs
  have hchoose : ∀ k : Link, ({ s with link := k } : State).txChoose.core = s.core := fun k =>
    core_congr (by simp) (by simp) fun m => by rw [txChoose_line]; rfl
  cases ht with
  | nothing => exact hs
  | frame run hrun =>
    obtain ⟨k, r, hg⟩ | ⟨k, k', n, hg⟩ := goodFrame_eq_run s run
    · rw [hg]; exact hs
    · rw [hg]
      have heffect : Lines P (run { s with link := k }).1 := h.effect (s := { s with link := k }) hs (effect_of_runOf (hrun _))
      exact fun m => heffect m
  | badFrame =>
    unfold State.badFrame
    dsimp only
    repeat' split
    · exact hs
    · exact hc (hchoose _)
    · rw [answer_eq]; exact fun m => hs m
  | receive r => exact hs
  | turnAway hsl => exact hc (hchoose _)
  | nextFrame f htx => exact hc (hchoose _)
  | commandReset hr => exact h.commandReset hs
  | sample l i ov => exact h.moves.sample i ov hs
  | firstSync => exact hc (firstSync_core s)
  | startReceiver r frame => exact hc (startReceiver_core s r frame)
  | blockDone r frames => exact h.moves.blockDone r frames hs
  | firstDigitExpiry l => exact h.moves.firstDigitExpiry hs
  | endDiallingExpiry l => exact h.moves.endDiallingExpiry hs
  | retestExpiry l => exact h.moves.retestExpiry hs
  | sweepExpiry => exact hc (sweepExpiry_core s)
  | readBattery volts => exact h.readBattery volts hs
  | settleDone => exact h.moves.settleDone hs
  | stepDone a b => exact h.moves.stepDone a b hs

/-- A property of every line's record that the single changes, SET_PROFILE, the modes and the resets keep is kept by every step. -/
theorem kept : KeptByArrivals (Lines P) where
  pending _ _ hs := hs
  time _ _ hs := hs
  cold s cause _ := h.coldReset s cause
  reset _ hs := h.commandReset hs
  low _ hs := hs
  takes _ _ _ hs ht := h.takes hs ht

end LineLaw

end

end Sys2Proof.Machine


/-! SUPPORT. The laws of the sample periods, of the baselines and thresholds, of the working parameters and of what each hook and
collection state has present, as laws of a line's record, with O31, O26, O57, O58, O49 and O50. -/

namespace Sys2Proof.Machine

theorem restart_state (h : HookRec) (now : Time) : (h.restart now).state = h.state := by
  cases hs : h.state <;> simp [HookRec.restart, hs]

theorem restart_pendingProfile (h : HookRec) (now : Time) : (h.restart now).pendingProfile = h.pendingProfile := by
  cases hs : h.state <;> simp [HookRec.restart, hs]

theorem core_lsu {r r' : LineRec} (h : r'.core = r.core) :
    r'.lsu.period = r.lsu.period ∧ r'.lsu.nextSample = r.lsu.nextSample ∧ r'.lsu.baseline = r.lsu.baseline ∧
    r'.lsu.tSeize = r.lsu.tSeize ∧ r'.lsu.tRel = r.lsu.tRel ∧ r'.lsu.learningEnd = r.lsu.learningEnd ∧
    r'.lsu.leakClamp = r.lsu.leakClamp ∧ r'.lsu.leakReported = r.lsu.leakReported := by
  have hl := congrArg LineRec.lsu h
  simp only [LineRec.core, Lsu.mk.injEq] at hl
  obtain ⟨hp, hn, -, -, -, hb, hs, hr, he, hc, hk, -⟩ := hl
  exact ⟨hp, hn, hb, hs, hr, he, hc, hk⟩

theorem core_hook {r r' : LineRec} (h : r'.core = r.core) : r'.hook = r.hook := by
  have hc := congrArg LineRec.hook h
  exact hc
theorem core_prof {r r' : LineRec} (h : r'.core = r.core) : r'.prof = r.prof := by
  have hc := congrArg LineRec.prof h
  exact hc

theorem core_dial {r r' : LineRec} (h : r'.core = r.core) :
    r'.dial.collection = r.dial.collection ∧ r'.dial.mode = r.dial.mode ∧ r'.dial.buffer = r.dial.buffer ∧
    r'.dial.firstDeadline = r.dial.firstDeadline ∧ r'.dial.endDeadline = r.dial.endDeadline := by
  have hd := congrArg LineRec.dial h
  simp only [LineRec.core, DialRec.mk.injEq] at hd
  obtain ⟨hc, hm, hb, -, hf, he⟩ := hd
  exact ⟨hc, hm, hb, hf, he⟩

theorem core_fault {r r' : LineRec} (h : r'.core = r.core) :
    r'.fault.clearCount = r.fault.clearCount ∧ r'.fault.retestDue = r.fault.retestDue := by
  have hf := congrArg LineRec.fault h
  simp only [LineRec.core, FaultRec.mk.injEq] at hf
  obtain ⟨-, hc, hr, -⟩ := hf
  exact ⟨hc, hr⟩

/-! ## The periods (R1 to R3) -/

/-- A line's sample period and next sample time under its hook state and the mode. -/
def LineRec.PeriodFollows (_ : Vector Profile 8) (mode : ScanMode) (r : LineRec) : Prop :=
  r.lsu.period = periodOf r.hook.state mode ∧ (r.lsu.nextSample = none ↔ r.lsu.period = .notSampled)

theorem nextAfter_eq_none (p : Period) (now : Time) : p.nextAfter now = none ↔ p = .notSampled := by
  cases p <;> simp [Period.nextAfter]

/-- A change of period sets the next sample time with it (R3). -/
theorem reperiod_follows {u : Lsu} (h : u.nextSample = none ↔ u.period = .notSampled) (state : HookState) (mode : ScanMode) (now : Time) :
    (u.reperiod state mode now).period = periodOf state mode ∧
    ((u.reperiod state mode now).nextSample = none ↔ (u.reperiod state mode now).period = .notSampled) := by
  unfold Lsu.reperiod
  split
  · next he => exact ⟨he.symm, h⟩
  · exact ⟨rfl, nextAfter_eq_none _ _⟩

section

variable (T : Vector Profile 8) (mode : ScanMode) (r : LineRec) (v : Profile) (now : Time)

theorem periodFollows_congr {r r' : LineRec} (hp : r'.lsu.period = r.lsu.period) (hn : r'.lsu.nextSample = r.lsu.nextSample)
    (hs : periodOf r'.hook.state mode = periodOf r.hook.state mode) (h : r.PeriodFollows T mode) : r'.PeriodFollows T mode := by
  unfold LineRec.PeriodFollows
  rw [hp, hn, hs]
  exact h

@[simp] theorem applied_hook : (r.applied v).hook = r.hook := rfl
@[simp] theorem applied_dial : (r.applied v).dial = r.dial := rfl
@[simp] theorem applied_fault : (r.applied v).fault = r.fault := rfl
@[simp] theorem applied_period : (r.applied v).lsu.period = r.lsu.period := rfl
@[simp] theorem applied_nextSample : (r.applied v).lsu.nextSample = r.lsu.nextSample := rfl

theorem takenUp_periodFollows (h : r.PeriodFollows T mode) : (r.takenUp v).PeriodFollows T mode := by
  unfold LineRec.takenUp
  split <;> exact h

theorem honoured_periodFollows (h : r.PeriodFollows T mode) : (r.honoured v).PeriodFollows T mode := by
  unfold LineRec.honoured
  split <;> exact h

theorem ended_periodFollows (h : r.PeriodFollows T mode) : r.ended.PeriodFollows T mode := by
  unfold LineRec.ended
  split <;> exact h

theorem learning_periodFollows (h : r.lsu.nextSample = none ↔ r.lsu.period = .notSampled) :
    (r.learning now mode).PeriodFollows T mode := by
  have hre := reperiod_follows h .learning mode now
  unfold Lsu.reperiod at hre
  unfold LineRec.PeriodFollows LineRec.learning
  by_cases he : r.lsu.period = periodOf .learning mode
  · simpa [he] using hre
  · simpa [he, Ne.symm he] using hre

theorem quarantined_periodFollows (h : r.PeriodFollows T mode) : (r.quarantined v now mode).PeriodFollows T mode := by
  have hiso : (r.isolated now mode).PeriodFollows T mode := reperiod_follows (u := { r.lsu with
    learningEnd := none, leakClamp := none, leakReported := false }) h.2 .quarantined mode now
  exact honoured_periodFollows T mode _ v (ended_periodFollows T mode _ hiso)

end

theorem periodFollows_closed : LineClosed LineRec.PeriodFollows := by
  intro T mode r r' hm h
  cases hm with
  | apart r' hc =>
    obtain ⟨hp, hn, -⟩ := core_lsu hc
    exact periodFollows_congr T mode hp hn (by rw [core_hook hc]) h
  | sampled now x => exact ⟨h.1, nextAfter_eq_none _ _⟩
  | learns i hs => exact h
  | rests i c b hs hc => exact h
  | endsLearning now hs => exact reperiod_follows (u := { r.lsu with learningEnd := none }) h.2 .idle mode now
  | seizes now hs => exact reperiod_follows (u := { r.lsu with leakClamp := none, leakReported := false }) h.2 .seizing mode now
  | goesOffHook hs => exact periodFollows_congr T mode (r := r) rfl rfl (by rw [hs]; cases mode <;> rfl) h
  | arms t hs => exact h
  | discards => exact h
  | ends => exact ended_periodFollows T mode r h
  | dials k m t ha hm hr => exact h
  | flashesFirst t hc hr => exact h
  | flashesLater t hc hr => exact h
  | empties => exact h
  | breaks now hs => exact periodFollows_congr T mode (r := r) rfl rfl (by rw [hs]; cases mode <;> rfl) h
  | makes hs => exact periodFollows_congr T mode (r := r) rfl rfl (by rw [hs]; cases mode <;> rfl) h
  | marksMake now hs => exact h
  | counts now hs => exact h
  | returns now h' hr hd =>
    have hret : (({ r with hook := h' } : LineRec).returned now mode).PeriodFollows T mode :=
      reperiod_follows (u := r.lsu.rethreshold r.prof.working) h.2 h'.state mode now
    split
    · exact quarantined_periodFollows T mode _ _ now hret
    · exact honoured_periodFollows T mode _ _ hret
  | quarantines now hs => exact quarantined_periodFollows T mode r _ now h
  | leavesQuarantine now hs => exact learning_periodFollows T mode _ now h.2
  | counts_clear n hs => exact h
  | retests t hs => exact h
  | awaitsQuarantine hs => exact h
  | restarts now => exact periodFollows_congr T mode (r := r) rfl rfl (by rw [restart_state]) h
  | takesOut hs =>
    have hout : ({ r with
        hook := { r.hook.clearCall with service := .serviceOut, state := .outOfService, pendingQuarantine := false }
        lsu := r.lsu.outOfService } : LineRec).PeriodFollows T mode := ⟨by cases mode <;> rfl, by simp [Lsu.outOfService]⟩
    have hended := ended_periodFollows T mode _ hout
    refine honoured_periodFollows T mode _ _ ?_
    split
    · exact hended
    · exact hended
  | putsIn now hs => exact learning_periodFollows T mode _ now h.2

theorem periodFollows_law : LineLaw LineRec.PeriodFollows where
  moves := periodFollows_closed
  writes T mode r n v _ h := by
    split
    · exact takenUp_periodFollows T mode r v h
    · exact h
  assigns T mode r n _ h := takenUp_periodFollows T mode _ _ h
  modes _ _ mode' r now h := reperiod_follows h.2 r.hook.state mode' now
  cold l := ⟨rfl, by simp [LineRec.powerUp]⟩
  command _ _ mode' _ _ := ⟨rfl, nextAfter_eq_none _ _⟩

theorem periodsFollow_iff (s : State) : PeriodsFollow s ↔ Lines LineRec.PeriodFollows s :=
  ⟨fun h m => ⟨h.period m, h.next m⟩, fun h => ⟨fun l => (h l).1, fun l => (h l).2⟩⟩

/-- Settles O58: every change of the hook state and of the mode sets the period, and the period the next sample time. -/
theorem periodsFollowStateAndMode : Obligations.PeriodsFollowStateAndMode := by
  intro s t hs ht
  rw [periodsFollow_iff] at hs ⊢
  exact periodFollows_law.kept.step hs ht

/-! ## The working parameters (R141) -/

/-- A line's working parameters under the profile table and its pending profile. -/
def LineRec.Tied (T : Vector Profile 8) (_ : ScanMode) (r : LineRec) : Prop :=
  (r.hook.pendingProfile = false → r.prof.working = T.get r.prof.number) ∧
  (r.hook.pendingProfile = true → r.hook.state.busy = true)

section

variable {T : Vector Profile 8} {mode : ScanMode} {r : LineRec}

theorem tied_congr {r' : LineRec} (hp : r'.prof = r.prof) (hb : r'.hook.pendingProfile = r.hook.pendingProfile)
    (hs : r.hook.state.busy = true → r'.hook.state.busy = true) (h : r.Tied T mode) : r'.Tied T mode := by
  unfold LineRec.Tied
  rw [hp, hb]
  exact ⟨h.1, fun hpend => hs (h.2 hpend)⟩

/-- Without a pending profile, the tie does not read the hook state. -/
theorem tied_of_none (hb : r.hook.pendingProfile = false) (hw : r.prof.working = T.get r.prof.number) : r.Tied T mode :=
  ⟨fun _ => hw, fun hpend => by rw [hb] at hpend; cases hpend⟩

/-- On a line that is not busy no profile is pending. -/
theorem Tied.not_pending (h : r.Tied T mode) (hs : r.hook.state.busy = false) : r.hook.pendingProfile = false := by
  cases hb : r.hook.pendingProfile with
  | false => rfl
  | true => rw [h.2 hb] at hs; cases hs

theorem honoured_tied (h : r.hook.pendingProfile = false → r.prof.working = T.get r.prof.number) :
    (r.honoured (T.get r.prof.number)).Tied T mode := by
  unfold LineRec.honoured
  split
  · exact tied_of_none rfl rfl
  · next hb =>
    have hb : r.hook.pendingProfile = false := by simpa using hb
    exact tied_of_none hb (h hb)

theorem takenUp_tied (v : Profile) (hv : T.get r.prof.number = v) (hpend : r.hook.pendingProfile = true → r.hook.state.busy = true) :
    (r.takenUp v).Tied T mode := by
  unfold LineRec.takenUp
  split
  · next hbusy => exact ⟨fun hb => (nomatch hb), fun _ => hbusy⟩
  · next hfree =>
    refine tied_of_none ?_ hv.symm
    cases hb : r.hook.pendingProfile with
    | false => exact hb
    | true => exact absurd (hpend hb) hfree

theorem ended_tied (h : r.Tied T mode) : r.ended.Tied T mode :=
  tied_congr (ended_prof r) (ended_pendingProfile r) (by rw [ended_state]; exact id) h

theorem quarantined_tied (now : Time) (h : r.hook.pendingProfile = false → r.prof.working = T.get r.prof.number) :
    (r.quarantined (T.get r.prof.number) now mode).Tied T mode := by
  have hended : ((r.isolated now mode).ended).hook.pendingProfile = false →
      ((r.isolated now mode).ended).prof.working = T.get ((r.isolated now mode).ended).prof.number := by
    rw [ended_pendingProfile, ended_prof]
    exact h
  have hhon := honoured_tied (mode := mode) hended
  rw [ended_prof] at hhon
  exact hhon

end

theorem tied_closed : LineClosed LineRec.Tied := by
  intro T mode r r' hm h
  have hnone : ∀ {st : HookState}, r.hook.state = st → st.busy = false →
      r.hook.pendingProfile = false ∧ r.prof.working = T.get r.prof.number := fun hs hb => by
    have hp := Tied.not_pending h (by rw [hs]; exact hb)
    exact ⟨hp, h.1 hp⟩
  cases hm with
  | apart r' hc => exact tied_congr (core_prof hc) (by rw [core_hook hc]) (by rw [core_hook hc]; exact id) h
  | sampled now x => exact h
  | learns i hs => exact h
  | rests i c b hs hc => exact h
  | endsLearning now hs => exact tied_of_none (hnone hs rfl).1 (hnone hs rfl).2
  | seizes now hs => exact tied_of_none (hnone hs rfl).1 (hnone hs rfl).2
  | goesOffHook hs => exact tied_congr (r := r) rfl rfl (fun _ => rfl) h
  | arms t hs => exact h
  | discards => exact h
  | ends => exact ended_tied h
  | dials k m t ha hm hr => exact h
  | flashesFirst t hc hr => exact h
  | flashesLater t hc hr => exact h
  | empties => exact h
  | breaks now hs => exact tied_congr (r := r) rfl rfl (fun _ => rfl) h
  | makes hs => exact tied_congr (r := r) rfl rfl (fun _ => rfl) h
  | marksMake now hs => exact h
  | counts now hs => exact h
  | returns now h' hr hd =>
    have hpend : h'.pendingProfile = r.hook.pendingProfile := by cases hr <;> rfl
    have hret : h'.pendingProfile = false → r.prof.working = T.get r.prof.number := by rw [hpend]; exact h.1
    split
    · exact quarantined_tied (r := ({ r with hook := h' } : LineRec).returned now mode) now hret
    · exact honoured_tied (r := ({ r with hook := h' } : LineRec).returned now mode) hret
  | quarantines now hs => exact quarantined_tied now h.1
  | leavesQuarantine now hs => exact tied_of_none rfl (hnone hs rfl).2
  | counts_clear n hs => exact h
  | retests t hs => exact h
  | awaitsQuarantine hs => exact h
  | restarts now => exact tied_congr (r := r) rfl (restart_pendingProfile _ _) (by rw [restart_state]; exact id) h
  | takesOut hs =>
    have hended : ∀ x : LineRec, x.hook.pendingProfile = r.hook.pendingProfile → x.prof = r.prof →
        (x.ended.honoured (T.get r.prof.number)).Tied T mode ∧
        (x.ended.unretested.honoured (T.get r.prof.number)).Tied T mode := by
      intro x hx hp
      have he : x.ended.hook.pendingProfile = false → x.ended.prof.working = T.get x.ended.prof.number := by
        rw [ended_pendingProfile, ended_prof, hx, hp]
        exact h.1
      have h1 := honoured_tied (mode := mode) he
      have h2 := honoured_tied (r := x.ended.unretested) (mode := mode) he
      rw [unretested_prof] at h2
      rw [ended_prof, hp] at h1 h2
      exact ⟨h1, h2⟩
    unfold LineRec.takenOut
    dsimp only
    split
    · refine (hended _ ?_ ?_).2 <;> rfl
    · refine (hended _ ?_ ?_).1 <;> rfl
  | putsIn now hs => exact tied_of_none rfl (hnone hs rfl).2

theorem get_set_profile (T : Vector Profile 8) (n m : ProfNo) (v : Profile) :
    (T.set n.val v n.isLt).get m = if m = n then v else T.get m := by
  simp only [Vector.get_eq_getElem, Vector.getElem_set, Fin.ext_iff]
  by_cases h : n.val = m.val
  · simp [h]
  · simp [h, Ne.symm h]

theorem tied_law : LineLaw LineRec.Tied where
  moves := tied_closed
  writes T mode r n v _ h := by
    split
    · next hn => exact takenUp_tied v (by rw [get_set_profile, if_pos hn]) h.2
    · next hn =>
      refine ⟨fun hp => ?_, h.2⟩
      rw [get_set_profile, if_neg hn]
      exact h.1 hp
  assigns T mode r n _ h := takenUp_tied _ rfl h.2
  modes _ _ _ _ _ h := h
  cold l := tied_of_none rfl rfl
  command _ _ _ _ _ := tied_of_none rfl rfl

theorem workingFollowsTable_iff (s : State) : WorkingFollowsTable s ↔ Lines LineRec.Tied s :=
  ⟨fun h m => ⟨h.equal m, h.pendingBusy m⟩, fun h => ⟨fun l => (h l).1, fun l => (h l).2⟩⟩

/-- Settles O26: a changed record is copied at once or is pending on a busy line, and every way out of a busy state applies it. -/
theorem workingParametersFollowTheTable : Obligations.WorkingParametersFollowTheTable := by
  intro s t hs ht
  rw [workingFollowsTable_iff] at hs ⊢
  exact tied_law.kept.step hs ht

/-! ## Baselines and thresholds (R5 to R8) -/

/-- The ranges of a valid record that bound the thresholds. -/
theorem valid_ranges {p : Profile} (h : p.valid) : 10 ≤ p.seizeMargin ∧ 5 ≤ p.hysteresis ∧ p.leakMax ≤ 200 := by
  obtain ⟨hrules, -⟩ := h
  have hmargin := (hrules (.range 10 200, p.seizeMargin) (by simp [profileRules, Profile.toFields])).2
  have hhyst := (hrules (.range 5 100, p.hysteresis) (by simp [profileRules, Profile.toFields])).2
  have hleak := (hrules (.range 0 200, p.leakMax) (by simp [profileRules, Profile.toFields])).2
  simp only [FieldRule.clamp, clampNat] at hmargin hhyst hleak
  omega

theorem seizeThreshold_range (b : Nat) (p : Profile) : 40 ≤ seizeThreshold b p ∧ seizeThreshold b p ≤ 300 := by
  simp only [seizeThreshold, clampNat]
  omega

theorem releaseThreshold_range {b : Nat} {p : Profile} (hp : p.valid) (hb : b ≤ 4096 * p.leakMax) :
    1 ≤ releaseThreshold b p ∧ releaseThreshold b p < seizeThreshold b p := by
  obtain ⟨hmargin, hhyst, hleak⟩ := valid_ranges hp
  simp only [releaseThreshold, seizeThreshold, clampNat, wholeCu]
  omega

theorem updatedBaseline_le (b i shift leakMax : Nat) : updatedBaseline b i shift leakMax ≤ 4096 * leakMax := by
  simp only [updatedBaseline, clampInt, baselineMax]
  omega

/-- Settles O49: the four rows of R2, the first multiple of a period after a moment, and R3. -/
theorem samplePeriodsAndBoundaries : Obligations.SamplePeriodsAndBoundaries := by
  refine ⟨?_, fun now => rfl, ?_, fun u h m now => ⟨fun he => if_pos he, fun he => if_neg he⟩⟩
  · intro h m
    cases h <;> cases m <;> rfl
  · intro p ms hp now hnow
    have hms : ms = 2 ∨ ms = 8 := hp.imp And.right And.right
    have hnext : p.nextAfter now = some (nextMultiple ms now) := by
      obtain ⟨rfl, rfl⟩ | ⟨rfl, rfl⟩ := hp <;> rfl
    have hnat : (nextMultiple ms now).toNat = (now.toNat / ms + 1) * ms := by
      rw [nextMultiple, BitVec.toNat_ofNat, Nat.mod_eq_of_lt]
      obtain rfl | rfl := hms <;> omega
    refine ⟨_, hnext, ?_⟩
    rw [hnat]
    refine ⟨?_, Nat.mul_mod_left _ _, fun n hn hmod => ?_⟩
    · obtain rfl | rfl := hms <;> omega
    · obtain rfl | rfl := hms <;> omega

/-- A floor of a quotient by a power of two is the integer division. -/
theorem floor_div_two_pow (d : Int) (n : Nat) : ⌊(d : ℚ) / 2 ^ n⌋ = d / (2 ^ n : Nat) := by
  have h := Rat.floor_intCast_div_natCast d (2 ^ n)
  push_cast at h ⊢
  exact h

/-- The integer division of a correction by a positive number: its sign, and the target it does not pass. -/
theorem correction_bounds (d : Int) {q : Int} (hq : 1 ≤ q) :
    (d < 0 → d / q ≤ -1 ∧ d ≤ d / q) ∧ (0 ≤ d → 0 ≤ d / q) ∧ (0 ≤ d → d < q → d / q = 0) := by
  refine ⟨fun hd => ⟨?_, ?_⟩, fun hd => Int.ediv_nonneg hd (by omega), fun hd hlt => Int.ediv_eq_zero_of_lt hd hlt⟩
  · have := Int.ediv_neg_of_neg_of_pos hd (by omega : 0 < q)
    omega
  · rw [Int.le_ediv_iff_mul_le (by omega)]
    nlinarith

/-- Settles O50: the update by the integer division that is its floor, and the thresholds by their clamps. -/
theorem baselinesAndThresholds : Obligations.BaselinesAndThresholds := by
  refine ⟨fun b i shift leakMax hb => ?_, fun b p hp hb => ?_, by decide, by decide⟩
  · intro d c
    have hc : c = d / (2 ^ shift : Nat) := floor_div_two_pow d shift
    have hd : d = (i : Int) * 4096 - b := rfl
    obtain ⟨hneg, hpos, hsmall⟩ := correction_bounds d (q := (2 ^ shift : Nat)) (by exact_mod_cast Nat.one_le_two_pow)
    rw [← hc] at hneg hpos hsmall
    have hsum : 0 ≤ (b : Int) + c := by
      by_cases h : d < 0
      · have := (hneg h).2; omega
      · have := hpos (by omega); omega
    refine ⟨?_, fun hleak hi => by omega, fun h => ⟨(hneg h).1, ?_⟩, fun h hlt => hsmall h (by exact_mod_cast hlt), hsum, ?_⟩
    · have hupd : updatedBaseline b i shift leakMax = (max 0 (min ((4096 * leakMax : Nat) : Int) (b + c))).toNat := by
        rw [hc]; rfl
      rw [hupd]
      omega
    · have := (hneg h).2
      omega
    · rintro u p rfl rfl
      rfl
  · intro w
    obtain ⟨hlow, hhigh⟩ := seizeThreshold_range b p
    obtain ⟨hone, hbelow⟩ := releaseThreshold_range hp hb
    refine ⟨rfl, ?_, hlow, hhigh, hone, hbelow⟩
    simp only [releaseThreshold, wholeCu, w]
    omega

/-- A line's working record, its baseline and its thresholds, under a table of valid records. -/
structure LineRec.Sound (T : Vector Profile 8) (_ : ScanMode) (r : LineRec) : Prop where
  table : ∀ n, (T.get n).valid
  working : r.prof.working.valid
  bounded : r.lsu.bounded r.prof.working
  resting : r.hook.state = .learning ∨ r.hook.state = .idle →
    r.lsu.tSeize = seizeThreshold r.lsu.baseline r.prof.working ∧ r.lsu.tRel = releaseThreshold r.lsu.baseline r.prof.working

section

variable {T : Vector Profile 8} {mode : ScanMode} {r r' : LineRec}

/-- A record with the working record, the baseline and the thresholds of a sound one, in no state where the thresholds are fresh
unless it was in one before. -/
theorem Sound.congr (h : r.Sound T mode) (hw : r'.prof.working = r.prof.working) (hb : r'.lsu.baseline = r.lsu.baseline)
    (hs : r'.lsu.tSeize = r.lsu.tSeize) (hr : r'.lsu.tRel = r.lsu.tRel)
    (hst : r'.hook.state = .learning ∨ r'.hook.state = .idle → r.hook.state = .learning ∨ r.hook.state = .idle) : r'.Sound T mode := by
  refine ⟨h.table, by rw [hw]; exact h.working, ?_, fun hx => ?_⟩
  · obtain ⟨h1, h2, h3, h4, h5⟩ := h.bounded
    exact ⟨by rwa [hw, hb], by rwa [hs], by rwa [hs], by rwa [hr], by rwa [hr, hs]⟩
  · rw [hs, hr, hb, hw]
    exact h.resting (hst hx)

/-- Fresh thresholds are sound. -/
theorem Sound.fresh (ht : ∀ n, (T.get n).valid) (hw : r'.prof.working.valid) (hb : r'.lsu.baseline ≤ 4096 * r'.prof.working.leakMax)
    (hs : r'.lsu.tSeize = seizeThreshold r'.lsu.baseline r'.prof.working)
    (hr : r'.lsu.tRel = releaseThreshold r'.lsu.baseline r'.prof.working) : r'.Sound T mode := by
  obtain ⟨hlow, hhigh⟩ := seizeThreshold_range r'.lsu.baseline r'.prof.working
  obtain ⟨hone, hbelow⟩ := releaseThreshold_range hw hb
  exact ⟨ht, hw, ⟨hb, by rwa [hs], by rwa [hs], by rwa [hr], by rwa [hr, hs]⟩, fun _ => ⟨hs, hr⟩⟩

theorem Sound.applied (h : r.Sound T mode) {v : Profile} (hv : v.valid) : (r.applied v).Sound T mode := by
  by_cases hst : r.hook.state = .learning ∨ r.hook.state = .idle
  · have hbool : (r.hook.state == .learning || r.hook.state == .idle) = true := by simpa using hst
    exact Sound.fresh h.table hv (Nat.min_le_right _ _) (by simp [LineRec.applied, hbool]) (by simp [LineRec.applied, hbool])
  · have hbool : (r.hook.state == .learning || r.hook.state == .idle) = false := by simpa using hst
    obtain ⟨-, h2, h3, h4, h5⟩ := h.bounded
    refine ⟨h.table, hv, ⟨Nat.min_le_right _ _, ?_, ?_, ?_, ?_⟩, fun hx => absurd hx hst⟩ <;> simpa [LineRec.applied, hbool]

theorem Sound.takenUp (h : r.Sound T mode) {v : Profile} (hv : v.valid) : (r.takenUp v).Sound T mode := by
  unfold LineRec.takenUp
  split
  · exact Sound.congr h rfl rfl rfl rfl id
  · exact Sound.applied h hv

theorem Sound.honoured (h : r.Sound T mode) {v : Profile} (hv : v.valid) : (r.honoured v).Sound T mode := by
  unfold LineRec.honoured
  split
  · exact Sound.applied (r := { r with hook := { r.hook with pendingProfile := false } }) (Sound.congr h rfl rfl rfl rfl id) hv
  · exact h

theorem Sound.ended (h : r.Sound T mode) : r.ended.Sound T mode :=
  Sound.congr h (by rw [ended_prof]) (by rw [ended_lsu]) (by rw [ended_lsu]) (by rw [ended_lsu]) (by rw [ended_state]; exact id)

theorem reperiod_bounds (u : Lsu) (st : HookState) (mode : ScanMode) (now : Time) :
    (u.reperiod st mode now).baseline = u.baseline ∧ (u.reperiod st mode now).tSeize = u.tSeize ∧
    (u.reperiod st mode now).tRel = u.tRel := by
  unfold Lsu.reperiod
  split <;> exact ⟨rfl, rfl, rfl⟩

theorem Sound.quarantined (h : r.Sound T mode) {v : Profile} (hv : v.valid) (now : Time) (mode' : ScanMode) :
    (r.quarantined v now mode').Sound T mode := by
  obtain ⟨hb, hs, hr⟩ := reperiod_bounds { r.lsu with learningEnd := none, leakClamp := none, leakReported := false } .quarantined mode' now
  have hiso : (r.isolated now mode').Sound T mode := Sound.congr h rfl hb hs hr (fun hx => by obtain hx | hx := hx <;> cases hx)
  exact Sound.congr (Sound.honoured (Sound.ended hiso) hv) rfl rfl rfl rfl id

theorem Sound.learning (h : r.Sound T mode) (now : Time) (mode' : ScanMode) : (r.learning now mode').Sound T mode :=
  Sound.fresh h.table h.working h.bounded.baseline rfl rfl

theorem Sound.update (h : r.Sound T mode) (i sh : Nat) : ({ r with lsu := r.lsu.update r.prof.working i sh } : LineRec).Sound T mode :=
  Sound.fresh h.table h.working (updatedBaseline_le _ _ _ _) rfl rfl

end

theorem sound_closed : LineClosed LineRec.Sound := by
  intro T mode r r' hm h
  have hbusy : ∀ {x : LineRec}, x.prof = r.prof → x.lsu = r.lsu → x.hook.state.busy = true → x.Sound T mode := fun hp hl hb =>
    Sound.congr h (by rw [hp]) (by rw [hl]) (by rw [hl]) (by rw [hl]) fun hx => by
      obtain hx | hx := hx <;> rw [hx] at hb <;> cases hb
  cases hm with
  | apart r' hc =>
    obtain ⟨-, -, hb, hs, hr, -⟩ := core_lsu hc
    exact Sound.congr h (by rw [core_prof hc]) hb hs hr (by rw [core_hook hc]; exact id)
  | sampled now x => exact Sound.congr h rfl rfl rfl rfl id
  | learns i hs => exact Sound.update h i 2
  | rests i c b hs hc => exact Sound.congr (Sound.update h i _) rfl rfl rfl rfl id
  | endsLearning now hs =>
    obtain ⟨hb, hse, hr⟩ := reperiod_bounds { r.lsu with learningEnd := none } .idle mode now
    exact Sound.congr h rfl hb hse hr (fun _ => .inl hs)
  | seizes now hs =>
    obtain ⟨hb, hse, hr⟩ := reperiod_bounds { r.lsu with leakClamp := none, leakReported := false } .seizing mode now
    exact Sound.congr h rfl hb hse hr (fun _ => .inr hs)
  | goesOffHook hs => exact hbusy rfl rfl rfl
  | arms t hs => exact Sound.congr h rfl rfl rfl rfl id
  | discards => exact Sound.congr h rfl rfl rfl rfl id
  | ends => exact Sound.ended h
  | dials k m t ha hm hr => exact Sound.congr h rfl rfl rfl rfl id
  | flashesFirst t hc hr => exact Sound.congr h rfl rfl rfl rfl id
  | flashesLater t hc hr => exact Sound.congr h rfl rfl rfl rfl id
  | empties => exact Sound.congr h rfl rfl rfl rfl id
  | breaks now hs => exact hbusy rfl rfl rfl
  | makes hs => exact hbusy rfl rfl rfl
  | marksMake now hs => exact Sound.congr h rfl rfl rfl rfl id
  | counts now hs => exact Sound.congr h rfl rfl rfl rfl id
  | returns now h' hr hd =>
    obtain ⟨hb, hse, hre⟩ := reperiod_bounds (r.lsu.rethreshold r.prof.working) h'.state mode now
    have hret : (({ r with hook := h' } : LineRec).returned now mode).Sound T mode := by
      refine Sound.fresh h.table h.working ?_ ?_ ?_
      · exact hb.trans_le h.bounded.baseline
      · exact hse.trans (congrArg (seizeThreshold · r.prof.working) hb.symm)
      · exact hre.trans (congrArg (releaseThreshold · r.prof.working) hb.symm)
    split
    · exact Sound.quarantined hret (h.table _) now mode
    · exact Sound.honoured hret (h.table _)
  | quarantines now hs => exact Sound.quarantined h (h.table _) now mode
  | leavesQuarantine now hs => exact Sound.learning (r := r.unretested) (Sound.congr h rfl rfl rfl rfl id) now mode
  | counts_clear n hs => exact Sound.congr h rfl rfl rfl rfl id
  | retests t hs => exact Sound.congr h rfl rfl rfl rfl id
  | awaitsQuarantine hs => exact Sound.congr h rfl rfl rfl rfl id
  | restarts now => exact Sound.congr h rfl rfl rfl rfl (by rw [restart_state]; exact id)
  | takesOut hs =>
    have hout : ({ r with
        hook := { r.hook.clearCall with service := .serviceOut, state := .outOfService, pendingQuarantine := false }
        lsu := r.lsu.outOfService } : LineRec).Sound T mode :=
      Sound.congr h rfl rfl rfl rfl (fun hx => by obtain hx | hx := hx <;> cases hx)
    refine Sound.honoured ?_ (h.table _)
    split
    · exact Sound.congr (Sound.ended hout) rfl rfl rfl rfl id
    · exact Sound.ended hout
  | putsIn now hs =>
    exact Sound.learning (r := { r with hook := { r.hook with service := .serviceIn } }) (Sound.congr h rfl rfl rfl rfl id) now mode

theorem default_valid : Profile.default.valid := by
  refine ⟨?_, rfl⟩
  decide

theorem sound_law : LineLaw LineRec.Sound where
  moves := sound_closed
  writes T mode r n v hv h := by
    have hx : (if r.prof.number = n then r.takenUp v else r).Sound T mode := by
      split
      · exact Sound.takenUp h hv
      · exact h
    refine ⟨fun m => ?_, hx.working, hx.bounded, hx.resting⟩
    rw [get_set_profile]
    split
    · exact hv
    · exact h.table m
  assigns T mode r n _ h :=
    Sound.takenUp (r := { r with prof := { r.prof with number := n } }) (Sound.congr h rfl rfl rfl rfl id) (h.table n)
  modes T mode mode' r now h := by
    obtain ⟨hb, hs, hr⟩ := reperiod_bounds r.lsu r.hook.state mode' now
    have hx : ({ r with lsu := r.lsu.reperiod r.hook.state mode' now } : LineRec).Sound T mode := Sound.congr h rfl hb hs hr id
    exact ⟨hx.table, hx.working, hx.bounded, hx.resting⟩
  cold l := by
    have hT : ∀ n : ProfNo, State.reset.profiles.get n = Profile.default := fun n => by
      simp [State.reset, Vector.get, Fin.cast]
    refine Sound.fresh (fun n => by rw [hT]; exact default_valid) default_valid (Nat.zero_le _)
      (show 60 = seizeThreshold 0 Profile.default by decide) (show 40 = releaseThreshold 0 Profile.default by decide)
  command T mode mode' r h := Sound.fresh h.table (h.table _) (Nat.zero_le _) rfl rfl

theorem linesBounded_iff (s : State) : LinesBounded s ↔ Lines LineRec.Sound s :=
  ⟨fun h m => ⟨h.profiles.table, h.profiles.working m, h.lines m, h.resting m⟩,
    fun h => ⟨⟨(h 0).table, fun l => (h l).working⟩, fun l => (h l).bounded, fun l => (h l).resting⟩⟩

/-- Settles O57: an update clamps the baseline, an application lowers it, and the thresholds are computed from it under a valid record. -/
theorem linesStayBounded : Obligations.LinesStayBounded := by
  intro s t hs ht
  rw [linesBounded_iff] at hs ⊢
  exact sound_law.kept.step hs ht

/-! ## What each state of a line has present (R11, R17, R25, R36, R50, R65, R124) -/

section

variable {r r' : LineRec} {v : Profile} {now : Time} {mode : ScanMode}

theorem active_iff (c : Collection) : c.active = true ↔ c ≠ .inactive := by
  cases c <;> simp [Collection.active]

/-- A line outside a call collects nothing. -/
theorem consistent_noCall (h : r.consistent) (hn : ¬ r.hook.state.inCall) :
    r.dial.collection = .inactive ∧ r.dial.firstDeadline = none ∧ r.dial.endDeadline = none ∧ r.hook.pulseCount = 0 := by
  have hc : r.dial.collection = .inactive := by
    by_contra hc
    exact hn (h.collects hc)
  have hf : ¬ r.dial.firstDeadline.isSome = true := by rw [h.first, hc]; simp
  have he : ¬ r.dial.endDeadline.isSome = true := by rw [h.ending, hc]; simp
  refine ⟨hc, by simpa using hf, by simpa using he, Nat.eq_zero_of_not_pos fun hp => ?_⟩
  obtain ⟨-, -, hact, -⟩ := h.pulses hp
  exact hact hc

/-- A line that is not busy, with nothing in progress, is consistent. -/
theorem consistent_atRest {service : Service} {st : HookState} (hhook : r'.hook = ⟨service, st, none, none, none, 0, false, false⟩)
    (hst : st.busy = false) (hserv : service = .serviceOut ↔ st = .outOfService) (hc : r'.dial.collection = .inactive)
    (hf : r'.dial.firstDeadline = none) (he : r'.dial.endDeadline = none) (hb : r'.dial.buffer.length ≤ 24)
    (hl : r'.lsu.learningEnd.isSome = true ↔ st = .learning)
    (hclamp : r'.lsu.leakClamp.isSome = true ∨ r'.lsu.leakReported = true → st = .idle)
    (honce : r'.lsu.leakClamp.isSome = true → r'.lsu.leakReported = false)
    (hr : r'.fault.retestDue.isSome = true ↔ st = .quarantined) (hclear : 0 < r'.fault.clearCount → st = .quarantined) :
    r'.consistent := by
  have hstates : st ≠ .seizing ∧ st ≠ .onBreak := by
    constructor <;> rintro rfl <;> cases hst
  constructor
  case service => rwa [hhook]
  case runStart => simpa [hhook] using hstates.1
  case breakStart => simpa [hhook] using hstates.2
  case buffer => exact hb
  case learning => rwa [hhook]
  case clamp => rwa [hhook]
  case clampOnce => exact honce
  case retest => rwa [hhook]
  case clears => rwa [hhook]
  all_goals simp [hhook, hc, hf, he]

theorem ended_dial_eq (r : LineRec) : r.ended.dial = if r.dial.collection.active then
    { r.dial with collection := .inactive, firstDeadline := none, endDeadline := none } else r.dial := by
  unfold LineRec.ended
  split <;> rfl

/-- A line whose collection has ended. -/
theorem ended_dial (h : r.consistent) : r.ended.dial.collection = .inactive ∧ r.ended.dial.firstDeadline = none ∧
    r.ended.dial.endDeadline = none ∧ r.ended.dial.buffer = r.dial.buffer := by
  unfold LineRec.ended
  split
  · exact ⟨rfl, rfl, rfl, rfl⟩
  · next hact =>
    have hc : r.dial.collection = .inactive := by
      by_contra hc
      exact hact ((active_iff _).mpr hc)
    have hf : ¬ r.dial.firstDeadline.isSome = true := by rw [h.first, hc]; simp
    have he : ¬ r.dial.endDeadline.isSome = true := by rw [h.ending, hc]; simp
    exact ⟨hc, by simpa using hf, by simpa using he, rfl⟩

theorem applied_lsu_times (r : LineRec) (v : Profile) : (r.applied v).lsu.learningEnd = r.lsu.learningEnd ∧
    (r.applied v).lsu.leakClamp = r.lsu.leakClamp ∧ (r.applied v).lsu.leakReported = r.lsu.leakReported := ⟨rfl, rfl, rfl⟩

/-- What an applied pending profile leaves of a record. -/
theorem honoured_parts (r : LineRec) (v : Profile) : (r.honoured v).hook = { r.hook with pendingProfile := false } ∧
    (r.honoured v).dial = r.dial ∧ (r.honoured v).fault = r.fault ∧ (r.honoured v).lsu.learningEnd = r.lsu.learningEnd ∧
    (r.honoured v).lsu.leakClamp = r.lsu.leakClamp ∧ (r.honoured v).lsu.leakReported = r.lsu.leakReported := by
  unfold LineRec.honoured
  split
  · exact ⟨rfl, rfl, rfl, rfl, rfl, rfl⟩
  · next hp =>
    have hp : r.hook.pendingProfile = false := by simpa using hp
    exact ⟨by rw [← hp], rfl, rfl, rfl, rfl, rfl⟩

theorem ended_hook (r : LineRec) (h : r.hook.pulseCount = 0) : r.ended.hook = r.hook := by
  unfold LineRec.ended
  split
  · rw [← h]
  · rfl

theorem consistent_applied (h : r.consistent) (hp : r.hook.pulseCount = 0) : (r.applied v).consistent :=
  { h with pulses := fun hpos => by rw [applied_hook, hp] at hpos; cases hpos }

theorem consistent_takenUp (h : r.consistent) : (r.takenUp v).consistent := by
  unfold LineRec.takenUp
  split
  · next hb => exact { h with pending := fun _ => hb }
  · next hb =>
    refine consistent_applied h (consistent_noCall h ?_).2.2.2
    rintro (hs | hs) <;> rw [hs] at hb <;> exact hb rfl

@[simp] theorem reperiod_learningEnd (u : Lsu) (st : HookState) (mode : ScanMode) (now : Time) :
    (u.reperiod st mode now).learningEnd = u.learningEnd := by
  unfold Lsu.reperiod
  split <;> rfl

@[simp] theorem reperiod_leakClamp (u : Lsu) (st : HookState) (mode : ScanMode) (now : Time) :
    (u.reperiod st mode now).leakClamp = u.leakClamp := by
  unfold Lsu.reperiod
  split <;> rfl

@[simp] theorem reperiod_leakReported (u : Lsu) (st : HookState) (mode : ScanMode) (now : Time) :
    (u.reperiod st mode now).leakReported = u.leakReported := by
  unfold Lsu.reperiod
  split <;> rfl

/-- A consistent line in service that enters QUARANTINED, or one that is about to return to IDLE (R129). -/
theorem consistent_quarantined (hserv : r.hook.service ≠ .serviceOut) (hb : r.dial.buffer.length ≤ 24)
    (hd : r.ended.dial.collection = .inactive ∧ r.ended.dial.firstDeadline = none ∧ r.ended.dial.endDeadline = none ∧
      r.ended.dial.buffer = r.dial.buffer) : (r.quarantined v now mode).consistent := by
  obtain ⟨hl, hc, hk⟩ : (r.isolated now mode).lsu.learningEnd = none ∧ (r.isolated now mode).lsu.leakClamp = none ∧
      (r.isolated now mode).lsu.leakReported = false := by simp [LineRec.isolated]
  obtain ⟨hhook, hdial, hfault, hl', hc', hk'⟩ := honoured_parts (r.isolated now mode).ended v
  have hend : (r.isolated now mode).ended.dial = r.ended.dial := by
    rw [ended_dial_eq, ended_dial_eq]
    rfl
  obtain ⟨hcol, hfirst, hending, hbuf⟩ := hd
  rw [ended_hook _ rfl] at hhook
  rw [hend] at hdial
  rw [ended_lsu] at hl' hc' hk'
  refine consistent_atRest (service := r.hook.service) (st := .quarantined) hhook rfl (by simpa using hserv) ?_ ?_ ?_ ?_ ?_ ?_ ?_ ?_ ?_
  · exact (congrArg DialRec.collection hdial).trans hcol
  · exact (congrArg DialRec.firstDeadline hdial).trans hfirst
  · exact (congrArg DialRec.endDeadline hdial).trans hending
  · have hbuf' : (r.quarantined v now mode).dial.buffer = r.dial.buffer := (congrArg DialRec.buffer hdial).trans hbuf
    rwa [hbuf']
  · have hnone : (r.quarantined v now mode).lsu.learningEnd = none := hl'.trans hl
    simp [hnone]
  · have hnone : (r.quarantined v now mode).lsu.leakClamp = none := hc'.trans hc
    have hno : (r.quarantined v now mode).lsu.leakReported = false := hk'.trans hk
    simp [hnone, hno]
  · have hnone : (r.quarantined v now mode).lsu.leakClamp = none := hc'.trans hc
    simp [hnone]
  · simp [LineRec.quarantined, LineRec.awaitingRetest]
  · simp [LineRec.quarantined, LineRec.awaitingRetest]

theorem consistent_takenOut (h : r.consistent) : (r.takenOut v).consistent := by
  obtain ⟨out, ho⟩ : ∃ x : LineRec, x = { r with
    hook := { r.hook.clearCall with service := .serviceOut, state := .outOfService, pendingQuarantine := false }
    lsu := r.lsu.outOfService } := ⟨_, rfl⟩
  have hdial : out.ended.dial = r.ended.dial := by rw [ended_dial_eq, ended_dial_eq, ho]
  have hhook : out.ended.hook = out.hook := ended_hook _ (by rw [ho]; rfl)
  obtain ⟨hcol, hfirst, hending, hbuf⟩ := ended_dial h
  have hrest : ∀ x : LineRec, x.hook = out.hook → x.dial = r.ended.dial → x.lsu = out.lsu → x.fault.retestDue = none →
      x.fault.clearCount = 0 → (x.honoured v).consistent := by
    intro x hxh hxd hxl hxr hxc
    obtain ⟨hhook', hdial', hfault', hl', hc', hk'⟩ := honoured_parts x v
    rw [hxh, ho] at hhook'
    rw [hxd] at hdial'
    rw [hxl, ho] at hl' hc' hk'
    refine consistent_atRest (service := .serviceOut) (st := .outOfService) hhook' rfl (by simp) ?_ ?_ ?_ ?_ ?_ ?_ ?_ ?_ ?_
    · rw [hdial', hcol]
    · rw [hdial', hfirst]
    · rw [hdial', hending]
    · rw [hdial', hbuf]; exact h.buffer
    · rw [hl']; simp [Lsu.outOfService]
    · rw [hc', hk']; simp [Lsu.outOfService]
    · rw [hc']; simp [Lsu.outOfService]
    · rw [hfault', hxr]; simp
    · rw [hfault', hxc]; simp
  unfold LineRec.takenOut
  dsimp only
  rw [← ho]
  split
  · exact hrest _ hhook hdial (ended_lsu _) rfl rfl
  · next hq =>
    have hfault : out.ended.fault = r.fault := by rw [ended_fault, ho]
    refine hrest _ hhook hdial (ended_lsu _) ?_ ?_
    · rw [hfault]
      by_contra hdue
      exact hq (h.retest.mp (by simpa [Option.isSome_iff_ne_none] using hdue))
    · rw [hfault]
      by_contra hclear
      exact hq (h.clears (by omega))

/-- A line that enters LEARNING from a state outside a call, with no retest due. -/
theorem consistent_learning (hserv : r.hook.service ≠ .serviceOut) (hc : r.dial.collection = .inactive)
    (hf : r.dial.firstDeadline = none) (he : r.dial.endDeadline = none) (hb : r.dial.buffer.length ≤ 24)
    (hr : r.fault.retestDue = none) (hn : r.fault.clearCount = 0) : (r.learning now mode).consistent := by
  refine consistent_atRest (service := r.hook.service) (st := .learning) rfl rfl (by simpa using hserv) hc hf he hb ?_ ?_ ?_ ?_ ?_
  · simp [LineRec.learning]
  · simp [LineRec.learning]
  · simp [LineRec.learning]
  · simp [LineRec.learning, hr]
  · simp [LineRec.learning, hn]

theorem consistent_service (h : r.consistent) (hs : r.hook.state ≠ .outOfService) : r.hook.service ≠ .serviceOut :=
  fun he => hs (h.service.mp he)

/-- A line that is not QUARANTINED has no retest due and counts no CLEAR verdicts. -/
theorem consistent_noRetest (h : r.consistent) (hs : r.hook.state ≠ .quarantined) :
    r.fault.retestDue = none ∧ r.fault.clearCount = 0 := by
  refine ⟨?_, ?_⟩
  · by_contra hdue
    exact hs (h.retest.mp (by simpa [Option.isSome_iff_ne_none] using hdue))
  · by_contra hclear
    exact hs (h.clears (by omega))

/-- A line that is neither LEARNING nor IDLE has no learning end and no leak clamp. -/
theorem consistent_noClamp (h : r.consistent) (hs : r.hook.state ≠ .idle) : r.lsu.leakClamp = none ∧ r.lsu.leakReported = false := by
  refine ⟨?_, ?_⟩
  · by_contra hc
    exact hs (h.clamp (.inl (by simpa [Option.isSome_iff_ne_none] using hc)))
  · by_contra hc
    exact hs (h.clamp (.inr (by simpa using hc)))

theorem consistent_noLearning (h : r.consistent) (hs : r.hook.state ≠ .learning) : r.lsu.learningEnd = none := by
  by_contra hl
  exact hs (h.learning.mp (by simpa [Option.isSome_iff_ne_none] using hl))

/-- A line whose hook record moves within a call, in a part that no other rule reads. -/
theorem consistent_inCall {h' : HookRec} (h : r.consistent) (hs : r.hook.state.inCall) (hs' : h'.state.inCall)
    (hserv : h'.service = r.hook.service) (hr : h'.runStart = none) (hbreak : h'.breakStart.isSome = true ↔ h'.state = .onBreak)
    (hpulses : 0 < h'.pulseCount → h'.pulseCount ≤ 11 ∧ h'.makeStart.isSome = true ∧
      r.dial.collection ≠ .inactive ∧ r.dial.mode ≠ .tone ∧ r.prof.working.dialModes ≠ .tone) :
    ({ r with hook := h' } : LineRec).consistent := by
  have hne : ∀ {st : HookState}, st.inCall → st ≠ .outOfService ∧ st ≠ .learning ∧ st ≠ .idle ∧ st ≠ .quarantined ∧ st ≠ .seizing := by
    rintro st (rfl | rfl) <;> simp
  obtain ⟨ho, hl, hi, hq, -⟩ := hne hs
  obtain ⟨ho', hl', hi', hq', hz'⟩ := hne hs'
  obtain ⟨hclamp, hreported⟩ := consistent_noClamp h hi
  obtain ⟨hdue, hclear⟩ := consistent_noRetest h hq
  exact { h with
    service := by simpa [hserv, h.service, ho] using ho'
    runStart := by simpa [hr] using hz'
    breakStart := hbreak
    makeStart := fun _ => hs'
    pulses := hpulses
    pending := fun _ => by obtain hx | hx := hs' <;> simp [hx, HookState.busy]
    collects := fun _ => hs'
    learning := by simpa [consistent_noLearning h hl] using hl'
    clamp := by simp [hclamp, hreported]
    retest := by simpa [hdue] using hq'
    clears := by simp [hclear] }

end

section

variable {r : LineRec} {now : Time} {mode : ScanMode}

/-- Restarted timings are those in progress (R42). -/
theorem consistent_restart (h : r.consistent) (now : Time) : ({ r with hook := r.hook.restart now } : LineRec).consistent := by
  unfold HookRec.restart
  split
  · next hs => exact { h with runStart := by simp [hs] }
  · exact { h with
      makeStart := fun hm => h.makeStart (by simpa using hm)
      pulses := by simpa using h.pulses }
  · next hs => exact { h with
      breakStart := by simp [hs]
      makeStart := fun hm => h.makeStart (by simpa using hm)
      pulses := by simpa using h.pulses }
  all_goals exact h

/-- The hook record of a line that returns to IDLE has nothing in progress. -/
theorem returns_hook (h : r.consistent) {h' : HookRec} (hr : r.hook.Returns h') :
    h' = ⟨r.hook.service, .idle, none, none, none, 0, r.hook.pendingQuarantine, r.hook.pendingProfile⟩ ∧
    r.hook.service ≠ .serviceOut ∧ r.hook.state.busy = true := by
  cases hr with
  | fallBack hs =>
    have hbreak : r.hook.breakStart = none := by simpa [hs] using mt h.breakStart.mp
    have hmake : r.hook.makeStart = none := by simpa [hs] using mt h.makeStart
    have hpulse := (consistent_noCall h (by simp [hs])).2.2.2
    exact ⟨by rw [hbreak, hmake, hpulse], consistent_service h (by simp [hs]), by simp [hs, HookState.busy]⟩
  | release hs =>
    have hrun : r.hook.runStart = none := by simpa [hs] using mt h.runStart.mp
    exact ⟨by rw [hrun], consistent_service h (by simp [hs]), by simp [hs, HookState.busy]⟩

/-- A line that returns to IDLE, and sees to what is pending (R31). -/
theorem consistent_returns {v : Profile} (h : r.consistent) {h' : HookRec} (hr : r.hook.Returns h')
    (hd : r.hook.state = .onBreak → r.dial.collection = .inactive) :
    (if r.hook.pendingQuarantine then (({ r with hook := h' } : LineRec).returned now mode).quarantined v now mode
      else (({ r with hook := h' } : LineRec).returned now mode).honoured v).consistent := by
  have hcol : r.dial.collection = .inactive := by
    cases hr with
    | fallBack hs => exact (consistent_noCall h (by simp [hs])).1
    | release hs => exact hd hs
  obtain ⟨rfl, hserv, hbusy⟩ := returns_hook h hr
  have hfirst : r.dial.firstDeadline = none := by simpa [hcol] using mt h.first.mp
  have hending : r.dial.endDeadline = none := by simpa [hcol] using mt h.ending.mp
  have hidle : r.hook.state ≠ .idle ∧ r.hook.state ≠ .learning ∧ r.hook.state ≠ .quarantined := by
    refine ⟨?_, ?_, ?_⟩ <;> intro he <;> rw [he] at hbusy <;> cases hbusy
  split
  · refine consistent_quarantined hserv h.buffer ?_
    rw [ended_dial_eq, if_neg (by simp [LineRec.returned, hcol, Collection.active])]
    exact ⟨hcol, hfirst, hending, rfl⟩
  · next hq =>
    have hq : r.hook.pendingQuarantine = false := by simpa using hq
    obtain ⟨hclamp, hreported⟩ := consistent_noClamp h hidle.1
    obtain ⟨hdue, hclear⟩ := consistent_noRetest h hidle.2.2
    obtain ⟨hhook, hdial, hfault, hl, hc, hk⟩ := honoured_parts (({ r with
      hook := ⟨r.hook.service, .idle, none, none, none, 0, r.hook.pendingQuarantine, r.hook.pendingProfile⟩ } : LineRec).returned now mode) v
    refine consistent_atRest (service := r.hook.service) (st := .idle) (hhook.trans ?_) rfl (by simpa using hserv) ?_ ?_ ?_ ?_ ?_ ?_ ?_ ?_ ?_
    · simp [LineRec.returned, hq]
    · rw [hdial]; exact hcol
    · rw [hdial]; exact hfirst
    · rw [hdial]; exact hending
    · rw [hdial]; exact h.buffer
    · rw [hl]; simpa [LineRec.returned, Lsu.rethreshold] using consistent_noLearning h hidle.2.1
    · simp
    · rw [hc]; simp [LineRec.returned, Lsu.rethreshold, hclamp]
    · rw [hfault]; simpa [LineRec.returned] using hdue
    · rw [hfault]; simp [LineRec.returned, hclear]

end

theorem consistent_closed : LineClosed fun _ _ r => r.consistent := by
  intro T mode r r' hm h
  cases hm with
  | apart r' hc =>
    obtain ⟨-, -, -, -, -, hl, hcl, hk⟩ := core_lsu hc
    obtain ⟨hcol, hmode, hbuf, hf, he⟩ := core_dial hc
    obtain ⟨hn, hr⟩ := core_fault hc
    have hhook := core_hook hc
    have hprof := core_prof hc
    constructor <;> simp only [hhook, hprof, hl, hcl, hk, hcol, hmode, hbuf, hf, he, hn, hr]
    exacts [h.service, h.runStart, h.breakStart, h.makeStart, h.pulses, h.pending, h.collects, h.first, h.ending, h.mode, h.buffer,
      h.learning, h.clamp, h.clampOnce, h.retest, h.clears]
  | sampled now x => exact { h with }
  | learns i hs => exact { h with }
  | rests i c b hs hc => exact { h with
      clamp := fun _ => hs
      clampOnce := by
        obtain hc | ⟨rfl, rfl⟩ := hc
        · exact hc
        · exact h.clampOnce }
  | endsLearning now hs =>
    obtain ⟨hclamp, hreported⟩ := consistent_noClamp h (by simp [hs])
    obtain ⟨hdue, hclear⟩ := consistent_noRetest h (by simp [hs])
    obtain ⟨hcol, hf, he, -⟩ := consistent_noCall h (by simp [hs])
    have hpend : r.hook.pendingQuarantine = false ∧ r.hook.pendingProfile = false := by
      have := mt h.pending (by simp [hs, HookState.busy])
      simpa using this
    refine consistent_atRest (service := r.hook.service) (st := .idle) ?_ rfl ?_ hcol hf he h.buffer ?_ ?_ ?_ ?_ ?_
    · simp [HookRec.clearCall, hpend]
    · simpa using consistent_service h (by simp [hs])
    · simp
    · simp
    · simp [hclamp]
    · simp [hdue]
    · simp [hclear]
  | seizes now hs =>
    obtain ⟨hdue, hclear⟩ := consistent_noRetest h (by simp [hs])
    obtain ⟨hcol, hf, he, hp⟩ := consistent_noCall h (by simp [hs])
    have hbreak : r.hook.breakStart = none := by simpa [hs] using mt h.breakStart.mp
    have hmake : r.hook.makeStart = none := by simpa [hs] using mt h.makeStart
    have hlearn := consistent_noLearning h (by simp [hs])
    exact { h with
      service := by simpa using consistent_service h (by simp [hs])
      runStart := by simp
      breakStart := by simp [hbreak]
      makeStart := by simp [hmake]
      pulses := by simp [hp]
      pending := fun _ => rfl
      collects := fun hx => absurd hcol hx
      learning := by simp [hlearn]
      clamp := by simp
      clampOnce := by simp
      retest := by simp [hdue]
      clears := by simp [hclear] }
  | goesOffHook hs =>
    obtain ⟨hclamp, hreported⟩ := consistent_noClamp h (by simp [hs])
    obtain ⟨hdue, hclear⟩ := consistent_noRetest h (by simp [hs])
    have hbreak : r.hook.breakStart = none := by simpa [hs] using mt h.breakStart.mp
    have hlearn := consistent_noLearning h (by simp [hs])
    exact { h with
      service := by simpa using consistent_service h (by simp [hs])
      runStart := by simp
      breakStart := by simp [hbreak]
      makeStart := by simp
      pulses := by simp
      pending := fun _ => rfl
      collects := fun _ => .inl rfl
      learning := by simp [hlearn]
      clamp := by simp [hclamp, hreported]
      retest := by simp [hdue]
      clears := by simp [hclear] }
  | arms t hs =>
    exact { h with
      makeStart := fun _ => hs
      pulses := fun hp => by
        split at hp
        · cases hp
        · next hact => exact absurd ((active_iff _).mpr (h.pulses hp).2.2.1) hact
      collects := fun _ => hs
      first := by simp
      ending := by simp
      mode := by simp
      buffer := by simp }
  | discards => exact { h with pulses := by simp }
  | ends =>
    obtain ⟨hcol, hf, he, hb⟩ := ended_dial h
    unfold LineRec.ended at *
    split
    · exact { h with
        pulses := by simp
        collects := by simp
        first := by simp
        ending := by simp
        mode := by simp }
    · exact h
  | dials k m t ha hm hr =>
    have hact := (active_iff _).mp ha
    exact { h with
      pulses := fun hp => by
        have hp' : ¬ (r.dial.mode = .undetermined ∧ m = .tone) ∧ 0 < r.hook.pulseCount := by
          simp only [LineRec.dialled, LineRec.fixed] at hp
          split at hp
          · cases hp
          · next hno => exact ⟨hno, hp⟩
        obtain ⟨hle, hmake, -, hmode, hdial⟩ := h.pulses hp'.2
        have hpulse : m = .pulse := by
          cases m with
          | pulse => rfl
          | tone =>
            cases hd : r.dial.mode with
            | undetermined => exact absurd ⟨hd, rfl⟩ hp'.1
            | pulse => rw [hd] at hm; cases hm
            | tone => exact absurd hd hmode
        subst hpulse
        simp only [LineRec.dialled, LineRec.fixed, if_neg hp'.1]
        exact ⟨hle, hmake, by simp, by simp, hdial⟩
      collects := fun _ => h.collects hact
      first := by simp [LineRec.dialled]
      ending := by simp [LineRec.dialled]
      mode := by cases m <;> simp [LineRec.dialled, LineRec.fixed]
      buffer := by
        simp only [LineRec.dialled, List.length_append, List.length_cons, List.length_nil]
        exact hr }
  | flashesFirst t hc hr => exact { h with
      first := by simp [hc]
      buffer := by simpa [Config.bufferCap] using hr }
  | flashesLater t hc hr => exact { h with
      ending := by simp [hc]
      buffer := by simpa [Config.bufferCap] using hr }
  | empties => exact { h with buffer := by simp }
  | breaks now hs =>
    exact consistent_inCall h (.inl hs) (.inr rfl) rfl (by simpa [hs] using mt h.runStart.mp) (by simp) h.pulses
  | makes hs =>
    exact consistent_inCall h (.inr hs) (.inl rfl) rfl (by simpa [hs] using mt h.runStart.mp) (by simp) h.pulses
  | marksMake now hs =>
    refine consistent_inCall h (.inl hs) (.inl hs) rfl (by simpa [hs] using mt h.runStart.mp) (by simpa [hs] using h.breakStart) ?_
    intro hp
    obtain ⟨hle, -, hrest⟩ := h.pulses hp
    exact ⟨hle, rfl, hrest⟩
  | counts now hs =>
    refine consistent_inCall h (.inl hs) (.inl hs) rfl (by simpa [hs] using mt h.runStart.mp) (by simpa [hs] using h.breakStart) ?_
    intro hp
    by_cases hcount : r.countsPulses = true
    · simp only [if_pos hcount] at hp ⊢
      simp only [LineRec.countsPulses, Bool.and_eq_true, active_iff, bne_iff_ne] at hcount
      obtain ⟨⟨hact, hdial⟩, hmode⟩ := hcount
      exact ⟨Nat.min_le_left _ _, rfl, hact, hmode, hdial⟩
    · simp only [if_neg hcount] at hp ⊢
      obtain ⟨hle, -, hrest⟩ := h.pulses hp
      exact ⟨hle, rfl, hrest⟩
  | returns now h' hr hd => exact consistent_returns h hr hd
  | quarantines now hs => exact consistent_quarantined (consistent_service h hs) h.buffer (ended_dial h)
  | leavesQuarantine now hs =>
    obtain ⟨hcol, hf, he, -⟩ := consistent_noCall h (by simp [hs])
    have hserv := consistent_service h (by simp [hs])
    exact consistent_learning (r := r.unretested) hserv hcol hf he h.buffer rfl rfl
  | counts_clear n hs => exact { h with clears := fun _ => hs }
  | retests t hs => exact { h with retest := by simp [hs] }
  | awaitsQuarantine hs => exact { h with pending := fun _ => hs }
  | restarts now => exact consistent_restart h now
  | takesOut hs => exact consistent_takenOut h
  | putsIn now hs =>
    obtain ⟨hcol, hf, he, -⟩ := consistent_noCall h (by simp [hs])
    obtain ⟨hdue, hclear⟩ := consistent_noRetest h (by simp [hs])
    exact consistent_learning (r := { r with hook := { r.hook with service := .serviceIn } }) (by simp) hcol hf he h.buffer hdue hclear

theorem consistent_law : LineLaw fun _ _ r => r.consistent where
  moves := consistent_closed
  writes T mode r n v _ h := by
    split
    · exact consistent_takenUp h
    · exact h
  assigns T mode r n _ h := consistent_takenUp (r := { r with prof := { r.prof with number := n } }) { h with
    pulses := fun hp => h.pulses hp }
  modes T mode mode' r now h := { h with
    learning := by simpa using h.learning
    clamp := by simpa using h.clamp
    clampOnce := by simpa using h.clampOnce }
  cold l := by
    refine consistent_atRest (service := .serviceIn) (st := .learning) rfl rfl ?_ rfl rfl rfl ?_ ?_ ?_ ?_ ?_ ?_ <;>
      simp [LineRec.powerUp]
  command T mode mode' r h := by
    cases hs : r.hook.service with
    | serviceIn =>
      refine consistent_atRest (service := .serviceIn) (st := .learning) ?_ rfl ?_ rfl rfl rfl ?_ ?_ ?_ ?_ ?_ ?_ <;>
        simp [LineRec.afterCommand, hs]
    | serviceOut =>
      refine consistent_atRest (service := .serviceOut) (st := .outOfService) ?_ rfl ?_ rfl rfl rfl ?_ ?_ ?_ ?_ ?_ ?_ <;>
        simp [LineRec.afterCommand, hs]

/-- Settles O31: each single change of a record keeps what its hook state and its collection state have present. -/
theorem callLawsAreKept : Obligations.CallLawsAreKept := fun _ _ hs ht => consistent_law.kept.step hs ht

end Sys2Proof.Machine


/-! SUPPORT. The Line Test Engine's choice of work: the places of the queue, the fuel that is never used up, and the choice as an
equation and as a relation, with O36 and O42. -/

namespace Sys2Proof.Machine

/-! ## The test bus and the sweep timer -/

theorem modHeldReceiver_some {s : State} {l : Line} {r : Rx} (h : (s.line l).pool.receiver = some r) (f : Receiver → Receiver) :
    s.modHeldReceiver l f = s.setReceiver r ((s.receiver r).map f) := by
  simp only [State.modHeldReceiver, h]

theorem modHeldReceiver_none {s : State} {l : Line} (h : (s.line l).pool.receiver = none) (f : Receiver → Receiver) : s.modHeldReceiver l f = s := by
  simp only [State.modHeldReceiver, h]

section

variable (s : State) (l : Line)

theorem modEngine_setLine (f : Engine → Engine) (r : LineRec) : (s.modEngine f).setLine l r = (s.setLine l r).modEngine f := rfl

theorem connect_eq : s.connect l = s.onBus l := by
  have hline : (s.modTest l fun t => { t with onTestBus := true, relayClosed := true }).modLsu l (fun u => { u with settleEnd := none }) =
      s.setLine l { s.line l with
        test := { (s.line l).test with onTestBus := true, relayClosed := true }
        lsu := { (s.line l).lsu with settleEnd := none } } := by
    simp only [State.modTest, State.modLsu, setLine_setLine, line_setLine_self]
  unfold State.connect State.onBus State.holdReceiver
  rw [hline]
  dsimp only
  generalize hu : s.setLine l _ = u
  have hpool : (u.line l).pool.receiver = (s.line l).pool.receiver := by rw [← hu, line_setLine_self]
  have hreceiver : ∀ r, u.receiver r = s.receiver r := fun r => by rw [← hu]; rfl
  cases h : (s.line l).pool.receiver with
  | none => exact modHeldReceiver_none (hpool.trans h) _
  | some r =>
    rw [modHeldReceiver_some (hpool.trans h), hreceiver]

theorem disconnect_eq : s.disconnect l = s.offBus s.partTime l := by
  simp only [State.disconnect, State.modTest, State.modLsu, setLine_setLine, line_setLine_self, State.offBus]
  rfl

theorem pauseTimer_eq (e : Engine) (now : Time) : e.pauseTimer now = { e with sweepTimer := e.sweepTimer.paused now } := by
  unfold Engine.pauseTimer SweepTimer.paused
  cases h : e.sweepTimer <;> simp [← h]

theorem startTimer_eq (e : Engine) (now : Time) : e.startTimer now = { e with sweepTimer := e.timerFrom now } := by
  unfold Engine.startTimer Engine.timerFrom
  split <;> rfl

theorem enterSuspended_eq : s.enterSuspended = { s with engine := { s.engine with
    state := .suspended, suspendPending := false, sweepTimer := s.engine.sweepTimer.paused s.partTime } } := by
  unfold State.enterSuspended State.modEngine
  dsimp only
  rw [pauseTimer_eq]

theorem onBus_modEngine (f : Engine → Engine) : (s.modEngine f).onBus l = (s.onBus l).modEngine f := by
  unfold State.onBus
  dsimp only
  have hline : (s.modEngine f).line l = s.line l := rfl
  rw [hline]
  cases (s.line l).pool.receiver <;> rfl

theorem beginTest_eq (c : TestCtx) (st : EngineState) : s.beginTest c st = { s.onBus c.line with engine := { s.engine with
    state := st, running := some (c.settling s.partTime) } } := by
  have hengine : (s.onBus c.line).engine = s.engine := by rw [← connect_eq, connect_engine]
  unfold State.beginTest
  rw [connect_eq, onBus_modEngine, State.modEngine, hengine]
  rfl

@[simp] theorem beginTest_engine (c : TestCtx) (st : EngineState) : (s.beginTest c st).engine =
    { s.engine with state := st, running := some (c.settling s.partTime) } := by
  rw [beginTest_eq]

@[simp] theorem enterSuspended_engine : s.enterSuspended.engine = { s.engine with
    state := .suspended, suspendPending := false, sweepTimer := s.engine.sweepTimer.paused s.partTime } := by
  rw [enterSuspended_eq]

/-! ## The places of the queue -/

/-- The lines whose owed-test flag is yes (R104). -/
def State.owedLines : Finset Line := {m | (s.line m).fault.owed = true}

/-- The turns that the choice of work can still take: a waiting entry, an owed line and a held sweep each go away in one. -/
def State.work : Nat := s.engine.queue.length + s.owedLines.card + s.engine.heldSweep.isSome.toNat

theorem mem_owedLines (m : Line) : m ∈ s.owedLines ↔ (s.line m).fault.owed = true := by simp [State.owedLines]

theorem owedLines_congr {s t : State} (h : ∀ m, (t.line m).fault.owed = (s.line m).fault.owed) : t.owedLines = s.owedLines := by
  ext m
  rw [mem_owedLines, mem_owedLines, h]

theorem owedLines_modFault_true : (s.modFault l fun f => { f with owed := true }).owedLines.card ≤ s.owedLines.card + 1 := by
  refine (Finset.card_le_card (t := insert l s.owedLines) fun m hm => ?_).trans (Finset.card_insert_le _ _)
  rw [mem_owedLines] at hm
  by_cases h : m = l
  · exact Finset.mem_insert.mpr (.inl h)
  · rw [line_modFault_ne _ _ _ h] at hm
    exact Finset.mem_insert_of_mem ((mem_owedLines s m).mpr hm)

theorem owedLines_modFault_false (h : (s.line l).fault.owed = true) :
    (s.modFault l fun f => { f with owed := false }).owedLines.card + 1 = s.owedLines.card := by
  have herase : (s.modFault l fun f => { f with owed := false }).owedLines = s.owedLines.erase l := by
    ext m
    rw [mem_owedLines, Finset.mem_erase, mem_owedLines]
    by_cases hm : m = l
    · subst hm; simp
    · simp [hm]
  rw [herase]
  exact Finset.card_erase_add_one ((mem_owedLines s l).mpr h)

theorem insertAfterLast_length {α : Type} (p : α → Bool) (e : α) (q : List α) : (insertAfterLast p e q).length = q.length + 1 := by
  induction q with
  | nil => rfl
  | cons x rest ih =>
    unfold insertAfterLast
    split
    · rw [List.length_cons, ih, List.length_cons]
    · rfl

/-- Where an AUTO request goes: nowhere, into the queue, or to the line's owed flag (R103). -/
theorem placeAuto_cases : s.placeAuto l = s ∨
    (∃ q, s.placeAuto l = { s with engine := { s.engine with queue := q } } ∧ q.length ≤ s.engine.queue.length + 1) ∨
    s.placeAuto l = s.modFault l fun f => { f with owed := true } := by
  unfold State.placeAuto
  split
  · exact .inl rfl
  · split
    · split
      · exact .inr (.inl ⟨_, rfl, by simp⟩)
      · refine .inr (.inl ⟨_, rfl, ?_⟩)
        rw [placeAutoEntry, insertAfterLast_length]
        exact Nat.add_le_add_right (List.length_filter_le _ _) 1
    · split
      · exact .inr (.inr rfl)
      · exact .inr (.inl ⟨_, rfl, by rw [placeAutoEntry, insertAfterLast_length]⟩)

theorem placeAuto_work : (s.placeAuto l).work ≤ s.work + 1 := by
  obtain h | ⟨q, h, hq⟩ | h := placeAuto_cases s l <;> rw [h]
  · exact Nat.le_add_right _ _
  · have howed : ({ s with engine := { s.engine with queue := q } } : State).owedLines = s.owedLines := rfl
    simp only [State.work, howed]
    omega
  · have := owedLines_modFault_true s l
    simp only [State.work, modFault_engine]
    omega

theorem fileOwed_work : s.fileOwed.work ≤ s.work := by
  unfold State.fileOwed State.lowestOwed
  split
  · next m hm =>
    have howed : (s.line m).fault.owed = true := by simpa using List.find?_some hm
    have hplace := placeAuto_work (s.modFault m fun f => { f with owed := false }) m
    have hcount := owedLines_modFault_false s m howed
    simp only [State.work, modFault_engine] at hplace ⊢
    omega
  · exact Nat.le_refl _

theorem serveOwed_work : s.serveOwed.work ≤ s.work := by
  unfold State.serveOwed
  split
  · exact Nat.le_refl _
  · exact fileOwed_work s

theorem work_congr {s t : State} (he : t.engine = s.engine) (hl : ∀ m, (t.line m).fault.owed = (s.line m).fault.owed) :
    t.work = s.work := by
  unfold State.work
  rw [he, owedLines_congr hl]

theorem dropTest_work (b : Bool) : (s.dropTest l b).work = s.work := by
  unfold State.dropTest
  split
  · refine work_congr (raise_engine _ _ _) fun m => ?_
    rw [raise_line_fault]
  · rfl

/-- The state with the held sweep given up, and the sweep timer started anew (R114). -/
def State.sweepGivenUp : State := s.modEngine fun e => { e with heldSweep := none }.startTimer s.partTime

theorem sweepGivenUp_engine : s.sweepGivenUp.engine =
    { s.engine with heldSweep := none, sweepTimer := s.engine.timerFrom s.partTime } := by
  unfold State.sweepGivenUp
  rw [modEngine_engine, startTimer_eq]
  rfl

theorem sweepGivenUp_work {c : SweepCtx} (h : s.engine.heldSweep = some c) : s.sweepGivenUp.work < s.work := by
  have howed : s.sweepGivenUp.owedLines = s.owedLines := rfl
  unfold State.work
  rw [howed, sweepGivenUp_engine, h]
  simp

theorem work_lt_chooseFuel : s.work < s.chooseFuel := by
  have hcard : s.owedLines.card ≤ 32 := (Finset.card_le_univ _).trans (by simp)
  have hheld := Bool.toNat_le s.engine.heldSweep.isSome
  unfold State.work State.chooseFuel
  omega

/-! ## The choice of work -/

/-- The state with the head of the queue taken out, and an owed line served in its place (R104, R107). -/
def State.popped (rest : List TestReq) : State := (s.modEngine fun e => { e with queue := rest }).serveOwed

theorem popped_work {q : TestReq} {rest : List TestReq} (h : s.engine.queue = q :: rest) : (s.popped rest).work < s.work := by
  have hserve := serveOwed_work (s.modEngine fun e => { e with queue := rest })
  have howed : (s.modEngine fun e => { e with queue := rest }).owedLines = s.owedLines := rfl
  unfold State.popped
  simp only [State.work, howed, modEngine_engine] at hserve ⊢
  rw [h, List.length_cons]
  omega

/-- The fuel above the turns that can be taken does not matter. -/
theorem chooseLoop_fuel {s : State} {n m : Nat} (hn : s.work < n) (hm : s.work < m) : State.chooseLoop n s = State.chooseLoop m s := by
  induction n generalizing s m with
  | zero => omega
  | succ n ih =>
    obtain ⟨m, rfl⟩ : ∃ k, m = k + 1 := ⟨m - 1, by omega⟩
    simp only [State.chooseLoop]
    split
    · rfl
    split
    · next q rest hq =>
      split
      · rfl
      · have hpop := popped_work s hq
        have hdrop := dropTest_work (s.popped rest) q.line q.hostReport
        exact ih (by unfold State.popped at hpop hdrop; omega) (by unfold State.popped at hpop hdrop; omega)
    · next hq =>
      split
      · next c hc =>
        split
        · rfl
        · have hwork := sweepGivenUp_work s hc
          exact ih (s := s.sweepGivenUp) (by omega) (by omega)
      · rfl

theorem chooseWork_of_lt {n : Nat} (h : s.work < n) : State.chooseLoop n s = s.chooseWork :=
  chooseLoop_fuel h (work_lt_chooseFuel s)

theorem chooseWork_suspends (h : s.engine.suspendPending = true) : s.chooseWork = s.enterSuspended := by
  rw [← chooseWork_of_lt s (Nat.lt_succ_self _)]
  generalize s.work = n
  simp only [State.chooseLoop, h, if_true]

/-- With the queue not empty the engine takes its head out, and tests or drops it (R107). -/
theorem chooseWork_head (h : s.engine.suspendPending = false) {q : TestReq} {rest : List TestReq} (hq : s.engine.queue = q :: rest) :
    s.chooseWork = if (s.popped rest).eligible q.line q.force then (s.popped rest).runEntry q
      else ((s.popped rest).dropTest q.line q.hostReport).chooseWork := by
  have hdrop : ((s.popped rest).dropTest q.line q.hostReport).work < s.work := by
    rw [dropTest_work]
    exact popped_work s hq
  rw [← chooseWork_of_lt s (Nat.lt_succ_self _), ← chooseWork_of_lt _ hdrop]
  generalize s.work = n
  simp only [State.chooseLoop, h, hq]
  rfl

/-- With the queue empty a held sweep resumes, or is given up (R114). -/
theorem chooseWork_held (h : s.engine.suspendPending = false) (hq : s.engine.queue = []) {c : SweepCtx} (hc : s.engine.heldSweep = some c) :
    s.chooseWork = if (s.line c.line).hook.state = .idle then s.resumeSweep c else s.sweepGivenUp.chooseWork := by
  rw [← chooseWork_of_lt s (Nat.lt_succ_self _), ← chooseWork_of_lt _ (sweepGivenUp_work s hc)]
  generalize s.work = n
  simp only [State.chooseLoop, h, hq, hc]
  rfl

/-- With nothing waiting and nothing held, a due sweep starts, or the engine is IDLE (R106, R112). -/
theorem chooseWork_none (h : s.engine.suspendPending = false) (hq : s.engine.queue = []) (hc : s.engine.heldSweep = none) :
    s.chooseWork = if s.engine.sweepDue then s.startSweep else s.modEngine fun e => { e with state := .idle } := by
  rw [← chooseWork_of_lt s (Nat.lt_succ_self _)]
  generalize s.work = n
  simp only [State.chooseLoop, h, hq, hc]
  rfl

end

/-- The engine's choice of work as a relation: the turns it takes, and the work it ends at. -/
inductive Chooses : State → State → Prop
  | suspends (s : State) (h : s.engine.suspendPending = true) : Chooses s s.enterSuspended
  | runs (s : State) (q rest) (h : s.engine.suspendPending = false) (hq : s.engine.queue = q :: rest)
      (he : (s.popped rest).eligible q.line q.force = true) : Chooses s ((s.popped rest).runEntry q)
  | drops (s t : State) (q rest) (h : s.engine.suspendPending = false) (hq : s.engine.queue = q :: rest)
      (he : (s.popped rest).eligible q.line q.force = false)
      (ht : Chooses ((s.popped rest).dropTest q.line q.hostReport) t) : Chooses s t
  | resumes (s : State) (c) (h : s.engine.suspendPending = false) (hq : s.engine.queue = []) (hc : s.engine.heldSweep = some c)
      (hi : (s.line c.line).hook.state = .idle) : Chooses s (s.resumeSweep c)
  | givesUp (s t : State) (c) (h : s.engine.suspendPending = false) (hq : s.engine.queue = []) (hc : s.engine.heldSweep = some c)
      (hi : (s.line c.line).hook.state ≠ .idle) (ht : Chooses s.sweepGivenUp t) : Chooses s t
  | sweeps (s : State) (h : s.engine.suspendPending = false) (hq : s.engine.queue = []) (hc : s.engine.heldSweep = none)
      (hd : s.engine.sweepDue = true) : Chooses s s.startSweep
  | rests (s : State) (h : s.engine.suspendPending = false) (hq : s.engine.queue = []) (hc : s.engine.heldSweep = none)
      (hd : s.engine.sweepDue = false) : Chooses s (s.modEngine fun e => { e with state := .idle })

theorem chooseWork_chooses (s : State) : Chooses s s.chooseWork := by
  obtain ⟨n, hn⟩ : ∃ n, s.work < n := ⟨_, Nat.lt_succ_self _⟩
  induction n generalizing s with
  | zero => omega
  | succ n ih =>
    cases hp : s.engine.suspendPending with
    | true => rw [chooseWork_suspends s hp]; exact .suspends s hp
    | false =>
      cases hq : s.engine.queue with
      | cons q rest =>
        rw [chooseWork_head s hp hq]
        split
        · next he => exact .runs s q rest hp hq he
        · next he =>
          have hpop := popped_work s hq
          have hdrop := dropTest_work (s.popped rest) q.line q.hostReport
          exact .drops s _ q rest hp hq (by simpa using he) (ih _ (by omega))
      | nil =>
        cases hc : s.engine.heldSweep with
        | some c =>
          rw [chooseWork_held s hp hq hc]
          split
          · next hi => exact .resumes s c hp hq hc hi
          · next hi =>
            have hwork := sweepGivenUp_work s hc
            exact .givesUp s _ c hp hq hc hi (ih _ (by omega))
        | none =>
          rw [chooseWork_none s hp hq hc]
          split
          · next hd => exact .sweeps s hp hq hc hd
          · next hd => exact .rests s hp hq hc (by simpa using hd)

theorem line_hook_of_core {s t : State} (h : t.core = s.core) (m : Line) : (t.line m).hook = (s.line m).hook :=
  core_hook (congrFun (congrArg (fun c => c.2.2) h) m)

section

variable (s : State)

@[simp] theorem popped_core (rest : List TestReq) : (s.popped rest).core = s.core := by
  rw [State.popped, serveOwed_core, modEngine_core]

@[simp] theorem popped_partTime (rest : List TestReq) : (s.popped rest).partTime = s.partTime :=
  partTime_of_kept (by rw [State.popped, serveOwed_kept, modEngine_kept])

theorem popped_eligible (rest : List TestReq) (l : Line) (force : Bool) : (s.popped rest).eligible l force = s.eligible l force := by
  unfold State.eligible
  rw [line_hook_of_core (popped_core s rest)]

theorem eligible_iff (l : Line) (force : Bool) : s.eligible l force = true ↔ (s.line l).hook.state.busy = false ∨ force = true := by
  cases force <;> simp [State.eligible]

theorem beginTest_modEngine (f : Engine → Engine) (c : TestCtx) (st : EngineState) : (s.modEngine f).beginTest c st =
    { s.onBus c.line with engine := { f s.engine with state := st, running := some (c.settling s.partTime) } } := by
  rw [beginTest_eq, onBus_modEngine]
  rfl

theorem runEntry_eq (q : TestReq) : s.runEntry q = { s.onBus q.line with engine := { s.engine with
    state := .running, running := some (q.begun s.partTime) } } := beginTest_eq s _ _

theorem resumeSweep_eq (c : SweepCtx) : s.resumeSweep c = { s.onBus c.line with engine := { s.engine with
    state := .stepping, heldSweep := none
    running := some ⟨c.line, .sweep, c.steps, c.values, c.next, some (.settle, s.partTime + 20#32), false, false, false, false⟩ } } :=
  beginTest_modEngine s _ _ _

theorem startSweep_idle (h : (s.line (s.engine.cursor + 1)).hook.state = .idle) :
    s.startSweep = { s.onBus (s.engine.cursor + 1) with engine := { s.engine with
      state := .stepping, sweepDue := false, cursor := s.engine.cursor + 1
      running := some ⟨s.engine.cursor + 1, .sweep, s.engine.sweepSteps, ⟨none, none, none, none, none⟩, s.engine.sweepSteps.first,
        some (.settle, s.partTime + 20#32), false, false, false, false⟩ } } := by
  unfold State.startSweep
  dsimp only
  rw [modEngine_line, if_pos h]
  exact beginTest_modEngine s _ _ _

theorem startSweep_skips (h : (s.line (s.engine.cursor + 1)).hook.state ≠ .idle) :
    s.startSweep = { s with engine := { s.engine with
      state := .idle, sweepDue := false, cursor := s.engine.cursor + 1, sweepTimer := s.engine.timerFrom s.partTime } } := by
  unfold State.startSweep
  dsimp only
  rw [modEngine_line, if_neg h]
  unfold State.modEngine
  dsimp only
  rw [startTimer_eq]
  rfl

theorem sweepGivenUp_eq : s.sweepGivenUp = { s with engine :=
    { s.engine with heldSweep := none, sweepTimer := s.engine.timerFrom s.partTime } } := by
  unfold State.sweepGivenUp State.modEngine
  dsimp only
  rw [startTimer_eq]
  rfl

end

/-- Settles O42: the equations of the choice of work, with what a begun test, a suspension and a skipped line are. -/
theorem engineTakesFirstWorkThatApplies : Obligations.EngineTakesFirstWorkThatApplies := by
  intro s e now
  refine ⟨fun h => ?_, fun h => ⟨fun q rest hq => ?_, fun hq => ⟨fun c hc => ?_, fun hc hd => ?_, fun hc hd => ?_⟩⟩⟩
  · rw [chooseWork_suspends s h, enterSuspended_eq]
  · rw [chooseWork_head s h hq, popped_eligible]
    refine ⟨fun he => ?_, fun hb hf => ?_⟩
    · rw [if_pos ((eligible_iff s _ _).mpr he), runEntry_eq, popped_partTime]
      rfl
    · rw [if_neg (by simp [State.eligible, hb, hf])]
      rfl
  · rw [chooseWork_held s h hq hc]
    refine ⟨fun hi => ?_, fun hi => ?_⟩
    · rw [if_pos hi, resumeSweep_eq]
    · rw [if_neg hi, sweepGivenUp_eq]
  · rw [chooseWork_none s h hq hc, if_pos hd]
    exact ⟨startSweep_idle s, startSweep_skips s⟩
  · rw [chooseWork_none s h hq hc, if_neg (by simp [e, hd])]
    rfl

end Sys2Proof.Machine


/-! SUPPORT. The order of the measurement steps, and what the completion of a phase is, with O36 (R98, R100). -/

namespace Sys2Proof.Machine

theorem step_forall (P : Step → Prop) : (∀ q, P q) ↔ P .dcv ∧ P .acv ∧ P .irt ∧ P .irr ∧ P .rtr :=
  ⟨fun h => ⟨h _, h _, h _, h _, h _⟩, fun ⟨h1, h2, h3, h4, h5⟩ q => by cases q <;> assumption⟩

/-- The first requested step is the least (R98). -/
theorem first_eq_some (set : StepSet) (p : Step) :
    set.first = some p ↔ set.has p = true ∧ ∀ q, set.has q = true → p.bit ≤ q.bit := by
  rw [step_forall]
  revert set
  cases p <;> decide

/-- The next requested step is the least of those behind (R98). -/
theorem after_eq_some (set : StepSet) (p q : Step) :
    set.after p = some q ↔ set.has q = true ∧ p.bit < q.bit ∧ ∀ r, set.has r = true → p.bit < r.bit → q.bit ≤ r.bit := by
  rw [step_forall]
  revert set
  cases p <;> cases q <;> decide

theorem exec_settle {s : State} {now : Time} (hhigh : s.link.resetnLow = false) :
    exec (.settlePeriodCompletion now) s = .next (s.at now).settleDone := by
  show Host.Outcome.next (s.arrive now State.settleDone) = _
  rw [arrive_high hhigh]

theorem exec_step {s : State} {now : Time} (hhigh : s.link.resetnLow = false) (a b : Int) :
    exec (.stepCompletion now a b) s = .next ((s.at now).stepDone a b) := by
  show Host.Outcome.next (s.arrive now fun u => u.stepDone a b) = _
  rw [arrive_high hhigh]

section

variable (s : State)

theorem settleDone_due {c : TestCtx} (hc : s.engine.running = some c) (hp : c.phase = some (.settle, s.partTime)) :
    s.settleDone = s.phaseDone c false := by
  simp only [State.settleDone, hc, if_pos hp]

theorem settleDone_idle (h : ∀ c, s.engine.running = some c → c.phase ≠ some (.settle, s.partTime)) : s.settleDone = s := by
  unfold State.settleDone
  split
  · next c hc => exact if_neg (h c hc)
  · rfl

theorem stepDone_due {c : TestCtx} {q : Step} (hc : s.engine.running = some c) (hp : c.phase = some (.measure q, s.partTime)) (a b : Int) :
    s.stepDone a b = s.phaseDone { c with values := c.values.record q a b } true := by
  simp only [State.stepDone, hc, hp, if_true]

theorem stepDone_idle (h : ∀ c p, s.engine.running = some c → c.phase ≠ some (.measure p, s.partTime)) (a b : Int) :
    s.stepDone a b = s := by
  unfold State.stepDone
  split
  · next c hc =>
    split
    · next p d hp =>
      refine if_neg fun hd => h c p hc ?_
      rw [hp, hd]
    · rfl
    · rfl
  · rfl

/-- A phase with no abort and no suspension pending, and a step left, is followed at once by it (R100). -/
theorem phaseDone_next {c : TestCtx} {p : Step} {wasStep : Bool} (ha : c.abortRequested = false) (hs : s.engine.suspendPending = false)
    (hn : c.next = some p) (hst : s.engine.state = .running ∨ s.engine.state = .stepping)
    (hq : s.engine.state = .running ∨ wasStep = false ∨ s.engine.queue = []) : s.phaseDone c wasStep = s.beginStep c p := by
  unfold State.phaseDone
  obtain h | h := hst
  · simp only [h, State.runningPhaseDone, ha, hn, hs]
    rfl
  · have hno : (wasStep && !s.engine.queue.isEmpty) = false := by
      obtain hr | hw | hq := hq
      · rw [h] at hr; cases hr
      · simp [hw]
      · simp [hq]
    simp only [h, State.steppingPhaseDone, ha, hn, hs, hno]
    rfl

end

/-- Settles O36: the order of the steps case by case, and a phase that ends with a step left. -/
theorem stepsFollowInTheirOrder : Obligations.StepsFollowInTheirOrder := by
  refine ⟨first_eq_some, after_eq_some, rfl, fun v a b => ⟨rfl, rfl, rfl, rfl, rfl⟩, fun s now a b hhigh => ?_⟩
  intro e begun
  refine ⟨fun h => ?_, fun h => ?_, fun c p hc ha hs hn hst => ⟨fun hp => ?_, fun q hp hq => ?_⟩⟩
  · rw [exec_settle hhigh, settleDone_idle (s.at now) h]
  · rw [exec_step hhigh, stepDone_idle (s.at now) h]
  · rw [exec_settle hhigh, settleDone_due (s.at now) hc hp, phaseDone_next (s.at now) ha hs hn hst (.inr (.inl rfl))]
    rfl
  · rw [exec_step hhigh, stepDone_due (s.at now) hc hp,
      phaseDone_next (s.at now) (c := { c with values := c.values.record q a b }) ha hs hn hst (hq.imp id .inr)]
    rfl

end Sys2Proof.Machine


/-! SUPPORT. The laws of the engine states, of the sweep timer and of a waiting suspension request across every operation of the Line
Test Engine, with O44 (R101, R105, R106, R111, R116, R118). -/

namespace Sys2Proof.Machine

/-! ## The laws on the engine's record -/

/-- The sweep timer counts: the sweep is enabled and not due, with no sweep test in flight or held (R111). -/
def Engine.waits (e : Engine) : Prop := e.sweepEnabled = true ∧ ¬ e.sweeping ∧ e.sweepDue = false

/-- The sweep timer by cases of the engine: it has a remaining time while SUSPENDED, runs otherwise, and is stopped with nothing to
count. -/
theorem sweepTimerLaw_iff (e : Engine) : SweepTimerLaw e ↔
    (e.sweepDue = true → e.sweepEnabled = true ∧ ¬ e.sweeping) ∧
    (e.waits → e.state = .suspended → ∃ ms, e.sweepTimer = .remaining ms) ∧
    (e.waits → e.state ≠ .suspended → ∃ d, e.sweepTimer = .running d) ∧
    (¬ e.waits → e.sweepTimer = .stopped) := by
  constructor
  · intro h
    refine ⟨h.due, fun ⟨he, hn, hd⟩ hs => h.remains.mpr ⟨he, hs, hn, hd⟩, fun ⟨he, hn, hd⟩ hs => h.runs.mpr ⟨he, hs, hn, hd⟩,
      fun hno => ?_⟩
    cases ht : e.sweepTimer with
    | stopped => rfl
    | running d =>
      obtain ⟨he, -, hn, hd⟩ := h.runs.mp ⟨d, ht⟩
      exact absurd ⟨he, hn, hd⟩ hno
    | remaining ms =>
      obtain ⟨he, -, hn, hd⟩ := h.remains.mp ⟨ms, ht⟩
      exact absurd ⟨he, hn, hd⟩ hno
  · rintro ⟨hdue, hrem, hrun, hstop⟩
    refine ⟨⟨fun ⟨d, hd⟩ => ?_, fun ⟨he, hs, hn, hd⟩ => hrun ⟨he, hn, hd⟩ hs⟩,
      ⟨fun ⟨ms, hms⟩ => ?_, fun ⟨he, hs, hn, hd⟩ => hrem ⟨he, hn, hd⟩ hs⟩, hdue⟩
    · by_cases hw : e.waits
      · by_cases hs : e.state = .suspended
        · obtain ⟨ms, hms⟩ := hrem hw hs
          rw [hms] at hd; cases hd
        · exact ⟨hw.1, hs, hw.2.1, hw.2.2⟩
      · rw [hstop hw] at hd; cases hd
    · by_cases hw : e.waits
      · by_cases hs : e.state = .suspended
        · exact ⟨hw.1, hs, hw.2.1, hw.2.2⟩
        · obtain ⟨d, hd⟩ := hrun hw hs
          rw [hd] at hms; cases hms
      · rw [hstop hw] at hms; cases hms

section

variable {e e' : Engine}

theorem sweeping_congr (hr : e'.running.map TestCtx.origin = e.running.map TestCtx.origin)
    (hh : e'.heldSweep.isSome = e.heldSweep.isSome) : e'.sweeping ↔ e.sweeping := by
  have horigin : ∀ x : Engine, (∃ c, x.running = some c ∧ c.origin = .sweep) ↔ x.running.map TestCtx.origin = some .sweep := by
    intro x
    simp
  unfold Engine.sweeping
  rw [horigin, horigin, hr, hh]

/-- The law does not read the rest of the engine. -/
theorem SweepTimerLaw.congr_sweeping (h : SweepTimerLaw e) (hs : e'.state = .suspended ↔ e.state = .suspended)
    (hw : e'.sweeping ↔ e.sweeping) (he : e'.sweepEnabled = e.sweepEnabled) (ht : e'.sweepTimer = e.sweepTimer)
    (hd : e'.sweepDue = e.sweepDue) : SweepTimerLaw e' := by
  constructor
  · rw [ht, he, hd, hw, Ne, hs]; exact h.runs
  · rw [ht, he, hd, hw, hs]; exact h.remains
  · rw [he, hd, hw]; exact h.due

theorem SweepTimerLaw.congr (h : SweepTimerLaw e) (hs : e'.state = .suspended ↔ e.state = .suspended)
    (hr : e'.running.map TestCtx.origin = e.running.map TestCtx.origin) (hh : e'.heldSweep.isSome = e.heldSweep.isSome)
    (he : e'.sweepEnabled = e.sweepEnabled) (ht : e'.sweepTimer = e.sweepTimer) (hd : e'.sweepDue = e.sweepDue) : SweepTimerLaw e' :=
  h.congr_sweeping hs (sweeping_congr hr hh) he ht hd

/-- A timer started on an engine that is not SUSPENDED, with no sweep test in flight or held and none due. -/
theorem SweepTimerLaw.started (hs : e.state ≠ .suspended) (hn : ¬ e.sweeping) (hd : e.sweepDue = false) (now : Time)
    (ht : e.sweepTimer = e.timerFrom now) : SweepTimerLaw e := by
  rw [sweepTimerLaw_iff]
  refine ⟨fun h => (by rw [hd] at h; cases h), fun _ h => absurd h hs, fun hw _ => ?_, fun hw => ?_⟩
  · rw [ht, Engine.timerFrom, if_pos hw.1]
    exact ⟨_, rfl⟩
  · rw [ht, Engine.timerFrom, if_neg (fun he => hw ⟨he, hn, hd⟩)]

/-- A timer that is stopped while a sweep test is in flight or held. -/
theorem SweepTimerLaw.stopped (hw : e.sweeping) (hd : e.sweepDue = false) (ht : e.sweepTimer = .stopped) : SweepTimerLaw e := by
  have hno : ¬ e.waits := fun h => h.2.1 hw
  exact (sweepTimerLaw_iff e).mpr ⟨fun h => (by rw [hd] at h; cases h), fun h => absurd h hno, fun h => absurd h hno, fun _ => ht⟩

theorem SweepTimerLaw.isStopped (h : SweepTimerLaw e) (hw : ¬ e.waits) : e.sweepTimer = .stopped :=
  ((sweepTimerLaw_iff e).mp h).2.2.2 hw

/-- While a sweep test is in flight or held, the sweep is not due and its timer is stopped. -/
theorem SweepTimerLaw.ofSweeping (h : SweepTimerLaw e) (hw : e.sweeping) : e.sweepDue = false ∧ e.sweepTimer = .stopped := by
  refine ⟨?_, h.isStopped fun hx => hx.2.1 hw⟩
  cases hd : e.sweepDue with
  | false => rfl
  | true => exact absurd hw (h.due hd).2

/-- A suspension stops the timer. -/
theorem SweepTimerLaw.paused_sweeping (h : SweepTimerLaw e) (hs : e.state ≠ .suspended) (now : Time) (hs' : e'.state = .suspended)
    (hsw : e'.sweeping ↔ e.sweeping) (he : e'.sweepEnabled = e.sweepEnabled) (ht : e'.sweepTimer = e.sweepTimer.paused now)
    (hd : e'.sweepDue = e.sweepDue) : SweepTimerLaw e' := by
  have hw : e'.waits ↔ e.waits := by rw [Engine.waits, Engine.waits, he, hsw, hd]
  obtain ⟨hdue, -, hrun, hstop⟩ := (sweepTimerLaw_iff e).mp h
  refine (sweepTimerLaw_iff e').mpr ⟨by rw [hd, he, hsw]; exact hdue, fun hx _ => ?_, fun _ hx => absurd hs' hx, fun hx => ?_⟩
  · obtain ⟨d, hd⟩ := hrun (hw.mp hx) hs
    rw [ht, hd]
    exact ⟨_, rfl⟩
  · rw [ht, hstop (mt hw.mpr hx)]
    rfl

theorem SweepTimerLaw.paused (h : SweepTimerLaw e) (hs : e.state ≠ .suspended) (now : Time) (hs' : e'.state = .suspended)
    (hr : e'.running.map TestCtx.origin = e.running.map TestCtx.origin) (hh : e'.heldSweep.isSome = e.heldSweep.isSome)
    (he : e'.sweepEnabled = e.sweepEnabled) (ht : e'.sweepTimer = e.sweepTimer.paused now) (hd : e'.sweepDue = e.sweepDue) :
    SweepTimerLaw e' :=
  h.paused_sweeping hs now hs' (sweeping_congr hr hh) he ht hd

theorem sweeping_of_running {c : TestCtx} (hc : e.running = some c) (ho : c.origin ≠ .sweep) : e.sweeping ↔ e.heldSweep.isSome = true := by
  refine ⟨fun h => ?_, .inl⟩
  obtain h | ⟨c', hc', ho'⟩ := h
  · exact h
  · rw [hc] at hc'
    cases hc'
    exact absurd ho' ho

theorem sweeping_of_none (hc : e.running = none) : e.sweeping ↔ e.heldSweep.isSome = true := by
  refine ⟨fun h => ?_, .inl⟩
  obtain h | ⟨c', hc', -⟩ := h
  · exact h
  · rw [hc] at hc'; cases hc'

theorem not_sweeping (hc : e.running = none) (hh : e.heldSweep = none) : ¬ e.sweeping := by
  rw [sweeping_of_none hc, hh]
  simp

/-- With nothing in flight, no suspension request waits. -/
theorem crossWaits_of_none (hc : e.running = none) : CrossWaits e := fun c h => by rw [hc] at h; cases h

/-- With a test in flight whose context is not crossed, no suspension request waits. -/
theorem crossWaits_of_uncrossed {c : TestCtx} (hc : e.running = some c) (hx : c.crossed = false) : CrossWaits e := fun c' h hc' => by
  rw [hc] at h
  cases h
  rw [hx] at hc'; cases hc'

/-- A RUNNING engine has a phase in flight, which is not a sweep test's. -/
theorem consistent_running (hst : e.state = .running) {c : TestCtx} (hc : e.running = some c) (hp : c.phase.isSome = true)
    (ho : c.origin ≠ .sweep) : EngineConsistent e where
  idle h := by rw [hst] at h; cases h
  running _ := ⟨c, hc, hp, by simpa using ho⟩
  stepping h := by rw [hst] at h; cases h
  suspended h := by rw [hst] at h; cases h

/-- A STEPPING engine has a phase in flight, which is a sweep test's, and holds no sweep. -/
theorem consistent_stepping (hst : e.state = .stepping) {c : TestCtx} (hc : e.running = some c) (hp : c.phase.isSome = true)
    (ho : c.origin = .sweep) (hh : e.heldSweep = none) : EngineConsistent e where
  idle h := by rw [hst] at h; cases h
  running h := by rw [hst] at h; cases h
  stepping _ := ⟨⟨c, hc, hp, by simpa using ho⟩, hh⟩
  suspended h := by rw [hst] at h; cases h

/-- A SUSPENDED engine with no test, or with one that has no phase in flight. -/
theorem consistent_suspended (hst : e.state = .suspended) (hc : ∀ c, e.running = some c → c.phase = none ∧ c.origin ≠ .sweep)
    (hp : e.suspendPending = false) : EngineConsistent e where
  idle h := by rw [hst] at h; cases h
  running h := by rw [hst] at h; cases h
  stepping h := by rw [hst] at h; cases h
  suspended _ := ⟨hc, hp⟩

/-- What an operation keeps of a consistent engine: its consistency, and with it the laws of the timer and of a waiting request. -/
structure Engine.Keeps (e e' : Engine) : Prop where
  consistent : EngineConsistent e → EngineConsistent e'
  timer : EngineConsistent e → SweepTimerLaw e → SweepTimerLaw e'
  waits : EngineConsistent e → CrossWaits e → CrossWaits e'

theorem Engine.Keeps.refl (e : Engine) : e.Keeps e := ⟨id, fun _ => id, fun _ => id⟩

theorem Engine.Keeps.trans {e'' : Engine} (h : e.Keeps e') (h' : e'.Keeps e'') : e.Keeps e'' :=
  ⟨fun hc => h'.consistent (h.consistent hc), fun hc ht => h'.timer (h.consistent hc) (h.timer hc ht),
    fun hc hw => h'.waits (h.consistent hc) (h.waits hc hw)⟩

theorem Engine.Keeps.of_consistent (h : EngineConsistent e → e.Keeps e') : e.Keeps e' :=
  ⟨fun hc => (h hc).consistent hc, fun hc => (h hc).timer hc, fun hc => (h hc).waits hc⟩

theorem Engine.Keeps.of_eq (h : e' = e) : e.Keeps e' := h ▸ .refl e

/-- A queue changed on an engine that is not IDLE. -/
theorem keeps_queue (q : List TestReq) (hq : e.state = .idle → q = []) : e.Keeps { e with queue := q } where
  consistent h := ⟨fun hi => ⟨(h.idle hi).1, (h.idle hi).2.1, hq hi, (h.idle hi).2.2.2⟩, h.running, h.stepping, h.suspended⟩
  timer _ ht := ht.congr Iff.rfl rfl rfl rfl rfl rfl
  waits _ hw := hw

end

/-! ## The choice of work -/

section

variable (s : State)

theorem placeAuto_engine (l : Line) : ∃ q, (s.placeAuto l).engine = { s.engine with queue := q } := by
  obtain h | ⟨q, h, -⟩ | h := placeAuto_cases s l <;> rw [h]
  · exact ⟨_, rfl⟩
  · exact ⟨_, rfl⟩
  · exact ⟨_, rfl⟩

theorem fileOwed_engine : ∃ q, s.fileOwed.engine = { s.engine with queue := q } := by
  unfold State.fileOwed
  split
  · exact placeAuto_engine _ _
  · exact ⟨_, rfl⟩

theorem serveOwed_engine : ∃ q, s.serveOwed.engine = { s.engine with queue := q } := by
  unfold State.serveOwed
  split
  · exact ⟨_, rfl⟩
  · exact fileOwed_engine s

theorem popped_engine (rest : List TestReq) : ∃ q, (s.popped rest).engine = { s.engine with queue := q } :=
  serveOwed_engine _

theorem fileOwedLoop_engine (n : Nat) : ∃ q, (State.fileOwedLoop n s).engine = { s.engine with queue := q } := by
  induction n generalizing s with
  | zero => exact ⟨_, rfl⟩
  | succ n ih =>
    unfold State.fileOwedLoop
    split
    · obtain ⟨q, hq⟩ := fileOwed_engine s
      obtain ⟨q', hq'⟩ := ih s.fileOwed
      exact ⟨q', by rw [hq', hq]⟩
    · exact ⟨_, rfl⟩

end

/-- From an engine with nothing in flight, the choice of work ends at a consistent one, behind which no request waits, and with the
sweep timer's law where it held before. -/
theorem chooses_consistent {s t : State} (h : Chooses s t) (hr : s.engine.running = none) : EngineConsistent t.engine ∧
    CrossWaits t.engine ∧ (s.engine.state ≠ .suspended → SweepTimerLaw s.engine → SweepTimerLaw t.engine) := by
  induction h with
  | suspends s hp =>
    rw [enterSuspended_engine]
    refine ⟨consistent_suspended rfl (fun c hc => ?_) rfl, crossWaits_of_none hr, fun hs ht => ht.paused hs s.partTime rfl rfl rfl rfl rfl rfl⟩
    rw [show s.engine.running = some c from hc] at hr
    cases hr
  | runs s q rest hp hq he =>
    obtain ⟨q', hq'⟩ := popped_engine s rest
    have horigin : (q.begun (s.popped rest).partTime).origin ≠ .sweep := by
      unfold TestReq.begun
      dsimp only
      split <;> simp
    rw [runEntry_eq, hq']
    refine ⟨consistent_running rfl rfl rfl horigin, crossWaits_of_uncrossed rfl rfl, fun hs ht => ?_⟩
    rw [sweepTimerLaw_iff] at ht ⊢
    simpa only [Engine.waits, sweeping_of_none hr, sweeping_of_running (e := { s.engine with
      queue := q', state := .running, running := some (q.begun (s.popped rest).partTime) }) rfl horigin, hs, ne_eq, reduceCtorEq,
      not_false_eq_true, false_imp_iff, imp_true_iff, true_imp_iff] using ht
  | drops s t q rest hp hq he ht ih =>
    obtain ⟨q', hq'⟩ := popped_engine s rest
    rw [dropTest_engine, hq'] at ih
    obtain ⟨h1, h2, h3⟩ := ih hr
    exact ⟨h1, h2, fun hs ht => h3 hs (ht.congr Iff.rfl rfl rfl rfl rfl rfl)⟩
  | resumes s c hp hq hc hi =>
    rw [resumeSweep_eq]
    refine ⟨consistent_stepping rfl rfl rfl rfl rfl, crossWaits_of_uncrossed rfl rfl, fun hs ht => ?_⟩
    obtain ⟨hd, hstop⟩ := ht.ofSweeping (.inl (by rw [hc]; rfl))
    exact .stopped (.inr ⟨_, rfl, rfl⟩) hd hstop
  | givesUp s t c hp hq hc hi ht ih =>
    rw [sweepGivenUp_engine] at ih
    obtain ⟨h1, h2, h3⟩ := ih hr
    refine ⟨h1, h2, fun hs ht => h3 hs (.started hs (not_sweeping hr rfl) ?_ s.partTime rfl)⟩
    exact (ht.ofSweeping (.inl (by rw [hc]; rfl))).1
  | sweeps s hp hq hc hd =>
    by_cases hi : (s.line (s.engine.cursor + 1)).hook.state = .idle
    · rw [startSweep_idle s hi]
      refine ⟨consistent_stepping rfl rfl rfl rfl hc, crossWaits_of_uncrossed rfl rfl, fun hs ht => ?_⟩
      exact .stopped (.inr ⟨_, rfl, rfl⟩) rfl (ht.isStopped fun hw => by rw [hw.2.2] at hd; cases hd)
    · rw [startSweep_skips s hi]
      refine ⟨⟨fun _ => ⟨hr, hc, hq, rfl, hp⟩, nofun, nofun, nofun⟩, crossWaits_of_none hr, fun hs ht => ?_⟩
      exact .started (by simp) (not_sweeping hr hc) rfl s.partTime rfl
  | rests s hp hq hc hd =>
    refine ⟨⟨fun _ => ⟨hr, hc, hq, hd, hp⟩, nofun, nofun, nofun⟩, crossWaits_of_none hr, fun hs ht => ?_⟩
    exact ht.congr (by simp [hs]) rfl rfl rfl rfl rfl

/-! ## What each operation keeps -/

section

variable {e : Engine}

/-- With a test in flight, the engine is in the state of its origin; a sweep test leaves no sweep held. -/
theorem inFlight_state (h : EngineConsistent e) {c : TestCtx} (hc : e.running = some c) (hp : c.phase.isSome = true) :
    (e.state = .running ∧ c.origin ≠ .sweep) ∨ (e.state = .stepping ∧ c.origin = .sweep ∧ e.heldSweep = none) := by
  cases hs : e.state with
  | idle => rw [(h.idle hs).1] at hc; cases hc
  | running =>
    obtain ⟨c', hc', -, ho⟩ := h.running hs
    rw [hc] at hc'
    cases hc'
    exact .inl ⟨rfl, by simpa using ho⟩
  | stepping =>
    obtain ⟨⟨c', hc', -, ho⟩, hh⟩ := h.stepping hs
    rw [hc] at hc'
    cases hc'
    exact .inr ⟨rfl, by simpa using ho, hh⟩
  | suspended =>
    rw [((h.suspended hs).1 c hc).1] at hp
    cases hp

/-- A RUNNING or STEPPING engine has a test in flight. -/
theorem state_inFlight (h : EngineConsistent e) (hs : e.state = .running ∨ e.state = .stepping) :
    ∃ c, e.running = some c ∧ c.phase.isSome = true := by
  obtain hs | hs := hs
  · obtain ⟨c, hc, hp, -⟩ := h.running hs
    exact ⟨c, hc, hp⟩
  · obtain ⟨⟨c, hc, hp, -⟩, -⟩ := h.stepping hs
    exact ⟨c, hc, hp⟩

/-- The running context replaced by one of the same origin with a phase in flight, which is crossed only where it was, or before its
last step's completion. -/
theorem keeps_running {c c' : TestCtx} (hc : e.running = some c) (hp : c.phase.isSome = true) (hp' : c'.phase.isSome = true)
    (ho : c'.origin = c.origin)
    (hx : CrossWaits e → c'.crossed = true → c'.next = none ∧ ∃ q t, c'.phase = some (.measure q, t)) :
    e.Keeps { e with running := some c' } where
  consistent h := by
    obtain ⟨hs, horigin⟩ | ⟨hs, horigin, hh⟩ := inFlight_state h hc hp
    · exact consistent_running hs rfl hp' (by rwa [ho])
    · exact consistent_stepping hs rfl hp' (by rwa [ho]) hh
  timer h ht := ht.congr Iff.rfl (by rw [hc]; simp [ho]) rfl rfl rfl rfl
  waits h hw c'' hc'' := by
    cases hc''
    exact hx hw

/-- The running context emptied, with the sweep timer started after a sweep test (R109), and the choice of work after it. -/
theorem keeps_choose {s u : State} {c : TestCtx} (hu : u.engine = s.engine) (hc : s.engine.running = some c)
    (hp : c.phase.isSome = true) {c' : TestCtx} (ho : c'.origin = c.origin) : s.engine.Keeps (u.clearRunning c').chooseWork.engine := by
  have hcleared : (u.clearRunning c').engine = { s.engine with
      running := none, sweepTimer := if c.origin = .sweep then s.engine.timerFrom u.partTime else s.engine.sweepTimer } := by
    unfold State.clearRunning
    rw [modEngine_engine, hu, ho, startTimer_eq]
    split <;> rfl
  have hnone : (u.clearRunning c').engine.running = none := by rw [hcleared]
  obtain ⟨h1, h2, h3⟩ := chooses_consistent (chooseWork_chooses (u.clearRunning c')) hnone
  refine ⟨fun _ => h1, fun h ht => h3 ?_ ?_, fun _ _ => h2⟩
  · rw [hcleared]
    obtain ⟨hs, -⟩ | ⟨hs, -⟩ := inFlight_state h hc hp <;> simp [hs]
  · rw [hcleared]
    obtain ⟨hs, horigin⟩ | ⟨hs, horigin, hh⟩ := inFlight_state h hc hp
    · rw [if_neg horigin]
      exact ht.congr_sweeping Iff.rfl ((sweeping_of_none rfl).trans (sweeping_of_running hc horigin).symm) rfl rfl rfl
    · rw [if_pos horigin]
      exact .started (by simp [hs]) (not_sweeping rfl hh) (ht.ofSweeping (.inr ⟨c, hc, horigin⟩)).1 u.partTime rfl

end

section

variable (s : State) (l : Line)

theorem modEngine_queue_keeps {u : State} {q : List TestReq} (hu : u.engine = { s.engine with queue := q }) :
    s.engine.Keeps (if u.engine.state = .idle then u.chooseWork else u).engine := by
  split
  · next hidle =>
    have hidle' : s.engine.state = .idle := by rwa [hu] at hidle
    refine ⟨fun h => ?_, fun h ht => ?_, fun h _ => ?_⟩
    all_goals
      have hnone : u.engine.running = none := by rw [hu]; exact (h.idle hidle').1
      obtain ⟨h1, h2, h3⟩ := chooses_consistent (chooseWork_chooses u) hnone
    · exact h1
    · refine h3 (by rw [hidle]; simp) ?_
      rw [hu]
      exact ht.congr Iff.rfl rfl rfl rfl rfl rfl
    · exact h2
  · next hidle =>
    rw [hu] at hidle ⊢
    exact keeps_queue q fun h => absurd h hidle

theorem fileAuto_keeps : s.engine.Keeps (s.fileAuto l).engine := by
  obtain ⟨q, hq⟩ := placeAuto_engine s l
  exact modEngine_queue_keeps s hq

theorem fileHost_keeps (steps : StepSet) (force : Bool) : s.engine.Keeps (s.fileHost l steps force).engine :=
  modEngine_queue_keeps s (u := s.modEngine fun e => { e with queue := e.queue ++ [⟨l, steps, false, true, force⟩] }) rfl

theorem abandon_engine (c : TestCtx) : ∃ now, (s.abandon c).engine = { s.engine with
    state := .suspended, suspendPending := false, running := none
    sweepTimer := if c.origin = .sweep then
        if s.engine.sweepEnabled then .remaining s.engine.intervalMs else .stopped
      else s.engine.sweepTimer.paused now } := by
  obtain ⟨u, hu⟩ : ∃ u, u = (s.disconnect c.line).finishAbandoned c := ⟨_, rfl⟩
  have huengine : u.engine = s.engine := by rw [hu, finishAbandoned_engine, disconnect_engine]
  have hend : (u.modEngine fun e => { e with running := none }).enterSuspended.engine = { s.engine with
      state := .suspended, suspendPending := false, running := none, sweepTimer := s.engine.sweepTimer.paused u.partTime } := by
    rw [enterSuspended_engine, modEngine_engine, huengine]
    rfl
  refine ⟨u.partTime, ?_⟩
  unfold State.abandon
  dsimp only
  rw [← hu]
  split
  · rw [modEngine_engine, hend]
    unfold Engine.fullRemaining
    dsimp only
    split <;> rfl
  · exact hend

end

/-- An engine whose phase in flight is abandoned (R118). -/
theorem keeps_abandoned {e : Engine} {c : TestCtx} (hc : e.running = some c) (hp : c.phase.isSome = true) (now : Time) :
    e.Keeps { e with
      state := .suspended, suspendPending := false, running := none
      sweepTimer := if c.origin = .sweep then if e.sweepEnabled then .remaining e.intervalMs else .stopped
        else e.sweepTimer.paused now } := by
  refine ⟨fun h => consistent_suspended rfl (fun _ hx => by cases hx) rfl, fun h hlaw => ?_, fun h _ => crossWaits_of_none rfl⟩
  obtain ⟨hs, horigin⟩ | ⟨hs, horigin, hh⟩ := inFlight_state h hc hp
  · rw [if_neg horigin]
    exact hlaw.paused_sweeping (by simp [hs]) now rfl ((sweeping_of_none rfl).trans (sweeping_of_running hc horigin).symm) rfl rfl rfl
  · rw [if_pos horigin]
    obtain ⟨hd, hstop⟩ := hlaw.ofSweeping (.inr ⟨c, hc, horigin⟩)
    rw [sweepTimerLaw_iff]
    refine ⟨fun hx => (by rw [show _ = false from hd] at hx; cases hx), fun hw _ => ?_, fun _ hx => absurd rfl hx, fun hw => ?_⟩
    · exact ⟨_, if_pos hw.1⟩
    · exact if_neg fun he => hw ⟨he, not_sweeping rfl hh, hd⟩

/-- A suspension request on an engine with a phase in flight on another line. -/
theorem keeps_suspendPending {e : Engine} (hs : e.state = .running ∨ e.state = .stepping) :
    e.Keeps { e with suspendPending := true } where
  consistent h := by
    obtain ⟨c, hc, hp⟩ := state_inFlight h hs
    obtain ⟨hs, horigin⟩ | ⟨hs, horigin, hh⟩ := inFlight_state h hc hp
    · exact consistent_running hs hc hp horigin
    · exact consistent_stepping hs hc hp horigin hh
  timer _ ht := ht.congr Iff.rfl rfl rfl rfl rfl rfl
  waits _ hw := hw

/-- An engine that becomes SUSPENDED with no test, or with one that is held (R118). -/
theorem keeps_suspended {e : Engine} (hs : e.state ≠ .suspended) (now : Time) (c : Option TestCtx)
    (hc : EngineConsistent e → ∀ x, c = some x → x.phase = none ∧ x.origin ≠ .sweep)
    (ho : c.map TestCtx.origin = e.running.map TestCtx.origin) (hx : CrossWaits e → ∀ x, c = some x → x.crossed = false) : e.Keeps { e with
      state := .suspended, suspendPending := false, running := c, sweepTimer := e.sweepTimer.paused now } where
  consistent h := consistent_suspended rfl (hc h) rfl
  timer _ ht := ht.paused hs now rfl ho rfl rfl rfl rfl
  waits _ hw x hx' hcross := by rw [hx hw x hx'] at hcross; cases hcross

section

variable (s : State) (l : Line)

theorem abandon_keeps {c : TestCtx} (hc : s.engine.running = some c) (hp : c.phase.isSome = true) :
    s.engine.Keeps (s.abandon c).engine := by
  obtain ⟨now, h⟩ := abandon_engine s c
  rw [h]
  exact keeps_abandoned hc hp now

theorem crossInFlight_keeps {c : TestCtx} (hc : s.engine.running = some c) (hp : c.phase.isSome = true) :
    s.engine.Keeps (s.crossInFlight c).engine := by
  obtain ⟨-, hx⟩ | ⟨hdue, -, hx⟩ | ⟨-, -, hx⟩ := s.crossInFlight_cases c <;> rw [hx]
  · exact abandon_keeps s hc hp
  · obtain ⟨⟨q, hq⟩, hn, -⟩ := (c.lastStepDue_iff s.partTime).mp hdue
    exact keeps_running (c' := { c with crossed := true }) hc hp hp rfl fun _ _ => ⟨hn, q, _, hq⟩
  · exact abandon_keeps { s with freeCount := s.freeCount + 1 } hc hp

theorem requestSuspension_keeps (hcon : EngineConsistent s.engine) : s.engine.Keeps (s.requestSuspension l).engine := by
  obtain ⟨-, h⟩ | ⟨hs, h⟩ | ⟨hs, ⟨c, hc, -, h⟩ | ⟨-, h⟩⟩ := s.requestSuspension_cases l <;> rw [h]
  · exact .refl _
  · rw [enterSuspended_engine]
    have hnone := (hcon.idle hs).1
    have hkeeps := keeps_suspended (e := s.engine) (by simp [hs]) s.partTime none (fun _ x hx => by cases hx) (by rw [hnone])
      fun _ x hx => by cases hx
    rw [← hnone] at hkeeps
    exact hkeeps
  · obtain ⟨c', hc', hp⟩ := state_inFlight hcon hs
    rw [hc] at hc'
    cases hc'
    exact crossInFlight_keeps s hc hp
  · exact keeps_suspendPending hs

theorem afterCross_keeps (c : TestCtx) : s.engine.Keeps (s.afterCross c).engine := by
  rw [State.afterCross_eq]
  split
  · exact .of_consistent (requestSuspension_keeps s c.line)
  · exact .refl _

end

/-! ## The end of a test, and the commands -/

/-- A sweep test yields the bus (R113). -/
theorem holdSweep_engine (s : State) (c' : TestCtx) : (s.holdSweep c').engine = { s.engine with
    running := none, heldSweep := some ⟨c'.line, c'.steps, c'.values, c'.next⟩ } := by
  rw [State.holdSweep, modEngine_engine, disconnect_engine]

section

variable (s : State) {c c' : TestCtx} (hc : s.engine.running = some c) (hp : c.phase.isSome = true) (ho : c'.origin = c.origin)
include hc hp ho

theorem endDone_keeps : s.engine.Keeps (s.endDone c').engine :=
  (keeps_choose (by simp) hc hp ho).trans (afterCross_keeps _ _)

theorem endAborted_keeps : s.engine.Keeps (s.endAborted c').engine :=
  (keeps_choose (by simp) hc hp ho).trans (afterCross_keeps _ _)

/-- A queued test held by suspension (R108, R118). -/
theorem holdTest_keeps (hs : s.engine.state = .running) (hn : c'.next ≠ none) (hn' : c'.next = c.next) (hx : c'.crossed = c.crossed) :
    s.engine.Keeps (((s.disconnect c'.line).modEngine fun e => { e with running := some { c' with phase := none } }).enterSuspended).engine := by
  rw [enterSuspended_engine, modEngine_engine, disconnect_engine]
  refine keeps_suspended (e := s.engine) (by simp [hs]) _ (some { c' with phase := none }) (fun h x hx => ?_) (by simp [hc, ho])
    fun hw x hx' => ?_
  · cases hx
    obtain ⟨-, horigin⟩ | ⟨hst, -⟩ := inFlight_state h hc hp
    · exact ⟨rfl, by rwa [← ho] at horigin⟩
    · rw [hs] at hst; cases hst
  · cases hx'
    show c'.crossed = false
    cases hcross : c'.crossed with
    | false => rfl
    | true => exact absurd (hn'.trans (hw c hc (hx ▸ hcross)).1) hn

omit ho in
theorem holdSweep_sweeping (hs : s.engine.state = .stepping) (h : EngineConsistent s.engine) :
    (s.holdSweep c').engine.sweeping ↔ s.engine.sweeping := by
  obtain ⟨hst, -⟩ | ⟨-, horigin, -⟩ := inFlight_state h hc hp
  · rw [hs] at hst; cases hst
  · refine ⟨fun _ => .inr ⟨c, hc, horigin⟩, fun _ => .inl ?_⟩
    rw [holdSweep_engine s c']
    rfl

omit ho in
theorem holdSweep_suspended_keeps (hs : s.engine.state = .stepping) : s.engine.Keeps (s.holdSweep c').enterSuspended.engine := by
  refine .of_consistent fun h => ?_
  have hsw := holdSweep_sweeping s (c' := c') hc hp hs h
  rw [enterSuspended_engine]
  rw [holdSweep_engine s] at hsw ⊢
  refine ⟨fun _ => consistent_suspended rfl (fun x hx => by cases hx) rfl, fun _ ht => ?_, fun _ _ => crossWaits_of_none rfl⟩
  exact ht.paused_sweeping (by simp [hs]) _ rfl hsw rfl rfl rfl

omit ho in
theorem holdSweep_choose_keeps (hs : s.engine.state = .stepping) : s.engine.Keeps (s.holdSweep c').chooseWork.engine := by
  refine .of_consistent fun h => ?_
  have hsw := holdSweep_sweeping s (c' := c') hc hp hs h
  have hengine := holdSweep_engine s
  obtain ⟨h1, h2, h3⟩ := chooses_consistent (chooseWork_chooses (s.holdSweep c')) (by rw [hengine])
  refine ⟨fun _ => h1, fun _ ht => h3 ?_ ?_, fun _ _ => h2⟩
  · rw [hengine]; simp [hs]
  · rw [hengine] at hsw ⊢
    exact ht.congr_sweeping Iff.rfl hsw rfl rfl rfl

theorem phaseDone_keeps (hn : c'.next = c.next) (hx : c'.crossed = c.crossed) (b : Bool) : s.engine.Keeps (s.phaseDone c' b).engine := by
  have hstep : ∀ p, c'.next = some p → s.engine.Keeps (s.beginStep c' p).engine := fun p hnext =>
    keeps_running (c' := { c' with next := c'.steps.after p, phase := some (.measure p, laterBy s.partTime p.durationMs) })
      hc hp rfl ho fun hw hcross => by
        have hnone := (hw c hc (hx ▸ hcross)).1
        rw [← hn, hnext] at hnone
        cases hnone
  unfold State.phaseDone
  split
  · next hs =>
    unfold State.runningPhaseDone
    split
    · exact endAborted_keeps s hc hp ho
    · split
      · next p hnext =>
        split
        · exact holdTest_keeps s hc hp ho hs (by rw [hnext]; simp) hn hx
        · exact hstep p hnext
      · exact endDone_keeps s hc hp ho
  · next hs =>
    unfold State.steppingPhaseDone
    split
    · exact endAborted_keeps s hc hp ho
    · split
      · exact endDone_keeps s hc hp ho
      · next p hnext =>
        split
        · exact holdSweep_suspended_keeps s hc hp hs
        · split
          · exact holdSweep_choose_keeps s hc hp hs
          · exact hstep p hnext
  · exact .refl _
  · exact .refl _

end

section

variable (s : State) (l : Line)

theorem settleDone_keeps : s.engine.Keeps s.settleDone.engine := by
  unfold State.settleDone
  split
  · next c hc =>
    split
    · next hp => exact phaseDone_keeps s hc (by rw [hp]; rfl) rfl rfl rfl false
    · exact .refl _
  · exact .refl _

theorem stepDone_keeps (a b : Int) : s.engine.Keeps (s.stepDone a b).engine := by
  unfold State.stepDone
  split
  · next c hc =>
    split
    · next p d hp =>
      split
      · exact phaseDone_keeps s (c' := { c with values := c.values.record p a b }) hc (by rw [hp]; rfl) rfl rfl rfl true
      · exact .refl _
    · exact .refl _
    · exact .refl _
  · exact .refl _

theorem abortRunning_keeps : s.engine.Keeps (s.abortRunning l).1.engine := by
  unfold State.abortRunning
  split
  · next c hc =>
    split
    · split
      · next hp => exact keeps_running (c' := { c with abortRequested := true }) hc hp hp rfl fun hw hx => hw c hc hx
      · next hp =>
        rw [modEngine_engine, finishAborted_engine]
        refine .of_consistent fun h => ?_
        have hst : s.engine.state = .suspended := by
          cases hs : s.engine.state with
          | idle => rw [(h.idle hs).1] at hc; cases hc
          | suspended => rfl
          | running | stepping =>
            obtain ⟨c', hc', hp'⟩ := state_inFlight h (by simp [hs])
            rw [hc] at hc'
            cases hc'
            exact absurd hp' hp
        obtain ⟨hheld, hpend⟩ := h.suspended hst
        refine ⟨fun _ => consistent_suspended hst (fun x hx => by cases hx) hpend, fun _ ht => ?_, fun _ _ => crossWaits_of_none rfl⟩
        exact ht.congr_sweeping Iff.rfl ((sweeping_of_none rfl).trans (sweeping_of_running hc (hheld c hc).2).symm) rfl rfl rfl
    · exact .refl _
  · exact .refl _

theorem abortQueued_keeps : s.engine.Keeps (s.abortQueued l).1.engine := by
  unfold State.abortQueued
  split
  · next hqueued =>
    obtain ⟨q, hq⟩ := serveOwed_engine (s.modEngine fun e => { e with queue := e.queue.filter fun q => q.line != l })
    rw [hq]
    refine .of_consistent fun h => keeps_queue q fun hidle => ?_
    have hempty := (h.idle hidle).2.2.1
    rw [Engine.queued, hempty] at hqueued
    cases hqueued
  · exact .refl _

theorem abortHeldSweep_keeps : s.engine.Keeps (s.abortHeldSweep l).1.engine := by
  unfold State.abortHeldSweep
  split
  · next c hh =>
    split
    · rw [modEngine_engine]
      refine .of_consistent fun h => ?_
      have hsw : s.engine.sweeping := .inl (by rw [hh]; rfl)
      have hnot : ∀ x : Engine, x.running = s.engine.running → x.heldSweep = none → ¬ x.sweeping := by
        rintro x hr hx (hheld | ⟨c', hc', ho⟩)
        · rw [hx] at hheld; cases hheld
        · rw [hr] at hc'
          cases hs : s.engine.state with
          | idle => rw [(h.idle hs).1] at hc'; cases hc'
          | suspended => exact ((h.suspended hs).1 c' hc').2 ho
          | running =>
            obtain ⟨c'', hc'', -, ho'⟩ := h.running hs
            rw [hc'] at hc''
            cases hc''
            simp [ho] at ho'
          | stepping => rw [(h.stepping hs).2] at hh; cases hh
      split
      · next hst =>
        unfold Engine.fullRemaining
        refine ⟨fun _ => ?_, fun _ ht => ?_, fun _ hw => ?_⟩
        · split <;> exact consistent_suspended hst (h.suspended hst).1 (h.suspended hst).2
        · obtain ⟨hd, -⟩ := ht.ofSweeping hsw
          rw [sweepTimerLaw_iff]
          split
          · next he =>
            exact ⟨fun hx => absurd (hx.symm.trans hd) (by simp), fun _ _ => ⟨_, rfl⟩, fun _ hx => absurd hst hx,
              fun hw => absurd ⟨he, hnot _ rfl rfl, hd⟩ hw⟩
          · next he =>
            exact ⟨fun hx => absurd (hx.symm.trans hd) (by simp), fun hw => absurd hw.1 he, fun hw => absurd hw.1 he, fun _ => rfl⟩
        · split <;> exact hw
      · next hst =>
        rw [startTimer_eq]
        refine ⟨fun _ => ?_, fun _ ht => ?_, fun _ hw => hw⟩
        · refine ⟨fun hi => ?_, h.running, fun hs => ⟨(h.stepping hs).1, rfl⟩, fun hs => absurd hs hst⟩
          rw [(h.idle hi).2.1] at hh
          cases hh
        · exact .started hst (hnot _ rfl rfl) (ht.ofSweeping hsw).1 s.partTime rfl
    · exact .refl _
  · exact .refl _

theorem abortTests_keeps : s.engine.Keeps (s.abortTests l).1.engine :=
  ((abortRunning_keeps s l).trans (abortQueued_keeps _ l)).trans (abortHeldSweep_keeps _ l)

/-- The timer of an engine that leaves SUSPENDED runs on (R111, R120). -/
theorem resumeTimer_law {e : Engine} (h : EngineConsistent e) (hs : e.state = .suspended) (ht : SweepTimerLaw e) (now : Time) :
    SweepTimerLaw { e.resumeTimer now with state := .idle } := by
  have hsw : ∀ x : Engine, x.running = e.running → x.heldSweep = e.heldSweep → (x.sweeping ↔ e.heldSweep.isSome = true) := by
    intro x hr hh
    cases hc : e.running with
    | none => rw [sweeping_of_none (hr.trans hc), hh]
    | some c => rw [sweeping_of_running (hr.trans hc) ((h.suspended hs).1 c hc).2, hh]
  obtain ⟨hdue, hrem, -, hstop⟩ := (sweepTimerLaw_iff e).mp ht
  have hwaits : e.waits ↔ (e.sweepEnabled && e.heldSweep.isNone && !e.sweepDue) = true := by
    rw [Engine.waits, hsw e rfl rfl]
    cases e.heldSweep <;> simp
  rw [sweepTimerLaw_iff]
  unfold Engine.resumeTimer
  by_cases hw : e.waits
  · obtain ⟨ms, hms⟩ := hrem hw hs
    rw [hms]
    dsimp only
    rw [if_pos (hwaits.mp hw)]
    refine ⟨fun hd => ?_, fun _ hx => by simp at hx, fun _ _ => ⟨_, rfl⟩, fun hno => absurd ?_ hno⟩
    · exact absurd (hd.symm.trans hw.2.2) (by simp)
    · exact ⟨hw.1, (hsw _ rfl rfl).not.mpr ((hsw e rfl rfl).not.mp hw.2.1), hw.2.2⟩
  · rw [hstop hw]
    refine ⟨fun hd => ⟨(hdue hd).1, (hsw _ rfl rfl).not.mpr ((hsw e rfl rfl).not.mp (hdue hd).2)⟩, fun _ hx => by simp at hx,
      fun hx => absurd ⟨hx.1, (hsw e rfl rfl).not.mpr ((hsw _ rfl rfl).not.mp hx.2.1), hx.2.2⟩ hw, fun _ => hstop hw⟩

theorem resumeTimer_fields (e : Engine) (now : Time) : ∃ t, e.resumeTimer now = { e with sweepTimer := t } := by
  unfold Engine.resumeTimer
  split
  · split <;> exact ⟨_, rfl⟩
  · exact ⟨_, rfl⟩
  · exact ⟨_, rfl⟩

theorem resumeTesting_keeps (hs : s.engine.state = .suspended) : s.engine.Keeps s.resumeTesting.engine := by
  refine .of_consistent fun h => ?_
  obtain ⟨hheld, hpend⟩ := h.suspended hs
  obtain ⟨u, hu⟩ : ∃ u, u = State.fileOwedLoop 32 (s.modEngine fun e => { e.resumeTimer s.partTime with state := .idle }) := ⟨_, rfl⟩
  obtain ⟨timer, htimer⟩ := resumeTimer_fields s.engine s.partTime
  obtain ⟨q, hq⟩ := fileOwedLoop_engine (s.modEngine fun e => { e.resumeTimer s.partTime with state := .idle }) 32
  rw [← hu, modEngine_engine] at hq
  have hlaw : SweepTimerLaw s.engine → SweepTimerLaw u.engine := fun ht => by
    rw [hq]
    exact (resumeTimer_law h hs ht s.partTime).congr Iff.rfl rfl rfl rfl rfl rfl
  rw [htimer] at hq
  unfold State.resumeTesting
  dsimp only
  rw [← hu]
  unfold State.resumeHeld
  split
  · next c hc =>
    have hc' : s.engine.running = some c := by rw [hq] at hc; exact hc
    obtain ⟨hphase, horigin⟩ := hheld c hc'
    split
    · rw [beginTest_engine]
      refine ⟨fun _ => consistent_running rfl rfl rfl horigin, fun _ ht => ?_, fun _ hw => crossWaits_of_uncrossed rfl ?_⟩
      · refine (hlaw ht).congr ?_ (by rw [hc]; rfl) rfl rfl rfl rfl
        rw [hq]
        simp
      · show c.crossed = false
        cases hx : c.crossed with
        | false => rfl
        | true =>
          obtain ⟨-, q, t, hsome⟩ := hw c hc' hx
          rw [hphase] at hsome
          cases hsome
    · obtain ⟨v, hv⟩ : ∃ v, v = (u.dropTest c.line c.hostReport).modEngine fun e => { e with running := none } := ⟨_, rfl⟩
      have hvengine : v.engine = { u.engine with running := none } := by rw [hv, modEngine_engine, dropTest_engine]
      rw [← hv]
      obtain ⟨h1, h2, h3⟩ := chooses_consistent (chooseWork_chooses v) (by rw [hvengine])
      refine ⟨fun _ => h1, fun _ ht => h3 (by rw [hvengine, hq]; simp) ?_, fun _ _ => h2⟩
      rw [hvengine]
      exact (hlaw ht).congr_sweeping Iff.rfl ((sweeping_of_none rfl).trans (sweeping_of_running hc horigin).symm) rfl rfl rfl
  · next hc =>
    obtain ⟨h1, h2, h3⟩ := chooses_consistent (chooseWork_chooses u) hc
    exact ⟨fun _ => h1, fun _ ht => h3 (by rw [hq]; simp) (hlaw ht), fun _ _ => h2⟩

theorem sweepExpiry_keeps : s.engine.Keeps s.sweepExpiry.engine := by
  unfold State.sweepExpiry
  split
  · next hrun =>
    refine .of_consistent fun h => ?_
    dsimp only
    obtain ⟨u, hu⟩ : ∃ u, u = s.modEngine fun e => { e with sweepTimer := .stopped, sweepDue := true } := ⟨_, rfl⟩
    have huengine : u.engine = { s.engine with sweepTimer := .stopped, sweepDue := true } := by rw [hu]; rfl
    rw [← hu]
    have hlaw : SweepTimerLaw s.engine → SweepTimerLaw u.engine := fun ht => by
      obtain ⟨he, hst, hn, hd⟩ := ht.runs.mp ⟨_, hrun⟩
      rw [huengine, sweepTimerLaw_iff]
      have hno : ∀ {p : Prop}, ({ s.engine with sweepTimer := .stopped, sweepDue := true } : Engine).waits → p := fun hw => by
        cases hw.2.2
      exact ⟨fun _ => ⟨he, hn⟩, fun hw => hno hw, fun hw => hno hw, fun _ => rfl⟩
    split
    · next hidle =>
      have hidle' : s.engine.state = .idle := by rw [huengine] at hidle; exact hidle
      obtain ⟨h1, h2, h3⟩ := chooses_consistent (chooseWork_chooses u) (by rw [huengine]; exact (h.idle hidle').1)
      exact ⟨fun _ => h1, fun _ ht => h3 (by rw [hidle]; simp) (hlaw ht), fun _ _ => h2⟩
    · next hidle =>
      have hidle' : s.engine.state ≠ .idle := by rw [huengine] at hidle; exact hidle
      refine ⟨fun _ => ?_, fun _ ht => hlaw ht, fun _ hw => ?_⟩
      · rw [huengine]
        exact ⟨fun hi => absurd hi hidle', h.running, h.stepping, h.suspended⟩
      · rw [huengine]; exact hw
  · exact .refl _

/-- The settings of the sweep replaced (R115): the timer started, left a full remaining time, stopped or as it was. -/
theorem setSweep_keeps (e : Engine) (on : Bool) (interval : Nat) (steps : StepSet) (now : Time) :
    e.Keeps (e.setSweep on interval steps now) := by
  have hkeeps : ∀ (t : SweepTimer) (d : Bool), (d = true → e.sweepDue = true) → (SweepTimerLaw e → SweepTimerLaw { e with
      sweepEnabled := on, sweepInterval := interval, sweepSteps := steps, sweepTimer := t, sweepDue := d }) → e.Keeps { e with
      sweepEnabled := on, sweepInterval := interval, sweepSteps := steps, sweepTimer := t, sweepDue := d } := by
    intro t d hd ht
    refine ⟨fun h => ⟨fun hi => ?_, h.running, h.stepping, h.suspended⟩, fun _ => ht, fun _ hw => hw⟩
    obtain ⟨hr, hh, hq, hdue, hp⟩ := h.idle hi
    refine ⟨hr, hh, hq, ?_, hp⟩
    cases d with
    | false => rfl
    | true => rw [hd rfl] at hdue; cases hdue
  cases on with
  | false =>
    refine hkeeps .stopped false (fun h => by cases h) fun _ => (sweepTimerLaw_iff _).mpr ?_
    exact ⟨fun h => (by cases h), fun hw => (by cases hw.1), fun hw => (by cases hw.1), fun _ => rfl⟩
  | true =>
    by_cases hrun : e.sweepEnabled = true ∨ e.sweeping
    · rw [setSweep_running _ _ _ hrun]
      refine hkeeps e.sweepTimer e.sweepDue id fun ht => ?_
      obtain he | hsw := hrun
      · exact ht.congr_sweeping Iff.rfl Iff.rfl he.symm rfl rfl
      · obtain ⟨hd, hstop⟩ := ht.ofSweeping hsw
        exact .stopped hsw hd hstop
    · push Not at hrun
      obtain ⟨hoff, hno⟩ := hrun
      have hoff : e.sweepEnabled = false := by simpa using hoff
      have hdue : SweepTimerLaw e → e.sweepDue = false := fun ht => by
        cases hd : e.sweepDue with
        | false => rfl
        | true => rw [(ht.due hd).1] at hoff; cases hoff
      rw [setSweep_starts _ _ _ hoff hno]
      split
      · next hs =>
        refine hkeeps _ e.sweepDue id fun ht => (sweepTimerLaw_iff _).mpr ?_
        exact ⟨fun h => absurd (h.symm.trans (hdue ht)) (by simp), fun _ _ => ⟨_, rfl⟩, fun _ h => absurd hs h,
          fun hw => absurd ⟨rfl, hno, hdue ht⟩ hw⟩
      · next hs =>
        exact hkeeps _ e.sweepDue id fun ht => .started hs hno (hdue ht) now rfl

/-! ## The samples, the commands and the steps -/

theorem powerCross_keeps : s.engine.Keeps (s.powerCross l).engine := by
  have hlast : ∀ u : State, u.engine = s.engine → s.engine.Keeps (u.requestSuspension l).engine := fun u hu =>
    hu ▸ .of_consistent (requestSuspension_keeps u l)
  unfold State.powerCross
  split
  · exact .refl _
  all_goals exact hlast _ (by simp)

theorem restingSample_keeps (i : Nat) : s.engine.Keeps (s.restingSample l i).engine := by
  unfold State.restingSample State.restingUpdate
  dsimp only
  repeat' split
  · exact .refl _
  · unfold State.leakageSuspicion
    refine .trans (.of_eq ?_) (fileAuto_keeps _ l)
    simp
  · exact .refl _

theorem dispatchSample_keeps (i : Nat) : s.engine.Keeps (s.dispatchSample l i).engine := by
  unfold State.dispatchSample
  split
  · unfold State.learningSample
    split
    · exact .refl _
    · exact .trans (.of_eq (endLearning_engine s l)) (restingSample_keeps _ l i)
  · exact restingSample_keeps s l i
  · exact .of_eq (seizingSample_engine s l i)
  · exact .of_eq (offHookSample_engine s l i)
  · exact .of_eq (breakSample_engine s l i)
  · exact .refl _
  · exact .refl _

theorem sample_keeps (i : Nat) (ov : Bool) : s.engine.Keeps (s.sample l i ov).engine := by
  unfold State.sample State.takeSample
  dsimp only
  repeat' split
  · exact powerCross_keeps ((s.recordSample l (min i 1200) ov).modLsu l fun _ => _) l
  · unfold State.usableSample
    repeat' split
    · exact .refl _
    · exact .trans (.of_eq (by simp)) (dispatchSample_keeps _ l _)
    · exact dispatchSample_keeps ((s.recordSample l (min i 1200) ov).modLsu l fun _ => _) l _
  · exact .refl _

theorem retestExpiry_keeps : s.engine.Keeps (s.retestExpiry l).engine := by
  unfold State.retestExpiry
  repeat' split
  · exact .of_eq (setRetestDue_engine s l)
  · exact (fileAuto_keeps s l).trans (.of_eq (setRetestDue_engine _ l))
  · exact .refl _

end

/-- A power-up engine, with any settings of the sweep and its timer started, satisfies every law. -/
theorem afterCommand_laws (e : Engine) :
    EngineConsistent e.afterCommand ∧ SweepTimerLaw e.afterCommand ∧ CrossWaits e.afterCommand := by
  unfold Engine.afterCommand
  rw [startTimer_eq]
  refine ⟨⟨fun _ => ⟨rfl, rfl, rfl, rfl, rfl⟩, nofun, nofun, nofun⟩, ?_, crossWaits_of_none rfl⟩
  exact .started (by simp [Engine.powerUp]) (not_sweeping rfl rfl) rfl 0#32 rfl

theorem powerUp_laws : EngineConsistent Engine.powerUp ∧ SweepTimerLaw Engine.powerUp ∧ CrossWaits Engine.powerUp := by
  have h := afterCommand_laws Engine.powerUp
  exact h

theorem effect_keeps {s t : State} (h : Effect s t) : s.engine.Keeps t.engine := by
  cases h with
  | nothing => exact .refl _
  | clearLatched l => exact .refl _
  | writeProfile p fields v changed h => rw [writeProfile_eq]; exact .refl _
  | assignProfile l p => rw [assignProfile_eq]; split <;> exact .refl _
  | takeOut l h => exact .of_eq (takeOut_engine s l)
  | putIn l h => exact .refl _
  | moveSlot l t h hfree => exact .of_eq (by simp [State.moveSlot, State.markSlotChange])
  | setMask l kinds => exact .refl _
  | setClassMap classes m h => exact .refl _
  | setTone p => exact .refl _
  | setScan setting index =>
    unfold State.setScan
    dsimp only
    split
    · exact .of_eq (deriveMode_engine _)
    · exact .refl _
  | setSweep on interval steps => exact setSweep_keeps _ _ _ _ _
  | arm l h => exact .of_eq (armCollection_engine s l)
  | endCollection l h => exact .of_eq (endCollection_engine s l none)
  | clearBuffer l => exact .refl _
  | mergeHost l steps force =>
    refine .of_consistent fun h => keeps_queue _ fun hi => ?_
    rw [(h.idle hi).2.2.1]
    rfl
  | fileHost l steps force h hnew hroom => exact fileHost_keeps s l steps force
  | abort l => exact abortTests_keeps s l
  | resume h => exact resumeTesting_keeps s h
  | ack l left => exact .refl _
  | release l h => exact .refl _
  | reset => exact .refl _

theorem takes_keeps {s t : State} (h : Takes s t) : s.engine.Keeps t.engine := by
  cases h with
  | nothing => exact .refl _
  | frame run hrun =>
    obtain ⟨k, r, hg⟩ | ⟨k, k', n, hg⟩ := goodFrame_eq_run s run <;> rw [hg]
    · exact .refl _
    · have heffect := effect_keeps (effect_of_runOf (hrun { s with link := k }))
      exact heffect
  | badFrame =>
    unfold State.badFrame
    dsimp only
    repeat' split
    · exact .refl _
    · exact .of_eq (txChoose_engine _)
    · rw [answer_eq]; exact .refl _
  | receive r => exact .refl _
  | turnAway hs => exact .of_eq (txChoose_engine _)
  | nextFrame f htx => exact .of_eq (txChoose_engine _)
  | commandReset hr =>
    obtain ⟨h1, h2, h3⟩ := afterCommand_laws s.engine
    rw [commandReset_eq]
    exact ⟨fun _ => h1, fun _ _ => h2, fun _ _ => h3⟩
  | sample l i ov => exact sample_keeps s l i ov
  | firstSync => exact .of_eq (firstSync_engine s)
  | startReceiver r frame => exact .of_eq (startReceiver_engine s r frame)
  | blockDone r frames => exact .of_eq (blockDone_engine s r frames)
  | firstDigitExpiry l => exact .of_eq (firstDigitExpiry_engine s l)
  | endDiallingExpiry l => exact .of_eq (endDiallingExpiry_engine s l)
  | retestExpiry l => exact retestExpiry_keeps s l
  | sweepExpiry => exact sweepExpiry_keeps s
  | readBattery volts => exact .of_eq (readBattery_engine s volts)
  | settleDone => exact settleDone_keeps s
  | stepDone a b => exact stepDone_keeps s a b

theorem step_keeps {s t : State} (h : step s = .next t) : s.engine.Keeps t.engine := by
  obtain rfl | ⟨rest, hb⟩ := step_becomes h
  · exact .refl _
  have hcold : ∀ cause, s.engine.Keeps ({ s with pending := rest }.coldReset cause).engine := fun cause => by
    obtain ⟨h1, h2, h3⟩ := powerUp_laws
    rw [coldReset_eq]
    exact ⟨fun _ => h1, fun _ _ => h2, fun _ _ => h3⟩
  cases hb with
  | cold cause => exact hcold cause
  | low => exact .refl _
  | held => exact .refl _
  | reset =>
    obtain ⟨h1, h2, h3⟩ := afterCommand_laws s.engine
    rw [commandReset_eq]
    exact ⟨fun _ => h1, fun _ _ => h2, fun _ _ => h3⟩
  | taken now hhigh ht => exact takes_keeps (s := ({ s with pending := rest } : State).at now) ht

/-! ## The request queue (R101) -/

/-- A queue of at most 8 entries, at most one a line, every AUTO entry ahead of every HOST entry (R101). -/
structure QueueLaw (q : List TestReq) : Prop where
  cap : q.length ≤ 8
  onePerLine : (q.map fun x => x.line).Nodup
  autoFirst : q.Pairwise fun a b => b.auto = true → a.auto = true

theorem lawEight_iff (s : State) : LawEight s ↔ QueueLaw s.engine.queue :=
  ⟨fun h => ⟨h.cap, h.onePerLine, h.autoFirst⟩, fun h => ⟨h.cap, h.onePerLine, h.autoFirst⟩⟩

theorem mem_insertAfterLast {α : Type} (p : α → Bool) (e x : α) (q : List α) : x ∈ insertAfterLast p e q ↔ x = e ∨ x ∈ q := by
  induction q with
  | nil => simp [insertAfterLast]
  | cons y rest ih =>
    unfold insertAfterLast
    split
    · rw [List.mem_cons, ih, List.mem_cons]
      tauto
    · rw [List.mem_cons]

theorem insertAfterLast_perm {α : Type} (p : α → Bool) (e : α) (q : List α) : (insertAfterLast p e q).Perm (e :: q) := by
  induction q with
  | nil => exact .refl _
  | cons y rest ih =>
    unfold insertAfterLast
    split
    · exact (ih.cons y).trans (.swap e y rest)
    · exact .refl _

/-- An entry of a class placed behind the last of its class keeps the class ahead. -/
theorem insertAfterLast_pairwise {α : Type} (p : α → Bool) {e : α} (he : p e = true) {q : List α}
    (h : q.Pairwise fun a b => p b = true → p a = true) : (insertAfterLast p e q).Pairwise fun a b => p b = true → p a = true := by
  induction q with
  | nil => simp [insertAfterLast]
  | cons y rest ih =>
    obtain ⟨hy, hrest⟩ := List.pairwise_cons.mp h
    unfold insertAfterLast
    split
    · next hany =>
      refine List.pairwise_cons.mpr ⟨fun x hx hpx => ?_, ih hrest⟩
      obtain hp | hp := Bool.or_eq_true_iff.mp hany
      · exact hp
      · obtain ⟨z, hz, hpz⟩ := List.any_eq_true.mp hp
        exact hy z hz hpz
    · next hany =>
      refine List.pairwise_cons.mpr ⟨fun x hx hpx => he, h⟩

theorem QueueLaw.tail {q : TestReq} {rest : List TestReq} (h : QueueLaw (q :: rest)) : QueueLaw rest where
  cap := by have := h.cap; simp only [List.length_cons] at this; omega
  onePerLine := (List.nodup_cons.mp h.onePerLine).2
  autoFirst := (List.pairwise_cons.mp h.autoFirst).2

theorem QueueLaw.filter {q : List TestReq} (h : QueueLaw q) (p : TestReq → Bool) : QueueLaw (q.filter p) where
  cap := (List.length_filter_le _ _).trans h.cap
  onePerLine := h.onePerLine.sublist ((List.filter_sublist).map _)
  autoFirst := h.autoFirst.sublist List.filter_sublist

/-- Entries changed in their steps, reports and forces alone. -/
theorem QueueLaw.map {q : List TestReq} (h : QueueLaw q) (f : TestReq → TestReq) (hf : ∀ x, (f x).line = x.line ∧ (f x).auto = x.auto) :
    QueueLaw (q.map f) where
  cap := by rw [List.length_map]; exact h.cap
  onePerLine := by
    have hlines : ((fun x : TestReq => x.line) ∘ f) = fun x => x.line := funext fun x => (hf x).1
    rw [List.map_map, hlines]
    exact h.onePerLine
  autoFirst := by
    rw [List.pairwise_map]
    exact h.autoFirst.imp fun {a b} hab => by rw [(hf a).2, (hf b).2]; exact hab

theorem QueueLaw.placeAuto {q : List TestReq} (h : QueueLaw q) {r : TestReq} (hr : r.auto = true) (hnew : ∀ x ∈ q, x.line ≠ r.line)
    (hroom : q.length < 8) : QueueLaw (placeAutoEntry q r) where
  cap := by rw [placeAutoEntry, insertAfterLast_length]; omega
  onePerLine := by
    have hperm := (insertAfterLast_perm (fun x : TestReq => x.auto) r q).map fun x => x.line
    refine hperm.nodup_iff.mpr (List.nodup_cons.mpr ⟨fun hmem => ?_, h.onePerLine⟩)
    obtain ⟨x, hx, hline⟩ := List.mem_map.mp hmem
    exact hnew x hx hline
  autoFirst := insertAfterLast_pairwise _ hr h.autoFirst

theorem filter_length_lt {q : List TestReq} {x : TestReq} (hx : x ∈ q) {p : TestReq → Bool} (hp : p x = false) :
    (q.filter p).length < q.length := by
  refine lt_of_le_of_ne (List.length_filter_le _ _) fun he => ?_
  have hall := List.length_filter_eq_length_iff.mp he x hx
  rw [hp] at hall
  cases hall

theorem emptyQueue_law (e : Engine) : QueueLaw e.afterCommand.queue := by
  have hempty : e.afterCommand.queue = [] := by
    unfold Engine.afterCommand
    rw [startTimer_eq]
    rfl
  rw [hempty]
  exact ⟨by simp, by simp, by simp⟩

section

variable (s : State) (l : Line)

theorem placeAuto_queueLaw (h : QueueLaw s.engine.queue) : QueueLaw (s.placeAuto l).engine.queue := by
  unfold State.placeAuto
  split
  · exact h
  · split
    · next q hq =>
      have hmem : q ∈ s.engine.queue := List.mem_of_find?_eq_some hq
      have hline : q.line = l := by simpa using List.find?_some hq
      split
      · exact h.map _ fun x => by split <;> exact ⟨rfl, rfl⟩
      · refine (h.filter _).placeAuto (r := { q with auto := true, steps := StepSet.full }) rfl (fun x hx => ?_) ?_
        · have hne := (List.mem_filter.mp hx).2
          simpa [hline] using hne
        · exact (filter_length_lt hmem (by simp [hline])).trans_le h.cap
    · next hq =>
      split
      · exact h
      · next hroom =>
        refine h.placeAuto rfl (fun x hx hline => ?_) (by simpa [Config.testQueueCap] using hroom)
        have hno := List.find?_eq_none.mp hq x hx
        exact hno (by simpa using hline)

theorem fileOwed_queueLaw (h : QueueLaw s.engine.queue) : QueueLaw s.fileOwed.engine.queue := by
  unfold State.fileOwed
  split
  · exact placeAuto_queueLaw _ _ h
  · exact h

theorem serveOwed_queueLaw (h : QueueLaw s.engine.queue) : QueueLaw s.serveOwed.engine.queue := by
  unfold State.serveOwed
  split
  · exact h
  · exact fileOwed_queueLaw s h

theorem popped_queueLaw {q : TestReq} {rest : List TestReq} (hq : s.engine.queue = q :: rest) (h : QueueLaw s.engine.queue) :
    QueueLaw (s.popped rest).engine.queue := by
  rw [hq] at h
  exact serveOwed_queueLaw _ h.tail

theorem fileOwedLoop_queueLaw (n : Nat) (h : QueueLaw s.engine.queue) : QueueLaw (State.fileOwedLoop n s).engine.queue := by
  induction n generalizing s with
  | zero => exact h
  | succ n ih =>
    unfold State.fileOwedLoop
    split
    · exact ih _ (fileOwed_queueLaw s h)
    · exact h

theorem chooseWork_queueLaw (h : QueueLaw s.engine.queue) : QueueLaw s.chooseWork.engine.queue := by
  have hchooses := chooseWork_chooses s
  revert hchooses
  generalize s.chooseWork = t
  intro hchooses
  induction hchooses with
  | suspends s hp => rw [enterSuspended_engine]; exact h
  | runs s q rest hp hq he => rw [runEntry_eq]; exact popped_queueLaw s hq h
  | drops s t q rest hp hq he ht ih => exact ih (by rw [dropTest_engine]; exact popped_queueLaw s hq h)
  | resumes s c hp hq hc hi => rw [resumeSweep_eq]; exact h
  | givesUp s t c hp hq hc hi ht ih => exact ih (by rw [sweepGivenUp_engine]; exact h)
  | sweeps s hp hq hc hd =>
    by_cases hi : (s.line (s.engine.cursor + 1)).hook.state = .idle
    · rw [startSweep_idle s hi]; exact h
    · rw [startSweep_skips s hi]; exact h
  | rests s hp hq hc hd => exact h

theorem requestSuspension_queue : (s.requestSuspension l).engine.queue = s.engine.queue := by
  have habandon : ∀ (u : State) (c : TestCtx), (u.abandon c).engine.queue = u.engine.queue := fun u c => by
    obtain ⟨now, h⟩ := abandon_engine u c
    rw [h]
  obtain ⟨-, h⟩ | ⟨-, h⟩ | ⟨-, ⟨c, -, -, h⟩ | ⟨-, h⟩⟩ := s.requestSuspension_cases l <;> rw [h]
  · rw [enterSuspended_engine]
  · obtain ⟨-, hx⟩ | ⟨-, -, hx⟩ | ⟨-, -, hx⟩ := s.crossInFlight_cases c <;> rw [hx]
    · exact habandon s c
    · exact habandon { s with freeCount := s.freeCount + 1 } c

theorem clearRunning_queue (c : TestCtx) : (s.clearRunning c).engine.queue = s.engine.queue := by
  unfold State.clearRunning
  rw [modEngine_engine, startTimer_eq]
  split <;> rfl

theorem endChosen_queueLaw (u : State) (hu : u.engine.queue = s.engine.queue) (c : TestCtx) (h : QueueLaw s.engine.queue) :
    QueueLaw ((u.clearRunning c).chooseWork.afterCross c).engine.queue := by
  have hchosen : QueueLaw (u.clearRunning c).chooseWork.engine.queue := chooseWork_queueLaw _ (by rwa [clearRunning_queue, hu])
  rw [State.afterCross_eq]
  split
  · rwa [requestSuspension_queue]
  · exact hchosen

theorem phaseDone_queueLaw (c : TestCtx) (b : Bool) (h : QueueLaw s.engine.queue) : QueueLaw (s.phaseDone c b).engine.queue := by
  unfold State.phaseDone State.runningPhaseDone State.steppingPhaseDone
  repeat' split
  · exact endChosen_queueLaw s ((s.disconnect c.line).finishAborted c) (by simp) c h
  · rw [enterSuspended_engine]; exact h
  · exact h
  · exact endChosen_queueLaw s ((s.disconnect c.line).finishDone c) (by simp) c h
  · exact endChosen_queueLaw s ((s.disconnect c.line).finishAborted c) (by simp) c h
  · exact endChosen_queueLaw s ((s.disconnect c.line).finishDone c) (by simp) c h
  · rw [enterSuspended_engine, holdSweep_engine]; exact h
  · exact chooseWork_queueLaw _ (by rw [holdSweep_engine]; exact h)
  · exact h
  · exact h
  · exact h

theorem settleDone_queueLaw (h : QueueLaw s.engine.queue) : QueueLaw s.settleDone.engine.queue := by
  unfold State.settleDone
  repeat' split
  · exact phaseDone_queueLaw s _ _ h
  · exact h
  · exact h

theorem stepDone_queueLaw (a b : Int) (h : QueueLaw s.engine.queue) : QueueLaw (s.stepDone a b).engine.queue := by
  unfold State.stepDone
  repeat' split
  · exact phaseDone_queueLaw s _ _ h
  all_goals exact h

theorem fileAuto_queueLaw (h : QueueLaw s.engine.queue) : QueueLaw (s.fileAuto l).engine.queue := by
  unfold State.fileAuto
  dsimp only
  split
  · exact chooseWork_queueLaw _ (placeAuto_queueLaw s l h)
  · exact placeAuto_queueLaw s l h

/-- A HOST entry placed at the end of a queue with room and no entry of its line (R102). -/
theorem fileHost_queueLaw (steps : StepSet) (force : Bool) (hnew : s.engine.queued l = false)
    (hroom : s.engine.queue.length < Config.testQueueCap) (h : QueueLaw s.engine.queue) :
    QueueLaw (s.fileHost l steps force).engine.queue := by
  have hlines : ∀ x ∈ s.engine.queue, x.line ≠ l := fun x hx hl => by
    have hno := List.any_eq_false.mp hnew x hx
    exact hno (by simpa using hl)
  have hplaced : QueueLaw (s.engine.queue ++ [⟨l, steps, false, true, force⟩]) := by
    refine ⟨?_, ?_, ?_⟩
    · rw [List.length_append]
      exact hroom
    · rw [List.map_append, List.nodup_append]
      refine ⟨h.onePerLine, List.nodup_singleton _, fun a ha b hb => ?_⟩
      obtain ⟨x, hx, rfl⟩ := List.mem_map.mp ha
      obtain rfl := List.mem_singleton.mp hb
      exact hlines x hx
    · rw [List.pairwise_append]
      refine ⟨h.autoFirst, List.pairwise_singleton _ _, fun a _ b hb hauto => ?_⟩
      obtain rfl := List.mem_singleton.mp hb
      cases hauto
  unfold State.fileHost
  dsimp only
  split
  · exact chooseWork_queueLaw _ hplaced
  · exact hplaced

theorem abortTests_queueLaw (h : QueueLaw s.engine.queue) : QueueLaw (s.abortTests l).1.engine.queue := by
  have hrun : QueueLaw (s.abortRunning l).1.engine.queue := by
    unfold State.abortRunning
    repeat' split
    · exact h
    · rw [modEngine_engine, finishAborted_engine]; exact h
    · exact h
    · exact h
  have hqueue : QueueLaw ((s.abortRunning l).1.abortQueued l).1.engine.queue := by
    unfold State.abortQueued
    split
    · exact serveOwed_queueLaw _ (hrun.filter _)
    · exact hrun
  have hsweep : ∀ u : State, QueueLaw u.engine.queue → QueueLaw (u.abortHeldSweep l).1.engine.queue := by
    intro u hu
    unfold State.abortHeldSweep
    repeat' split
    · rw [modEngine_engine, startTimer_eq]
      unfold Engine.fullRemaining
      repeat' split
      all_goals exact hu
    · exact hu
    · exact hu
  exact hsweep _ hqueue

theorem resumeTesting_queueLaw (h : QueueLaw s.engine.queue) : QueueLaw s.resumeTesting.engine.queue := by
  obtain ⟨timer, htimer⟩ := resumeTimer_fields s.engine s.partTime
  have hloop : QueueLaw (State.fileOwedLoop 32 (s.modEngine fun e => { e.resumeTimer s.partTime with state := .idle })).engine.queue :=
    fileOwedLoop_queueLaw _ _ (by rw [modEngine_engine, htimer]; exact h)
  unfold State.resumeTesting State.resumeHeld
  dsimp only
  repeat' split
  · rw [beginTest_engine]; exact hloop
  · exact chooseWork_queueLaw _ (by rw [modEngine_engine, dropTest_engine]; exact hloop)
  · exact chooseWork_queueLaw _ hloop

theorem sweepExpiry_queueLaw (h : QueueLaw s.engine.queue) : QueueLaw s.sweepExpiry.engine.queue := by
  unfold State.sweepExpiry
  dsimp only
  repeat' split
  · exact chooseWork_queueLaw _ h
  · exact h
  · exact h

theorem retestExpiry_queueLaw (h : QueueLaw s.engine.queue) : QueueLaw (s.retestExpiry l).engine.queue := by
  unfold State.retestExpiry
  repeat' split
  · exact h
  · exact fileAuto_queueLaw s l h
  · exact h

theorem powerCross_queue : (s.powerCross l).engine.queue = s.engine.queue := by
  unfold State.powerCross
  split
  · rfl
  all_goals rw [requestSuspension_queue]; simp

theorem dispatchSample_queueLaw (i : Nat) (h : QueueLaw s.engine.queue) : QueueLaw (s.dispatchSample l i).engine.queue := by
  have hrest : ∀ u : State, u.engine = s.engine → QueueLaw (u.restingSample l i).engine.queue := by
    intro u hu
    rw [← hu] at h
    unfold State.restingSample State.restingUpdate
    dsimp only
    repeat' split
    · exact h
    · exact fileAuto_queueLaw _ l (by simpa using h)
    · exact h
  unfold State.dispatchSample State.learningSample
  repeat' split
  · exact h
  · exact hrest _ (endLearning_engine s l)
  · exact hrest s rfl
  · rw [seizingSample_engine]; exact h
  · rw [offHookSample_engine]; exact h
  · rw [breakSample_engine]; exact h
  · exact h
  · exact h

theorem sample_queueLaw (i : Nat) (ov : Bool) (h : QueueLaw s.engine.queue) : QueueLaw (s.sample l i ov).engine.queue := by
  unfold State.sample State.takeSample State.usableSample
  dsimp only
  repeat' split
  · rw [powerCross_queue]; exact h
  · exact h
  · exact dispatchSample_queueLaw _ l _ (by rw [endWindow_engine]; exact h)
  · exact dispatchSample_queueLaw _ l _ h
  · exact h

end

theorem effect_queueLaw {s t : State} (he : Effect s t) (h : QueueLaw s.engine.queue) : QueueLaw t.engine.queue := by
  cases he with
  | nothing => exact h
  | clearLatched l => exact h
  | writeProfile p fields v changed hj => rw [writeProfile_eq]; exact h
  | assignProfile l p => rw [assignProfile_eq]; split <;> exact h
  | takeOut l hin => rw [takeOut_engine]; exact h
  | putIn l hout => exact h
  | moveSlot l t hne hfree => simpa [State.moveSlot, State.markSlotChange] using h
  | setMask l kinds => exact h
  | setClassMap classes m hm => exact h
  | setTone p => exact h
  | setScan setting index =>
    unfold State.setScan
    dsimp only
    split
    · rw [deriveMode_engine]; exact h
    · exact h
  | setSweep on interval steps =>
    rw [modEngine_engine]
    unfold Engine.setSweep Engine.fullRemaining
    simp only [startTimer_eq]
    repeat' split
    all_goals exact h
  | arm l hcall => rw [armCollection_engine]; exact h
  | endCollection l hact => rw [endCollection_engine]; exact h
  | clearBuffer l => exact h
  | mergeHost l steps force =>
    refine h.map _ fun x => ?_
    unfold mergeHost
    split <;> exact ⟨rfl, rfl⟩
  | fileHost l steps force hs hnew hroom => exact fileHost_queueLaw s l steps force hnew hroom h
  | abort l => exact abortTests_queueLaw s l h
  | resume hs => exact resumeTesting_queueLaw s h
  | ack l left => exact h
  | release l hq => exact h
  | reset => exact h

theorem takes_queueLaw {s t : State} (ht : Takes s t) (h : QueueLaw s.engine.queue) : QueueLaw t.engine.queue := by
  cases ht with
  | nothing => exact h
  | frame run hrun =>
    obtain ⟨k, r, hg⟩ | ⟨k, k', n, hg⟩ := goodFrame_eq_run s run <;> rw [hg]
    · exact h
    · have heffect := effect_queueLaw (effect_of_runOf (hrun { s with link := k })) h
      exact heffect
  | badFrame =>
    unfold State.badFrame
    dsimp only
    repeat' split
    · exact h
    · rw [txChoose_engine]; exact h
    · rw [answer_eq]; exact h
  | receive r => exact h
  | turnAway hs => rw [txChoose_engine]; exact h
  | nextFrame f htx => rw [txChoose_engine]; exact h
  | commandReset hr => rw [commandReset_eq]; exact emptyQueue_law _
  | sample l i ov => exact sample_queueLaw s l i ov h
  | firstSync => rw [firstSync_engine]; exact h
  | startReceiver r frame => rw [startReceiver_engine]; exact h
  | blockDone r frames => rw [blockDone_engine]; exact h
  | firstDigitExpiry l => rw [firstDigitExpiry_engine]; exact h
  | endDiallingExpiry l => rw [endDiallingExpiry_engine]; exact h
  | retestExpiry l => exact retestExpiry_queueLaw s l h
  | sweepExpiry => exact sweepExpiry_queueLaw s h
  | readBattery volts => rw [readBattery_engine]; exact h
  | settleDone => exact settleDone_queueLaw s h
  | stepDone a b => exact stepDone_queueLaw s a b h

theorem queueLaw_kept : KeptByArrivals fun s => QueueLaw s.engine.queue where
  pending _ _ h := h
  time _ _ h := h
  cold s cause _ := by rw [coldReset_eq]; exact emptyQueue_law Engine.powerUp
  reset s _ := by rw [commandReset_eq]; exact emptyQueue_law s.engine
  low _ h := h
  takes _ _ _ h ht := takes_queueLaw ht h

/-- Settles O44: each operation of the engine keeps its states, its timer and a waiting request, and files entries by their class. -/
theorem engineStatesTimerAndQueueAreKept : Obligations.EngineStatesTimerAndQueueAreKept := by
  refine ⟨fun s t h ht => (step_keeps ht).consistent h, fun s t h hlaw ht => (step_keeps ht).timer h hlaw, fun s t h ht => ?_,
    fun s t h hw ht => (step_keeps ht).waits h hw⟩
  rw [lawEight_iff] at h ⊢
  exact queueLaw_kept.step h ht

end Sys2Proof.Machine


/-! SUPPORT. The receiver pool: what an assignment, a return and a given-up place make of it, and the rule by which a property of the
seats of the pool, the tap and the test bus is kept by every operation (R68, R73 to R80, R99). -/

namespace Sys2Proof.Machine

/-! ## The seats -/

/-- What the laws of the pool, the tap and the test bus read of a line. -/
structure Seat where
  receiver : Option Rx
  waiting : Bool
  collection : Collection
  mode : DialMode
  onTestBus : Bool
  relayClosed : Bool
  settleEnd : Option Time

/-- A line's part in the pool, its collection, and its part in the test bus. -/
def LineRec.seat (r : LineRec) : Seat :=
  ⟨r.pool.receiver, r.pool.waiting, r.dial.collection, r.dial.mode, r.test.onTestBus, r.test.relayClosed, r.lsu.settleEnd⟩

/-- The pool and the seats of the lines. -/
def State.seats (s : State) : Pool × (Line → Seat) := (s.pool, fun m => (s.line m).seat)

theorem seats_congr {s t : State} (hp : t.pool = s.pool) (hl : ∀ m, (t.line m).seat = (s.line m).seat) : t.seats = s.seats := by
  simp only [State.seats, hp, hl]

theorem pool_of_seats {s t : State} (h : t.seats = s.seats) : t.pool = s.pool := congrArg Prod.fst h
theorem receiver_of_seats {s t : State} (h : t.seats = s.seats) (r : Rx) : t.receiver r = s.receiver r := by
  unfold State.receiver
  rw [pool_of_seats h]
theorem seat_of_seats {s t : State} (h : t.seats = s.seats) (m : Line) : (t.line m).seat = (s.line m).seat :=
  congrFun (congrArg Prod.snd h) m
theorem onTestBus_of_seats {s t : State} (h : t.seats = s.seats) (m : Line) : (t.line m).test.onTestBus = (s.line m).test.onTestBus :=
  congrArg Seat.onTestBus (seat_of_seats h m)

theorem modHeldReceiver_seats_congr {s t : State} (h : t.seats = s.seats) (l : Line) (f : Receiver → Receiver) :
    (t.modHeldReceiver l f).seats = (s.modHeldReceiver l f).seats := by
  have hreceiver : (t.line l).pool.receiver = (s.line l).pool.receiver := congrArg Seat.receiver (seat_of_seats h l)
  cases hr : (s.line l).pool.receiver with
  | none => rw [modHeldReceiver_none hr, modHeldReceiver_none (hreceiver.trans hr), h]
  | some x =>
    rw [modHeldReceiver_some hr, modHeldReceiver_some (hreceiver.trans hr), receiver_of_seats h]
    refine seats_congr ?_ fun m => seat_of_seats h m
    unfold State.setReceiver
    dsimp only
    rw [pool_of_seats h]

section

variable (s : State) (l : Line)

theorem setLine_seats {r : LineRec} (h : r.seat = (s.line l).seat) : (s.setLine l r).seats = s.seats := by
  refine seats_congr rfl fun m => ?_
  by_cases hm : m = l
  · subst hm; rw [line_setLine_self, h]
  · rw [line_setLine_ne _ _ _ hm]

@[simp] theorem modHook_seats (f : HookRec → HookRec) : (s.modHook l f).seats = s.seats := setLine_seats s l rfl
@[simp] theorem modFault_seats (f : FaultRec → FaultRec) : (s.modFault l f).seats = s.seats := setLine_seats s l rfl
@[simp] theorem modProf_seats (f : ProfLine → ProfLine) : (s.modProf l f).seats = s.seats := setLine_seats s l rfl
@[simp] theorem modRep_seats (f : RepLine → RepLine) : (s.modRep l f).seats = s.seats := setLine_seats s l rfl
@[simp] theorem modEngine_seats (f : Engine → Engine) : (s.modEngine f).seats = s.seats := rfl
@[simp] theorem modLink_seats (f : Link → Link) : (s.modLink f).seats = s.seats := rfl
theorem modLsu_seats {f : Lsu → Lsu} (h : (f (s.line l).lsu).settleEnd = (s.line l).lsu.settleEnd) : (s.modLsu l f).seats = s.seats :=
  setLine_seats s l (by simp [LineRec.seat, h])
@[simp] theorem discardPulses_seats : (s.discardPulses l).seats = s.seats := modHook_seats s l _

@[simp] theorem report_seats (c : EventClass) (e : Event) : (s.report c e).seats = s.seats :=
  seats_congr (by simp) fun m => by simp
@[simp] theorem raise_seats (b : LineEvent) : (s.raise l b).seats = s.seats := by
  refine seats_congr (by simp) fun m => ?_
  by_cases hm : m = l
  · subst hm; rw [raise_line_self]; rfl
  · rw [raise_line_ne _ _ _ hm]
@[simp] theorem raiseDevice_seats (b : DeviceEvent) : (s.raiseDevice b).seats = s.seats := report_seats _ _ _

@[simp] theorem joinSticky_seats (k : FaultSet) : (s.joinSticky l k).seats = s.seats := by
  unfold State.joinSticky
  dsimp only
  split
  · exact modFault_seats s l _
  · rw [raise_seats, modFault_seats]

theorem reperiod_settleEnd (u : Lsu) (st : HookState) (mode : ScanMode) (now : Time) : (u.reperiod st mode now).settleEnd = u.settleEnd := by
  unfold Lsu.reperiod
  split <;> rfl

theorem apply_settleEnd (u : Lsu) (st : HookState) (p : Profile) : (u.apply st p).settleEnd = u.settleEnd := by
  cases st <;> rfl

@[simp] theorem reperiodLine_seats : (s.reperiodLine l).seats = s.seats := modLsu_seats s l (reperiod_settleEnd _ _ _ _)
@[simp] theorem rethresholdLine_seats : (s.rethresholdLine l).seats = s.seats := modLsu_seats s l rfl
@[simp] theorem applyProfile_seats : (s.applyProfile l).seats = s.seats :=
  (modLsu_seats _ l (apply_settleEnd _ _ _)).trans (modProf_seats s l _)
@[simp] theorem honourProfile_seats : (s.honourProfile l).seats = s.seats := by
  unfold State.honourProfile
  split
  · simp
  · rfl
@[simp] theorem takeUpProfile_seats : (s.takeUpProfile l).seats = s.seats := by
  unfold State.takeUpProfile
  split
  · exact modHook_seats s l _
  · exact applyProfile_seats s l
@[simp] theorem isolate_seats : (s.isolate l).seats = s.seats := by
  unfold State.isolate
  dsimp only
  rw [reperiodLine_seats, modLsu_seats _ l rfl, modHook_seats]
@[simp] theorem setRetestDue_seats : (s.setRetestDue l).seats = s.seats := modFault_seats s l _
@[simp] theorem enterLearning_seats : (s.enterLearning l).seats = s.seats := by
  unfold State.enterLearning
  dsimp only
  rw [reperiodLine_seats, rethresholdLine_seats, modLsu_seats _ l rfl, modHook_seats]
@[simp] theorem leaveQuarantine_seats : (s.leaveQuarantine l).seats = s.seats := by simp [State.leaveQuarantine]
@[simp] theorem countVerdict_seats (v : FaultSet) : (s.countVerdict l v).seats = s.seats := by
  unfold State.countVerdict
  repeat' split
  all_goals simp

@[simp] theorem placeAuto_seats : (s.placeAuto l).seats = s.seats := by
  obtain h | ⟨q, h, -⟩ | h := placeAuto_cases s l <;> rw [h]
  · rfl
  · exact modFault_seats s l _
@[simp] theorem fileOwed_seats : s.fileOwed.seats = s.seats := by
  unfold State.fileOwed
  split
  · rw [placeAuto_seats, modFault_seats]
  · rfl
@[simp] theorem serveOwed_seats : s.serveOwed.seats = s.seats := by
  unfold State.serveOwed
  split
  · rfl
  · exact fileOwed_seats s
@[simp] theorem popped_seats (rest : List TestReq) : (s.popped rest).seats = s.seats := serveOwed_seats _
@[simp] theorem dropTest_seats (b : Bool) : (s.dropTest l b).seats = s.seats := by
  unfold State.dropTest
  split
  · exact raise_seats s l _
  · rfl
@[simp] theorem enterSuspended_seats : s.enterSuspended.seats = s.seats := rfl
@[simp] theorem storeResult_seats (r : ResultRec) : (s.storeResult r).seats = s.seats := setLine_seats s _ rfl
@[simp] theorem finishAborted_seats (c : TestCtx) : (s.finishAborted c).seats = s.seats := by simp [State.finishAborted]
@[simp] theorem finishAbandoned_seats (c : TestCtx) : (s.finishAbandoned c).seats = s.seats := by
  unfold State.finishAbandoned
  dsimp only
  split <;> simp
@[simp] theorem fileOwedLoop_seats (n : Nat) : (State.fileOwedLoop n s).seats = s.seats := by
  induction n generalizing s with
  | zero => rfl
  | succ n ih =>
    unfold State.fileOwedLoop
    split
    · rw [ih, fileOwed_seats]
    · rfl
@[simp] theorem abortRunning_seats : (s.abortRunning l).1.seats = s.seats := by
  unfold State.abortRunning
  repeat' split
  all_goals simp
@[simp] theorem abortQueued_seats : (s.abortQueued l).1.seats = s.seats := by
  unfold State.abortQueued
  split
  · rw [serveOwed_seats, modEngine_seats]
  · rfl
@[simp] theorem abortHeldSweep_seats : (s.abortHeldSweep l).1.seats = s.seats := by
  unfold State.abortHeldSweep
  repeat' split
  all_goals rfl
@[simp] theorem abortTests_seats : (s.abortTests l).1.seats = s.seats := by simp [State.abortTests]

end

/-! ## Receivers given, returned and given up -/

/-- Of two states, the second is the first with the record `r` for line `l`, whose receiver or wait place has been given back: a
returned receiver becomes FREE or goes to the head of the wait queue, a wait place is taken out (R56, R63, R76, R77). -/
structure PlaceGivenUp (s t : State) (l : Line) (r : LineRec) : Prop where
  rest : t = { s with lines := t.lines, pool := t.pool }
  line : t.line l = { r with pool := ⟨(s.line l).pool.slot, none, false⟩ }
  noReceiver : (s.line l).pool.receiver = none →
    t.pool = { s.pool with waitQueue := s.pool.waitQueue.filter fun e => e.line != l } ∧ ∀ m, m ≠ l → t.line m = s.line m
  freed : ∀ x, (s.line l).pool.receiver = some x → s.pool.waitQueue = [] →
    t.pool = { s.pool with receivers := s.pool.receivers.set x.val none x.isLt } ∧ ∀ m, m ≠ l → t.line m = s.line m
  handedOn : ∀ x e rest, (s.line l).pool.receiver = some x → s.pool.waitQueue = e :: rest →
    t.pool = { s.pool with
      receivers := s.pool.receivers.set x.val (some (s.assigned e.line)) x.isLt
      waitQueue := rest } ∧
    t.line e.line = { s.line e.line with pool := ⟨(s.line e.line).pool.slot, some x, false⟩ } ∧
    ∀ m, m ≠ l → m ≠ e.line → t.line m = s.line m

section

variable {s : State} {l : Line} {r : LineRec}

/-- A line that holds a receiver does not wait (R73). -/
theorem PoolLaws.notWaiting (h : PoolLaws s) {x : Rx} (hx : (s.line l).pool.receiver = some x) : (s.line l).pool.waiting = false := by
  cases hw : (s.line l).pool.waiting with
  | false => rfl
  | true => rw [(h.waitsOnly l hw).1] at hx; cases hx

theorem PoolLaws.notQueued (h : PoolLaws s) (hw : (s.line l).pool.waiting = false) : ∀ e ∈ s.pool.waitQueue, e.line ≠ l := by
  rintro e he rfl
  rw [(h.waits e.line).mpr (List.mem_map_of_mem he)] at hw
  cases hw

theorem PoolLaws.queued (h : PoolLaws s) {e : WaitEntry} (he : e ∈ s.pool.waitQueue) : (s.line e.line).pool.waiting = true :=
  (h.waits e.line).mpr (List.mem_map_of_mem he)

/-- The line has neither receiver nor place: nothing is given back. -/
theorem giveUpReceiver_nothing (hr : (s.line l).pool.receiver = none) (hw : (s.line l).pool.waiting = false) : s.giveUpReceiver l = s := by
  simp [State.giveUpReceiver, hr, hw]

/-- A wait place is taken out of the queue (R77). -/
theorem giveUpReceiver_place (hr : (s.line l).pool.receiver = none) (hw : (s.line l).pool.waiting = true) : s.giveUpReceiver l =
    { s.setLine l { s.line l with pool := ⟨(s.line l).pool.slot, none, false⟩ } with
      pool := { s.pool with waitQueue := s.pool.waitQueue.filter fun e => e.line != l } } := by
  simp only [State.giveUpReceiver, hr, hw, if_true, State.removeWait, State.modPoolLine]
  have hline : ({ s with pool := { s.pool with waitQueue := s.pool.waitQueue.filter fun e => e.line != l } } : State).line l = s.line l := rfl
  rw [hline, hr]
  rfl

/-- A returned receiver that no line waits for is FREE (R76). -/
theorem giveUpReceiver_freed {x : Rx} (hr : (s.line l).pool.receiver = some x) (hq : s.pool.waitQueue = []) : s.giveUpReceiver l =
    (s.setLine l { s.line l with pool := { (s.line l).pool with receiver := none } }).setReceiver x none := by
  have hq' : (s.modPoolLine l fun p => { p with receiver := none }).pool.waitQueue = [] := hq
  simp only [State.giveUpReceiver, hr, State.returnReceiver, hq']
  rfl

/-- The line at the head of the wait queue leaves it with a receiver (R74, R76). -/
theorem handOn_eq (v : State) (m : Line) (rest : List WaitEntry) (x : Rx) :
    ((({ v with pool := { v.pool with waitQueue := rest } } : State).modPoolLine m fun p => { p with waiting := false }).assign x m) =
    { v.setLine m { v.line m with pool := ⟨(v.line m).pool.slot, some x, false⟩ } with
      pool := { v.pool with receivers := v.pool.receivers.set x.val (some (v.assigned m)) x.isLt, waitQueue := rest } } := by
  generalize hu : ({ v with pool := { v.pool with waitQueue := rest } } : State) = u
  have hline : ∀ i, u.line i = v.line i := fun i => by rw [← hu]; rfl
  have hfresh : (u.modPoolLine m fun p => { p with waiting := false }).freshReceiver m = v.assigned m := by
    unfold State.freshReceiver State.assigned
    rw [line_modPoolLine_test, line_modPoolLine_lsu, hline]
  unfold State.assign
  rw [hfresh]
  subst hu
  apply State.ext_fields <;> try rfl
  intro i
  have hright : ∀ p, ({ v.setLine m { v.line m with pool := ⟨(v.line m).pool.slot, some x, false⟩ } with pool := p } : State).line i =
      (v.setLine m { v.line m with pool := ⟨(v.line m).pool.slot, some x, false⟩ }).line i := fun _ => rfl
  rw [hright]
  by_cases hi : i = m
  · subst hi
    rw [line_setLine_self, line_modPoolLine_self, setReceiver_line, line_modPoolLine_self, hline]
  · rw [line_setLine_ne _ _ _ hi, line_modPoolLine_ne _ _ _ hi, setReceiver_line, line_modPoolLine_ne _ _ _ hi, hline]

/-- A returned receiver goes to the head of the wait queue (R76). -/
theorem giveUpReceiver_handedOn {x : Rx} {e : WaitEntry} {rest : List WaitEntry} (hr : (s.line l).pool.receiver = some x)
    (hq : s.pool.waitQueue = e :: rest) (he : e.line ≠ l) : s.giveUpReceiver l =
    { (s.setLine l { s.line l with pool := { (s.line l).pool with receiver := none } }).setLine e.line
        { s.line e.line with pool := ⟨(s.line e.line).pool.slot, some x, false⟩ } with
      pool := { s.pool with receivers := s.pool.receivers.set x.val (some (s.assigned e.line)) x.isLt, waitQueue := rest } } := by
  have hq' : (s.modPoolLine l fun p => { p with receiver := none }).pool.waitQueue = e :: rest := hq
  simp only [State.giveUpReceiver, hr, State.returnReceiver, hq']
  rw [handOn_eq]
  have hline : (s.modPoolLine l fun p => { p with receiver := none }).line e.line = s.line e.line := line_modPoolLine_ne _ _ _ he
  have hassigned : (s.modPoolLine l fun p => { p with receiver := none }).assigned e.line = s.assigned e.line := by
    unfold State.assigned
    rw [hline]
  rw [hline, hassigned]
  rfl

end

section

variable {s : State} {l : Line} {r : LineRec}

/-- What a given-up place makes of the state, of whose line `l` the record may have changed in all but its pool's part. -/
theorem giveUpReceiver_placeGivenUp (h : PoolLaws s) (hp : r.pool = (s.line l).pool) :
    PlaceGivenUp s ((s.setLine l r).giveUpReceiver l) l r := by
  have hself : (s.setLine l r).line l = r := line_setLine_self _ _ _
  have hpool : ((s.setLine l r).line l).pool = (s.line l).pool := by rw [hself, hp]
  have hwaits : (s.line l).pool.waiting = false → (s.pool.waitQueue.filter fun e => e.line != l) = s.pool.waitQueue := fun hw =>
    List.filter_eq_self.mpr fun e he => by simpa using h.notQueued hw e he
  have hempty : (s.line l).pool.receiver = none → (s.line l).pool.waiting = false →
      (s.line l).pool = ⟨(s.line l).pool.slot, none, false⟩ := fun h1 h2 => by rw [← h1, ← h2]
  cases hr : (s.line l).pool.receiver with
  | none =>
    have hr' : ((s.setLine l r).line l).pool.receiver = none := by rw [hpool, hr]
    cases hw : (s.line l).pool.waiting with
    | false =>
      have hw' : ((s.setLine l r).line l).pool.waiting = false := by rw [hpool, hw]
      rw [giveUpReceiver_nothing hr' hw']
      refine ⟨rfl, ?_, fun _ => ⟨by rw [hwaits hw]; rfl, fun m hm => line_setLine_ne _ _ _ hm⟩, fun x hx => ?_, fun x _ _ hx => ?_⟩
      · rw [hself, ← hempty hr hw, ← hp]
      · rw [hr] at hx; cases hx
      · rw [hr] at hx; cases hx
    | true =>
      have hw' : ((s.setLine l r).line l).pool.waiting = true := by rw [hpool, hw]
      rw [giveUpReceiver_place hr' hw', hself, setLine_setLine, hp]
      refine ⟨rfl, line_setLine_self _ _ _, fun _ => ⟨rfl, fun m hm => line_setLine_ne _ _ _ hm⟩, fun x hx => ?_, fun x _ _ hx => ?_⟩
      · rw [hr] at hx; cases hx
      · rw [hr] at hx; cases hx
  | some x =>
    have hw := h.notWaiting hr
    have hr' : ((s.setLine l r).line l).pool.receiver = some x := by rw [hpool, hr]
    have hgiven : ({ r with pool := { r.pool with receiver := none } } : LineRec) =
        { r with pool := ⟨(s.line l).pool.slot, none, false⟩ } := by rw [hp, ← hw]
    cases hq : s.pool.waitQueue with
    | nil =>
      rw [giveUpReceiver_freed hr' hq]
      rw [hself, setLine_setLine, hgiven]
      refine ⟨rfl, line_setLine_self _ _ _, fun hx => ?_, fun y hx _ => ?_, fun y e rest _ hx => ?_⟩
      · rw [hr] at hx; cases hx
      · rw [hr] at hx
        cases hx
        exact ⟨rfl, fun m hm => line_setLine_ne _ _ _ hm⟩
      · rw [hq] at hx; cases hx
    | cons e rest =>
      have he : e.line ≠ l := h.notQueued hw e (by rw [hq]; exact List.mem_cons_self)
      have hline : (s.setLine l r).line e.line = s.line e.line := line_setLine_ne _ _ _ he
      have hassigned : (s.setLine l r).assigned e.line = s.assigned e.line := by
        unfold State.assigned
        rw [hline]
      rw [giveUpReceiver_handedOn hr' hq he, hself, setLine_setLine, hgiven, hline, hassigned]
      refine ⟨rfl, ?_, fun hx => ?_, fun y _ hx => ?_, fun y e' rest' hx hx' => ?_⟩
      · exact (line_setLine_ne _ _ _ he.symm).trans (line_setLine_self _ _ _)
      · rw [hr] at hx; cases hx
      · rw [hq] at hx; cases hx
      · rw [hr] at hx
        rw [hq] at hx'
        cases hx
        cases hx'
        exact ⟨rfl, line_setLine_self _ _ _, fun m hm hme => (line_setLine_ne _ _ _ hme).trans (line_setLine_ne _ _ _ hm)⟩

/-! ## The end of a collection -/

/-- The record of a line whose collection ends, before its pool's part is given back (R63). -/
def LineRec.collectionOver (r : LineRec) : LineRec := { r with
  dial := { r.dial with collection := .inactive, firstDeadline := none, endDeadline := none }
  hook := { r.hook with pulseCount := 0 } }

theorem PlaceGivenUp.ended {t : State} (h : PlaceGivenUp s t l (s.line l).collectionOver) : CollectionEnded s t l :=
  ⟨h.rest, h.line, h.noReceiver, h.freed, h.handedOn⟩

theorem endCollection_active (ha : (s.line l).dial.collection.active = true) :
    s.endCollection l none = (s.setLine l (s.line l).collectionOver).giveUpReceiver l := by
  unfold State.endCollection
  rw [if_pos ha]
  dsimp only
  simp only [State.discardPulses, State.modDial, State.modHook, setLine_setLine, line_setLine_self]
  rfl

theorem endCollection_inactive (ha : (s.line l).dial.collection.active = false) (e : Option LineEvent) :
    s.endCollection l e = s.giveUpReceiver l := by
  unfold State.endCollection
  rw [if_neg (by simp [ha])]

theorem endCollection_event (ha : (s.line l).dial.collection.active = true) (b : LineEvent) :
    s.endCollection l (some b) = (s.endCollection l none).raise l b := by
  unfold State.endCollection
  rw [if_pos ha, if_pos ha]

theorem endCollection_ended (h : PoolLaws s) (ha : (s.line l).dial.collection ≠ .inactive) :
    CollectionEnded s (s.endCollection l none) l := by
  rw [endCollection_active ((active_iff _).mpr ha)]
  exact (giveUpReceiver_placeGivenUp (r := (s.line l).collectionOver) h rfl).ended

theorem endCollection_ended_event (h : PoolLaws s) (ha : (s.line l).dial.collection ≠ .inactive) (b : LineEvent) :
    ∃ u, CollectionEnded s u l ∧ s.endCollection l (some b) = u.raise l b :=
  ⟨_, endCollection_ended h ha, endCollection_event ((active_iff _).mpr ha) b⟩

/-- A consistent line with no collection has nothing of it left. -/
theorem collectionOver_inactive (hr : r.consistent) (ha : r.dial.collection = .inactive) : r.collectionOver = r := by
  have hfirst : r.dial.firstDeadline = none := by
    have := hr.first
    simpa [ha] using this
  have hend : r.dial.endDeadline = none := by
    have := hr.ending
    simpa [ha] using this
  have hpulses : r.hook.pulseCount = 0 := by
    by_contra hn
    exact (hr.pulses (Nat.pos_of_ne_zero hn)).2.2.1 ha
  obtain ⟨lsu, hook, dial, pool, test, fault, prof, rep⟩ := r
  obtain ⟨collection, mode, buffer, truncated, firstDeadline, endDeadline⟩ := dial
  obtain ⟨service, state, runStart, breakStart, makeStart, pulseCount, pendingQuarantine, pendingProfile⟩ := hook
  cases ha
  cases hfirst
  cases hend
  cases hpulses
  rfl

/-- With a consistent record, the end of collection is the same whether collection was active or not. -/
theorem endCollection_ended_of_consistent (h : PoolLaws s) (hr : (s.line l).consistent) :
    CollectionEnded s (s.endCollection l none) l := by
  by_cases ha : (s.line l).dial.collection = .inactive
  · rw [endCollection_inactive (by rw [ha]; rfl)]
    have hgiven := giveUpReceiver_placeGivenUp h (l := l) (r := (s.line l).collectionOver) rfl
    rw [collectionOver_inactive hr ha, setLine_line] at hgiven
    refine PlaceGivenUp.ended ?_
    rwa [collectionOver_inactive hr ha]
  · exact endCollection_ended h ha

end

end Sys2Proof.Machine


/-! SUPPORT. The rule by which a property of the receiver pool, the highway tap and the line on the test bus is kept by every
operation: which single changes it must survive, and every operation as a chain of them (R68, R73 to R80, R99). -/

namespace Sys2Proof.Machine

/-- The line on which a phase is in flight (R99). -/
def Engine.tested (e : Engine) : Option Line := e.running.bind fun c => if c.phase.isSome then some c.line else none

theorem tested_running {e : Engine} {c : TestCtx} (hc : e.running = some c) (hp : c.phase.isSome = true) : e.tested = some c.line := by
  simp [Engine.tested, hc, hp]

theorem tested_held {e : Engine} {c : TestCtx} (hc : e.running = some c) (hp : c.phase = none) : e.tested = none := by
  simp [Engine.tested, hc, hp]

theorem tested_none {e : Engine} (hc : e.running = none) : e.tested = none := by simp [Engine.tested, hc]

theorem tested_congr {e e' : Engine} (h : e'.running = e.running) : e'.tested = e.tested := by simp only [Engine.tested, h]

theorem tested_consistent {e : Engine} (h : EngineConsistent e) (hs : e.state = .idle ∨ e.state = .suspended) : e.tested = none := by
  obtain hs | hs := hs
  · exact tested_none (h.idle hs).1
  · cases hc : e.running with
    | none => exact tested_none hc
    | some c => exact tested_held hc ((h.suspended hs).1 c hc).1

/-- A line's record changes in its collection, mode and what the seat does not hold: collection goes on, and the mode stays, is open
again, or becomes TONE on a line that holds a receiver (R53, R55, R57). -/
structure LineRec.Dials (s : State) (l : Line) (r : LineRec) : Prop where
  seat : r.seat = { (s.line l).seat with collection := r.dial.collection, mode := r.dial.mode }
  active : r.dial.collection ≠ .inactive
  mode : r.dial.mode = (s.line l).dial.mode ∨ r.dial.mode = .undetermined ∨
    r.dial.mode = .tone ∧ ∃ x rec, s.receiver x = some rec ∧ rec.line = l

/-- Nothing is assigned, nothing waits, and no line is on the test bus or in a settle window: what a reset leaves (R82). -/
structure State.Fresh (s : State) : Prop where
  pool : s.pool = Pool.cleared
  seat : ∀ m, (s.line m).seat = ⟨none, false, .inactive, .undetermined, false, false, none⟩

/-- A property of the seats, read with the line that is taken to be on the test bus, survives every single change. With `G` the line on
the bus matters to it. -/
structure SeatClosed (G : Prop) (P : Option Line → State → Prop) : Prop where
  free : ¬ G → ∀ {b b' s}, P b s → P b' s
  fresh : ∀ {s}, s.Fresh → P none s
  apart : ∀ {b s t}, t.seats = s.seats → P b s → P b t
  dials : ∀ {b s l r}, LineRec.Dials s l r → P b s → P b (s.setLine l r)
  requests : ∀ {b s l}, (s.line l).dial.collection ≠ .inactive → (s.line l).dial.mode = .undetermined →
    (s.line l).pool.receiver = none → (s.line l).pool.waiting = false → P b s → P b (s.requestReceiver l)
  givesUp : ∀ {b s l r}, r.pool = (s.line l).pool →
    r.seat = { (s.line l).seat with collection := r.dial.collection, mode := r.dial.mode } → P b s →
    P b ((s.setLine l r).giveUpReceiver l)
  receives : ∀ {b s x rec rec'}, s.receiver x = some rec → rec'.line = rec.line → rec'.held = rec.held →
    (rec'.blockStart = rec.blockStart ∨ rec.held = false ∧ ∃ g, s.pool.grid = some g ∧ rec'.blockStart = some g.frame) → P b s →
    P b (s.setReceiver x (some rec'))
  boundary : ∀ {b s frame}, frame % 100 = 0 → (∀ g, s.pool.grid = some g → g.frame ≤ frame) → P b s → P b (s.reachBoundary frame)
  connects : ∀ {s l}, P none s → P (some l) (s.connect l)
  disconnects : ∀ {s l}, P (some l) s → P none (s.disconnect l)
  resumes : ∀ {b s l}, (s.line l).test.onTestBus = false → P b s →
    P b ((s.modLsu l fun u => { u with settleEnd := none }).resumeReceiver l)

namespace SeatClosed

section

variable {G : Prop} {P : Option Line → State → Prop} (h : SeatClosed G P) {b : Option Line} {s : State} {l : Line}
include h

/-! ## The Digit Collector -/

theorem giveUp (hs : P b s) : P b (s.giveUpReceiver l) := by
  have hgiven := h.givesUp (l := l) (r := s.line l) rfl rfl hs
  rwa [setLine_line] at hgiven

theorem endCollection (e : Option LineEvent) (hs : P b s) : P b (s.endCollection l e) := by
  have hnone : P b (s.endCollection l none) := by
    cases ha : (s.line l).dial.collection.active with
    | true => rw [endCollection_active ha]; exact h.givesUp rfl rfl hs
    | false => rw [endCollection_inactive ha]; exact h.giveUp hs
  cases e with
  | none => exact hnone
  | some e =>
    cases ha : (s.line l).dial.collection.active with
    | true => rw [endCollection_event ha]; exact h.apart (raise_seats _ _ _) hnone
    | false => rw [endCollection_inactive ha]; exact h.giveUp hs

theorem request (ha : (s.line l).dial.collection ≠ .inactive) (hm : (s.line l).dial.mode = .undetermined) (hs : P b s) :
    P b (s.requestReceiver l) := by
  by_cases hidle : (s.line l).pool.receiver = none ∧ (s.line l).pool.waiting = false
  · exact h.requests ha hm hidle.1 hidle.2 hs
  · have hbusy : ((s.line l).pool.receiver.isSome || (s.line l).pool.waiting) = true := by
      cases hr : (s.line l).pool.receiver <;> simp_all
    rw [State.requestReceiver, if_pos hbusy]
    exact hs

theorem arm (hs : P b s) : P b (s.armCollection l) := by
  unfold State.armCollection
  dsimp only
  generalize hu : (if (s.line l).dial.collection.active then s.discardPulses l else s) = u
  have hseats : P b u := by
    rw [← hu]
    split
    · exact h.apart (discardPulses_seats s l) hs
    · exact hs
  have harmed : P b (u.modDial l fun d =>
      { d with buffer := [], truncated := false, mode := .undetermined, collection := .waitFirst,
               firstDeadline := some (s.deadlineIn (s.working l).firstDigitTimeout), endDeadline := none }) :=
    h.dials ⟨rfl, nofun, .inr (.inl rfl)⟩ hseats
  unfold State.receiverStep
  split
  · exact harmed
  · exact h.request (by simp) (by simp) harmed
  · exact h.request (by simp) (by simp) harmed

theorem collectFlash (hs : P b s) : P b (s.collectFlash l) := by
  unfold State.collectFlash
  dsimp only
  repeat' split
  · exact hs
  · exact h.apart (setLine_seats s l rfl) hs
  · exact h.apart (setLine_seats s l rfl) hs
  · exact h.endCollection _ (h.apart (setLine_seats s l rfl) hs)
  · exact hs

theorem fixMode (m : Method) (ha : (s.line l).dial.collection ≠ .inactive)
    (hm : m = .tone → ∃ x rec, s.receiver x = some rec ∧ rec.line = l) (hs : P b s) : P b (s.fixMode l m) := by
  unfold State.fixMode
  split
  · exact h.givesUp rfl rfl hs
  · exact h.apart (discardPulses_seats _ l) (h.dials ⟨rfl, ha, .inr (.inr ⟨rfl, hm rfl⟩)⟩ hs)
  · exact hs
  · exact hs

theorem collectDigit (k : Key) (m : Method) (hm : m = .tone → ∃ x rec, s.receiver x = some rec ∧ rec.line = l) (hs : P b s) :
    P b (s.collectDigit l k m) := by
  unfold State.collectDigit
  dsimp only
  split
  · next hcan =>
    have ha := (active_iff _).mp (Bool.and_eq_true_iff.mp hcan).1
    split
    · unfold State.takeDigit
      dsimp only
      have hfixed := h.fixMode m ha hm hs
      refine h.dials (l := l) ⟨?_, nofun, .inl rfl⟩ (h.apart (raise_seats _ _ _) (h.apart (setLine_seats _ l rfl) hfixed))
      rfl
    · exact h.endCollection _ (h.apart (setLine_seats s l rfl) hs)
  · exact hs

theorem firstDigitExpiry (hs : P b s) : P b (s.firstDigitExpiry l) := by
  unfold State.firstDigitExpiry
  split
  · exact h.endCollection _ hs
  · exact hs

theorem endDiallingExpiry (hs : P b s) : P b (s.endDiallingExpiry l) := by
  unfold State.endDiallingExpiry
  split
  · exact h.endCollection _ hs
  · exact hs

/-! ## The tap -/

omit h in
theorem onGrid_frame {g : Boundary} {frame : Nat} {now : Time} (hg : onGrid g frame now = true) : frame % 100 = 0 ∧ g.frame ≤ frame := by
  simp only [onGrid, Bool.and_eq_true, Bool.or_eq_true, beq_iff_eq, decide_eq_true_eq] at hg
  omega

theorem firstSync (hs : P b s) : P b s.firstSync := by
  unfold State.firstSync
  split
  · exact hs
  · next hg => exact h.boundary rfl (fun g hg' => by rw [hg] at hg'; cases hg') hs

theorem startReceiver (x : Rx) (frame : Nat) (hs : P b s) : P b (s.startReceiver x frame) := by
  unfold State.startReceiver
  split
  · next g rec hg hrec =>
    split
    · exact hs
    · next hcan =>
      simp only [Bool.or_eq_true, Bool.not_eq_true', not_or, Bool.not_eq_true, Bool.not_eq_false] at hcan
      obtain ⟨⟨-, hheld⟩, hgrid⟩ := hcan
      obtain ⟨h100, hle⟩ := onGrid_frame hgrid
      refine h.receives (rec := rec) hrec rfl rfl (.inr ⟨hheld, _, rfl, rfl⟩) (h.boundary h100 (fun g' hg' => ?_) hs)
      rw [hg] at hg'
      cases hg'
      exact hle
  · exact hs

theorem completeBlock (x : Rx) (rec : Receiver) (frames : List HighwayFrame)
    (hset : ∀ mark d, P b (s.setReceiver x (some { rec with slotChange := mark, detector := d }))) : P b (s.completeBlock x rec frames) := by
  unfold State.completeBlock State.moveDetector
  generalize s.classifyBlock rec.line frames = block
  dsimp only
  repeat' split
  · exact hset _ _
  · exact h.collectDigit _ _ (fun _ => ⟨x, _, receiver_setReceiver_self _ _ _, rfl⟩) (hset _ _)
  · exact hset _ _

theorem blockDone (x : Rx) (frames : List HighwayFrame) (hs : P b s) : P b (s.blockDone x frames) := by
  unfold State.blockDone
  split
  · next g rec hg hrec =>
    split
    · next f hf =>
      split
      · next hcan =>
        simp only [Bool.and_eq_true, Bool.not_eq_true'] at hcan
        obtain ⟨⟨hheld, -⟩, hgrid⟩ := hcan
        obtain ⟨h100, hle⟩ := onGrid_frame hgrid
        generalize f + 100 = f at *
        have hreached : P b (s.reachBoundary f) := h.boundary h100 (fun g' hg' => by rw [hg] at hg'; cases hg'; exact hle) hs
        exact h.completeBlock _ _ _ fun _ _ => h.receives (rec := rec) hrec rfl rfl (.inr ⟨hheld, _, rfl, rfl⟩) hreached
      · exact hs
    · exact hs
  · exact hs

/-! ## The Fault Supervisor -/

theorem enterQuarantine (hs : P b s) : P b (s.enterQuarantine l) := by
  have hraised : P b ((s.isolate l).raise l .quarantined) := h.apart (by rw [raise_seats, isolate_seats]) hs
  refine h.apart ?_ (h.endCollection (l := l) none hraised)
  unfold State.enterQuarantine
  rw [setRetestDue_seats, modFault_seats, honourProfile_seats]

theorem takeVerdict (v : FaultSet) (hs : P b s) : P b (s.takeVerdict l v) := by
  have hjoin : P b (s.joinSticky l v) := h.apart (joinSticky_seats s l v) hs
  have hact : P b ((s.joinSticky l v).actOnVerdict l v) := by
    unfold State.actOnVerdict
    split
    · exact hjoin
    · split
      · exact h.enterQuarantine hjoin
      · exact h.enterQuarantine hjoin
      · exact h.apart (modHook_seats _ _ _) hjoin
      · exact h.apart (modHook_seats _ _ _) hjoin
      · exact h.apart (modHook_seats _ _ _) hjoin
      · exact hjoin
      · exact hjoin
  unfold State.takeVerdict
  dsimp only
  split
  · exact h.apart (countVerdict_seats _ _ _) hjoin
  all_goals exact hact

theorem finishDone (c : TestCtx) (hs : P b s) : P b (s.finishDone c) := by
  unfold State.finishDone
  dsimp only
  have htaken := h.takeVerdict (l := c.line) (verdictOf c.values (s.working c.line)) hs
  split
  · exact h.apart (by rw [raise_seats, storeResult_seats]) htaken
  · exact h.apart (storeResult_seats _ _) htaken

/-! ## The Line Test Engine -/

/-- A test begins on a free bus. -/
theorem begins {t : State} (hs : P none s) (c : TestCtx) (hseats : t.seats = (s.connect c.line).seats) (ht : t.engine.running = some c)
    (hp : c.phase.isSome = true) : P t.engine.tested t := by
  rw [tested_running ht hp]
  exact h.apart hseats (h.connects hs)

theorem beginTest (c : TestCtx) (st : EngineState) (hs : P none s) : P (s.beginTest c st).engine.tested (s.beginTest c st) := by
  refine h.begins (c := c.settling s.partTime) hs ?_ ?_ rfl
  · rw [beginTest_eq, connect_eq]
    rfl
  · rw [beginTest_engine]

/-- With no phase in flight the engine has no line on the bus. -/
theorem toTested {t : State} (hr : G → t.engine.tested = none) (ht : P none t) : P t.engine.tested t := by
  by_cases hg : G
  · rwa [hr hg]
  · exact h.free hg ht

theorem chooses {t : State} (hc : Chooses s t) (hr : G → s.engine.running = none) (hs : P none s) : P t.engine.tested t := by
  induction hc with
  | suspends s hp =>
    refine h.toTested (fun g => tested_none ?_) (h.apart (enterSuspended_seats s) hs)
    rw [enterSuspended_engine, hr g]
  | runs s q rest hp hq he => exact h.beginTest _ _ (h.apart (popped_seats s rest) hs)
  | drops s t q rest hp hq he ht ih =>
    refine ih (fun g => ?_) (h.apart (by rw [dropTest_seats, popped_seats]) hs)
    obtain ⟨q', hq'⟩ := popped_engine s rest
    rw [dropTest_engine, hq', hr g]
  | resumes s c hp hq hc hi => exact h.beginTest _ _ (h.apart (modEngine_seats s _) hs)
  | givesUp s t c hp hq hc hi ht ih =>
    refine ih (fun g => ?_) (h.apart (by rw [sweepGivenUp_eq]; rfl) hs)
    rw [sweepGivenUp_engine, hr g]
  | sweeps s hp hq hc hd =>
    unfold State.startSweep
    dsimp only
    split
    · exact h.beginTest _ _ (h.apart (modEngine_seats s _) hs)
    · refine h.toTested (fun g => tested_none ?_) (h.apart ((modEngine_seats _ _).trans (modEngine_seats s _)) hs)
      rw [modEngine_engine, startTimer_eq]
      exact hr g
  | rests s hp hq hc hd => exact h.toTested (fun g => tested_none (hr g)) (h.apart (modEngine_seats s _) hs)

theorem chooseWork (hr : G → s.engine.running = none) (hs : P none s) : P s.chooseWork.engine.tested s.chooseWork :=
  h.chooses (chooseWork_chooses s) hr hs

/-- An engine with no phase in flight, IDLE or SUSPENDED. -/
theorem ofResting (hcon : G → EngineConsistent s.engine) (hst : s.engine.state = .idle ∨ s.engine.state = .suspended)
    (hs : P s.engine.tested s) : P none s := by
  by_cases hg : G
  · rwa [tested_consistent (hcon hg) hst] at hs
  · exact h.free hg hs

/-- An engine that is IDLE chooses its work, after a change of its queue or of the sweep. -/
theorem idleChooses {t : State} (hcon : G → EngineConsistent s.engine) (hseats : t.seats = s.seats)
    (hrun : t.engine.running = s.engine.running) (hst : t.engine.state = s.engine.state) (hs : P s.engine.tested s) :
    P (if t.engine.state = .idle then t.chooseWork else t).engine.tested (if t.engine.state = .idle then t.chooseWork else t) := by
  split
  · next hi =>
    rw [hst] at hi
    refine h.chooseWork (fun g => ?_) (h.apart hseats (h.ofResting hcon (.inl hi) hs))
    rw [hrun]
    exact ((hcon g).idle hi).1
  · rw [tested_congr hrun]
    exact h.apart hseats hs

theorem fileAuto (hcon : G → EngineConsistent s.engine) (hs : P s.engine.tested s) : P (s.fileAuto l).engine.tested (s.fileAuto l) := by
  obtain ⟨q, hq⟩ := placeAuto_engine s l
  exact h.idleChooses hcon (placeAuto_seats s l) (by rw [hq]) (by rw [hq]) hs

theorem fileHost (steps : StepSet) (force : Bool) (hcon : G → EngineConsistent s.engine) (hs : P s.engine.tested s) :
    P (s.fileHost l steps force).engine.tested (s.fileHost l steps force) :=
  h.idleChooses (t := s.modEngine _) hcon rfl rfl rfl hs

theorem sweepExpiry (hcon : G → EngineConsistent s.engine) (hs : P s.engine.tested s) : P s.sweepExpiry.engine.tested s.sweepExpiry := by
  unfold State.sweepExpiry
  split
  · exact h.idleChooses (t := s.modEngine _) hcon rfl rfl rfl hs
  · exact hs

theorem abandon (c : TestCtx) (hs : P (some c.line) s) : P (s.abandon c).engine.tested (s.abandon c) := by
  obtain ⟨now, he⟩ := abandon_engine s c
  have hseats : (s.abandon c).seats = (s.disconnect c.line).seats := by
    unfold State.abandon
    dsimp only
    split
    · rw [modEngine_seats, enterSuspended_seats, modEngine_seats, finishAbandoned_seats]
    · rw [enterSuspended_seats, modEngine_seats, finishAbandoned_seats]
  rw [he, tested_none rfl]
  exact h.apart hseats (h.disconnects hs)

theorem requestSuspension (hcon : G → EngineConsistent s.engine) (hs : P s.engine.tested s) :
    P (s.requestSuspension l).engine.tested (s.requestSuspension l) := by
  have hflight : s.engine.state = .running ∨ s.engine.state = .stepping → P (s.suspendInFlight l).engine.tested (s.suspendInFlight l) := by
    intro hst
    unfold State.suspendInFlight
    split
    · next c hc =>
      split
      · have hline : P (some c.line) s := by
          by_cases hg : G
          · obtain ⟨c', hc', hp⟩ := state_inFlight (hcon hg) hst
            rw [hc] at hc'
            cases hc'
            rwa [tested_running hc hp] at hs
          · exact h.free hg hs
        unfold State.crossInFlight
        dsimp only
        have hcount : P (some c.line) { s with freeCount := s.freeCount + 1 } := h.apart (s := s) rfl hline
        repeat' split
        · rw [modEngine_engine, show Engine.tested { s.engine with running := some { c with crossed := true } } = s.engine.tested by
            simp [Engine.tested, hc]]
          exact h.apart (s := s) rfl hs
        · exact h.abandon c hcount
        · exact h.abandon c hline
      · exact h.apart (modEngine_seats s _) hs
    · exact h.apart (modEngine_seats s _) hs
  unfold State.requestSuspension
  split
  · exact hs
  · rw [enterSuspended_engine]
    exact h.apart (enterSuspended_seats s) hs
  · next hst => exact hflight (.inl hst)
  · next hst => exact hflight (.inr hst)

/-! ### The end of a phase -/

theorem afterCross (c : TestCtx) (hcon : G → EngineConsistent s.engine) (hs : P s.engine.tested s) :
    P (s.afterCross c).engine.tested (s.afterCross c) := by
  unfold State.afterCross
  split
  · exact h.requestSuspension hcon hs
  · exact hs

/-- A test leaves the bus, its context is emptied, and the engine chooses its work. -/
theorem leaves {u : State} (c : TestCtx) (hu : P none u) :
    P (((u.clearRunning c).chooseWork).afterCross c).engine.tested (((u.clearRunning c).chooseWork).afterCross c) := by
  have hnone : (u.clearRunning c).engine.running = none := by
    unfold State.clearRunning
    rw [modEngine_engine]
    split <;> rfl
  exact h.afterCross c (fun _ => (chooses_consistent (chooseWork_chooses _) hnone).1)
    (h.chooseWork (fun _ => hnone) (h.apart (modEngine_seats u _) hu))

theorem endDone (c : TestCtx) (hs : P (some c.line) s) : P (s.endDone c).engine.tested (s.endDone c) :=
  h.leaves c (h.finishDone c (h.disconnects hs))

theorem endAborted (c : TestCtx) (hs : P (some c.line) s) : P (s.endAborted c).engine.tested (s.endAborted c) :=
  h.leaves c (h.apart (finishAborted_seats _ c) (h.disconnects hs))

theorem holdSweep (c : TestCtx) (hs : P (some c.line) s) : P none (s.holdSweep c) :=
  h.apart (modEngine_seats _ _) (h.disconnects hs)

theorem phaseDone (c : TestCtx) (wasStep : Bool) (hrun : s.engine.tested = some c.line) (hs : P s.engine.tested s) :
    P (s.phaseDone c wasStep).engine.tested (s.phaseDone c wasStep) := by
  have hline : P (some c.line) s := hrun ▸ hs
  have hstep : ∀ p, P (s.beginStep c p).engine.tested (s.beginStep c p) := fun p => by
    rw [tested_running (e := (s.beginStep c p).engine) rfl rfl]
    exact h.apart (modEngine_seats s _) hline
  unfold State.phaseDone
  split
  · unfold State.runningPhaseDone
    repeat' split
    · exact h.endAborted c hline
    · rw [enterSuspended_engine, tested_held (c := { c with phase := none }) rfl rfl]
      exact h.apart ((enterSuspended_seats _).trans (modEngine_seats _ _)) (h.disconnects hline)
    · exact hstep _
    · exact h.endDone c hline
  · unfold State.steppingPhaseDone
    repeat' split
    · exact h.endAborted c hline
    · exact h.endDone c hline
    · rw [enterSuspended_engine, tested_none rfl]
      exact h.apart (enterSuspended_seats _) (h.holdSweep c hline)
    · exact h.chooseWork (fun _ => rfl) (h.holdSweep c hline)
    · exact hstep _
  · exact hs
  · exact hs

theorem settleDone (hs : P s.engine.tested s) : P s.settleDone.engine.tested s.settleDone := by
  unfold State.settleDone
  repeat' split
  · next c hc hp => exact h.phaseDone c false (tested_running hc (by rw [hp]; rfl)) hs
  · exact hs
  · exact hs

theorem stepDone (a b : Int) (hs : P s.engine.tested s) : P (s.stepDone a b).engine.tested (s.stepDone a b) := by
  unfold State.stepDone
  split
  · next c hc =>
    split
    · next q d hp =>
      have htested : s.engine.tested = some c.line := tested_running hc (by rw [hp]; rfl)
      split
      · exact h.phaseDone _ true htested hs
      · exact hs
    · exact hs
    · exact hs
  · exact hs

/-! ### Abort and resumption -/

omit h in
theorem abortTests_tested : (s.abortTests l).1.engine.tested = s.engine.tested := by
  have hrunning : (s.abortRunning l).1.engine.tested = s.engine.tested := by
    unfold State.abortRunning
    split
    · next c hc =>
      repeat' split
      · next hp =>
        rw [modEngine_engine, tested_running hc hp]
        exact tested_running (c := { c with abortRequested := true }) rfl hp
      · next hp =>
        rw [modEngine_engine, tested_held hc (by simpa using hp)]
        exact tested_none rfl
      · rfl
    · rfl
  have hqueued : ∀ u : State, (u.abortQueued l).1.engine.running = u.engine.running := fun u => by
    unfold State.abortQueued
    split
    · obtain ⟨q, hq⟩ := serveOwed_engine (u.modEngine fun e => { e with queue := e.queue.filter fun q => q.line != l })
      rw [hq]
      rfl
    · rfl
  have hheld : ∀ u : State, (u.abortHeldSweep l).1.engine.running = u.engine.running := fun u => by
    unfold State.abortHeldSweep
    split
    · split
      · rw [modEngine_engine]
        split
        · unfold Engine.fullRemaining
          split <;> rfl
        · rw [startTimer_eq]
      · rfl
    · rfl
  unfold State.abortTests
  dsimp only
  rw [tested_congr (hheld _), tested_congr (hqueued _), hrunning]

theorem abortTests (hs : P s.engine.tested s) : P (s.abortTests l).1.engine.tested (s.abortTests l).1 := by
  rw [abortTests_tested]
  exact h.apart (abortTests_seats s l) hs

theorem resumeTesting (hst : s.engine.state = .suspended) (hcon : G → EngineConsistent s.engine) (hs : P s.engine.tested s) :
    P s.resumeTesting.engine.tested s.resumeTesting := by
  obtain ⟨u, hu⟩ : ∃ u, u = State.fileOwedLoop 32 (s.modEngine fun e => { e.resumeTimer s.partTime with state := .idle }) := ⟨_, rfl⟩
  have hseats : P none u := by
    refine h.apart ?_ (h.ofResting hcon (.inr hst) hs)
    rw [hu, fileOwedLoop_seats, modEngine_seats]
  unfold State.resumeTesting
  dsimp only
  rw [← hu]
  unfold State.resumeHeld
  split
  · split
    · exact h.beginTest _ _ hseats
    · refine h.chooseWork (fun _ => rfl) (h.apart ?_ hseats)
      rw [modEngine_seats, dropTest_seats]
  · next hc => exact h.chooseWork (fun _ => hc) hseats

/-! ## Samples -/

theorem powerCross (hcon : G → EngineConsistent s.engine) (hs : P s.engine.tested s) :
    P (s.powerCross l).engine.tested (s.powerCross l) := by
  have hreport : ∀ b, P b s → P b ((s.joinSticky l FaultSet.px).raise l .powerCross) := fun b =>
    h.apart (by rw [raise_seats, joinSticky_seats])
  have hlast : ∀ u : State, u.engine = s.engine → (∀ b, P b s → P b u) → P (u.requestSuspension l).engine.tested (u.requestSuspension l) :=
    fun u hu hp => h.requestSuspension (by rwa [hu]) (by rw [hu]; exact hp _ hs)
  unfold State.powerCross
  split
  · exact hs
  · exact hlast _ (by simp) fun b hb => h.apart (modFault_seats _ _ _) (hreport b hb)
  all_goals exact hlast _ (by simp) fun b hb => h.enterQuarantine (hreport b hb)

theorem returnToIdle (hs : P b s) : P b (s.returnToIdle l) := by
  unfold State.returnToIdle
  dsimp only
  have hperiod : P b ((s.rethresholdLine l).reperiodLine l) := h.apart (by rw [reperiodLine_seats, rethresholdLine_seats]) hs
  split
  · exact h.enterQuarantine (h.apart (modHook_seats _ _ _) hperiod)
  · exact h.apart (honourProfile_seats _ l) hperiod

theorem closeIf (due : Bool) (hs : P b s) : P b (s.closeIf l due) := by
  unfold State.closeIf State.closeDigit
  dsimp only
  repeat' split
  · exact h.collectDigit _ _ nofun (h.apart (discardPulses_seats s l) hs)
  · exact h.apart (by rw [raise_seats, discardPulses_seats]) hs
  · exact hs

theorem seizingSample (i : Nat) (hs : P b s) : P b (s.seizingSample l i) := by
  unfold State.seizingSample
  repeat' split
  · unfold State.declareOffHook State.offHookNotice
    dsimp only
    have hoff : P b ((s.modHook l fun h => { h with state := .offHook, runStart := none, makeStart := none, pulseCount := 0 }).raise
        l .offHook) := h.apart (by rw [raise_seats, modHook_seats]) hs
    split
    · exact h.arm hoff
    · exact hoff
  · exact hs
  · exact h.returnToIdle (h.apart (modHook_seats _ _ _) hs)

theorem offHookSample (i : Nat) (hs : P b s) : P b (s.offHookSample l i) := by
  unfold State.offHookSample
  dsimp only
  split
  · exact h.apart (modHook_seats _ _ _) (h.closeIf _ hs)
  · exact h.closeIf _ hs

theorem breakSample (i : Nat) (hs : P b s) : P b (s.breakSample l i) := by
  unfold State.breakSample
  dsimp only
  repeat' split
  · unfold State.release
    dsimp only
    exact h.returnToIdle (h.apart (modHook_seats _ _ _) (h.endCollection none (h.apart (raise_seats _ _ _) (h.closeIf _ hs))))
  · unfold State.make State.classifyBreak
    dsimp only
    have hmade : P b ((s.closeIf l (decide ((s.working l).pulseMax < s.since (s.line l).hook.breakStart))).modHook l fun h =>
        { h with state := .offHook, breakStart := none }) := h.apart (modHook_seats _ _ _) (h.closeIf _ hs)
    repeat' split
    · exact hmade
    · exact h.apart (modHook_seats _ _ _) hmade
    · exact h.apart (modHook_seats _ _ _) hmade
    · exact h.collectFlash (h.apart (by rw [raise_seats]; exact modHook_seats _ _ _) hmade)
  · exact h.closeIf _ hs

theorem restingSample (i : Nat) (hcon : G → EngineConsistent s.engine) (hs : P s.engine.tested s) :
    P (s.restingSample l i).engine.tested (s.restingSample l i) := by
  unfold State.restingSample
  split
  · unfold State.seize
    dsimp only
    exact h.apart (by rw [reperiodLine_seats, modLsu_seats _ l rfl, modHook_seats]) hs
  · unfold State.restingUpdate
    dsimp only
    split
    · unfold State.leakageSuspicion
      refine h.fileAuto (by simpa using hcon) ?_
      rw [raise_engine, joinSticky_engine, modLsu_engine]
      refine h.apart ?_ hs
      rw [raise_seats, joinSticky_seats]
      exact modLsu_seats s l rfl
    · refine h.apart (modLsu_seats s l ?_) hs
      unfold Lsu.judgeClamp
      repeat' split
      all_goals rfl

theorem dispatchSample (i : Nat) (hcon : G → EngineConsistent s.engine) (hs : P s.engine.tested s) :
    P (s.dispatchSample l i).engine.tested (s.dispatchSample l i) := by
  unfold State.dispatchSample
  split
  · unfold State.learningSample
    split
    · exact h.apart (modLsu_seats s l rfl) hs
    · refine h.restingSample i hcon (h.apart ?_ hs)
      unfold State.endLearning
      rw [reperiodLine_seats, modLsu_seats _ l rfl, modHook_seats]
  · exact h.restingSample i hcon hs
  · rw [seizingSample_engine]
    exact h.seizingSample i hs
  · rw [offHookSample_engine]
    exact h.offHookSample i hs
  · rw [breakSample_engine]
    exact h.breakSample i hs
  · exact hs
  · exact hs

theorem endWindow (hbus : (s.line l).test.onTestBus = false) (hs : P b s) : P b (s.endWindow l) := by
  exact h.apart (modHeldReceiver_seats_congr (modHook_seats _ _ _) _ _) (h.resumes hbus hs)

theorem sample (i : Nat) (ov : Bool) (hcon : G → EngineConsistent s.engine) (hs : P s.engine.tested s) :
    P (s.sample l i ov).engine.tested (s.sample l i ov) := by
  unfold State.sample State.takeSample
  dsimp only
  split
  · have heval : ∀ b, P b s → P b ((s.recordSample l (min i 1200) ov).modLsu l fun _ =>
        (((s.recordSample l (min i 1200) ov).line l).lsu.evalOv ov).1) := fun b hb => by
      refine h.apart ?_ hb
      rw [modLsu_seats, State.recordSample, modLsu_seats _ l rfl]
      unfold Lsu.evalOv
      repeat' split
      all_goals rfl
    split
    · exact h.powerCross hcon (heval _ hs)
    · unfold State.usableSample
      repeat' split
      · exact heval _ hs
      · next hset _ =>
        simp only [Bool.or_eq_true, not_or, Bool.not_eq_true] at hset
        refine h.dispatchSample _ (by simpa using hcon) ?_
        rw [endWindow_engine]
        exact h.endWindow hset.1 (heval _ hs)
      · exact h.dispatchSample _ hcon (heval _ hs)
  · exact hs

theorem retestExpiry (hcon : G → EngineConsistent s.engine) (hs : P s.engine.tested s) :
    P (s.retestExpiry l).engine.tested (s.retestExpiry l) := by
  unfold State.retestExpiry
  repeat' split
  · exact h.apart (setRetestDue_seats _ _) hs
  · rw [setRetestDue_engine]
    exact h.apart (setRetestDue_seats _ _) (h.fileAuto hcon hs)
  · exact hs

/-! ## Commands, arrivals and steps -/

omit h in
theorem setReceiver_receiver (s : State) (x : Rx) : s.setReceiver x (s.receiver x) = s := by
  have hset : s.pool.receivers.set x.val (s.receiver x) x.isLt = s.pool.receivers := Vector.set_getElem_self _
  unfold State.setReceiver
  rw [hset]

omit h in
theorem takenUp_seat (r : LineRec) (v : Profile) : (r.takenUp v).seat = r.seat := by
  unfold LineRec.takenUp
  split
  · rfl
  · rfl

omit h in
theorem writeProfile_seats (s : State) (p : ProfNo) (v : Profile) : (s.writeProfile p v).seats = s.seats := by
  rw [writeProfile_eq]
  refine seats_congr (s := s) ?_ fun m => ?_
  · generalize Vector.ofFn _ = lines
    rfl
  · rw [line_withLines]
    split
    · exact takenUp_seat _ _
    · rfl

omit h in
theorem writeProfile_engine (s : State) (p : ProfNo) (v : Profile) : (s.writeProfile p v).engine = s.engine := by
  rw [writeProfile_eq]

omit h in
theorem setSweep_running_same (e : Engine) (on : Bool) (interval : Nat) (steps : StepSet) (now : Time) :
    (e.setSweep on interval steps now).running = e.running := by
  have hfull : ∀ x : Engine, x.fullRemaining.running = x.running := fun x => by
    unfold Engine.fullRemaining
    split <;> rfl
  have hstart : ∀ x : Engine, (x.startTimer now).running = x.running := fun x => by rw [startTimer_eq]
  unfold Engine.setSweep
  dsimp only
  repeat' split
  all_goals simp only [hfull, hstart]

omit h in
theorem deriveMode_seats (s : State) : s.deriveMode.seats = s.seats := by
  unfold State.deriveMode
  dsimp only
  split
  · rfl
  · rw [raiseDevice_seats]
    refine seats_congr (by rw [State.reperiodAll, State.modEveryLsu]) fun m => ?_
    rw [reperiodAll_line]
    simp only [LineRec.seat, reperiod_settleEnd]

omit h in
theorem readBattery_seats (s : State) (v : Nat) : (s.readBattery v).seats = s.seats := by
  unfold State.readBattery
  dsimp only
  repeat' split
  · rw [deriveMode_seats, raiseDevice_seats]
    rfl
  · rfl
  · rfl

theorem moveSlot (t : Timeslot) (hs : P b s) : P b (s.moveSlot l t) := by
  unfold State.moveSlot State.markSlotChange
  have hmoved : P b (s.modPoolLine l fun p => { p with slot := t }) := h.apart (setLine_seats s l rfl) hs
  cases hr : ((s.modPoolLine l fun p => { p with slot := t }).line l).pool.receiver with
  | none => rwa [modHeldReceiver_none hr]
  | some x =>
    rw [modHeldReceiver_some hr]
    cases hrec : (s.modPoolLine l fun p => { p with slot := t }).receiver x with
    | none =>
      have hsame : (s.modPoolLine l fun p => { p with slot := t }).setReceiver x none = s.modPoolLine l fun p => { p with slot := t } := by
        rw [← hrec]
        exact setReceiver_receiver _ x
      exact Eq.mpr (congrArg (P b) hsame) hmoved
    | some rec => exact h.receives hrec rfl rfl (.inl rfl) hmoved

theorem effect {t : State} (he : Effect s t) (hcon : G → EngineConsistent s.engine) (hs : P s.engine.tested s) : P t.engine.tested t := by
  cases he with
  | nothing => exact hs
  | clearLatched l => exact h.apart (modRep_seats _ _ _) hs
  | writeProfile p fields v changed hj =>
    rw [writeProfile_engine]
    exact h.apart (writeProfile_seats s p v) hs
  | assignProfile l p =>
    rw [assignProfile_eq]
    split
    · exact hs
    · have hseat : ({ s.line l with prof := { (s.line l).prof with number := p } } : LineRec).seat = (s.line l).seat := rfl
      exact h.apart (setLine_seats s l ((takenUp_seat _ _).trans hseat)) hs
  | takeOut l hst =>
    rw [takeOut_engine]
    unfold State.takeOut
    dsimp only
    have hended := h.endCollection (l := l) none (h.apart (t := (s.modHook l fun h =>
      { h.clearCall with service := .serviceOut, state := .outOfService, pendingQuarantine := false }).modLsu l Lsu.outOfService)
      ((modLsu_seats _ l rfl).trans (modHook_seats s l _)) hs)
    split
    · exact h.apart ((honourProfile_seats _ _).trans (modFault_seats _ _ _)) hended
    · exact h.apart (honourProfile_seats _ _) hended
  | putIn l hst => exact h.apart ((enterLearning_seats _ _).trans (modHook_seats _ _ _)) hs
  | moveSlot l t hne hfree =>
    rw [show (s.moveSlot l t).engine = s.engine by simp [State.moveSlot, State.markSlotChange]]
    exact h.moveSlot t hs
  | setMask l kinds => exact h.apart (modRep_seats _ _ _) hs
  | setClassMap classes m hm => exact h.apart (s := s) rfl hs
  | setTone p => exact h.apart (s := s) rfl hs
  | setScan setting index =>
    unfold State.setScan
    dsimp only
    split
    · rw [deriveMode_engine]
      exact h.apart (s := s) (deriveMode_seats _) hs
    · exact h.apart (s := s) rfl hs
  | setSweep on interval steps =>
    rw [modEngine_engine, tested_congr (setSweep_running_same _ _ _ _ _)]
    exact h.apart (modEngine_seats _ _) hs
  | arm l hcall => rw [armCollection_engine]; exact h.arm hs
  | endCollection l hact => rw [endCollection_engine]; exact h.endCollection none hs
  | clearBuffer l => exact h.apart (setLine_seats s l rfl) hs
  | mergeHost l steps force => exact h.apart (modEngine_seats s _) hs
  | fileHost l steps force hst hnew hroom => exact h.fileHost steps force hcon hs
  | abort l => exact h.abortTests hs
  | resume hst => exact h.resumeTesting hst hcon hs
  | ack l left => exact h.apart (modFault_seats _ _ _) hs
  | release l hq => exact h.apart (leaveQuarantine_seats _ _) hs
  | reset => exact h.apart (modLink_seats _ _) hs

omit h in
theorem afterReset_fresh : (∀ cause, (s.coldReset cause).Fresh) ∧ s.commandReset.Fresh := by
  refine ⟨fun cause => ⟨?_, fun m => ?_⟩, ⟨?_, fun m => ?_⟩⟩
  · rw [coldReset_eq]
    rfl
  · rw [coldReset_line]
    rfl
  · rw [commandReset_eq]
  · rw [commandReset_line]
    rfl

theorem cold (cause : ResetCause) : P (s.coldReset cause).engine.tested (s.coldReset cause) := by
  rw [tested_none (e := (s.coldReset cause).engine) (by rw [coldReset_eq]; rfl)]
  exact h.fresh (afterReset_fresh.1 cause)

theorem commandReset : P s.commandReset.engine.tested s.commandReset := by
  rw [tested_none (e := s.commandReset.engine) (by rw [commandReset_eq]; unfold Engine.afterCommand; rw [startTimer_eq]; rfl)]
  exact h.fresh afterReset_fresh.2

theorem takes {t : State} (ht : Takes s t) (hcon : G → EngineConsistent s.engine) (hs : P s.engine.tested s) : P t.engine.tested t := by
  have hchoose : ∀ k : Link, P s.engine.tested ({ s with link := k } : State).txChoose := fun k =>
    h.apart (seats_congr (by simp) fun m => by rw [txChoose_line]; rfl) hs
  cases ht with
  | nothing => exact hs
  | frame run hrun =>
    obtain ⟨k, r, hg⟩ | ⟨k, k', n, hg⟩ := goodFrame_eq_run s run
    · rw [hg]; exact h.apart (s := s) rfl hs
    · rw [hg]
      have heffect := h.effect (effect_of_runOf (hrun { s with link := k })) hcon (h.apart (s := s) rfl hs)
      exact h.apart (s := (run { s with link := k }).1) rfl heffect
  | badFrame =>
    unfold State.badFrame
    dsimp only
    repeat' split
    · exact h.apart (s := s) rfl hs
    · rw [txChoose_engine]; exact hchoose _
    · rw [answer_eq]; exact h.apart (s := s) rfl hs
  | receive r => exact h.apart (s := s) rfl hs
  | turnAway hsl => rw [txChoose_engine]; exact hchoose _
  | nextFrame f htx => rw [txChoose_engine]; exact hchoose _
  | commandReset hr => exact h.commandReset
  | sample l i ov => exact h.sample i ov hcon hs
  | firstSync => rw [firstSync_engine]; exact h.firstSync hs
  | startReceiver r frame => rw [startReceiver_engine]; exact h.startReceiver r frame hs
  | blockDone r frames => rw [blockDone_engine]; exact h.blockDone r frames hs
  | firstDigitExpiry l => rw [firstDigitExpiry_engine]; exact h.firstDigitExpiry hs
  | endDiallingExpiry l => rw [endDiallingExpiry_engine]; exact h.endDiallingExpiry hs
  | retestExpiry l => exact h.retestExpiry hcon hs
  | sweepExpiry => exact h.sweepExpiry hcon hs
  | readBattery volts => rw [readBattery_engine]; exact h.apart (readBattery_seats s volts) hs
  | settleDone => exact h.settleDone hs
  | stepDone a b => exact h.stepDone a b hs

/-- Such a property, read with the line on which a phase is in flight, is kept by every step beside the engine states. -/
theorem kept : KeptByArrivals fun s => P s.engine.tested s ∧ (G → EngineConsistent s.engine) where
  pending s _ hs := ⟨h.apart (s := s) rfl hs.1, hs.2⟩
  time s _ hs := ⟨h.apart (s := s) rfl hs.1, hs.2⟩
  cold s cause _ := ⟨h.cold cause, fun _ => by rw [coldReset_eq]; exact powerUp_laws.1⟩
  reset s _ := ⟨h.commandReset, fun _ => by rw [commandReset_eq]; exact (afterCommand_laws _).1⟩
  low s hs := ⟨h.apart (modLink_seats s _) hs.1, hs.2⟩
  takes s t _ hs ht := ⟨h.takes ht hs.2 hs.1, fun g => (takes_keeps ht).consistent (hs.2 g)⟩

end

end SeatClosed

end Sys2Proof.Machine


/-! SUPPORT. Laws 3 and 4, the tap's grid and the line on the test bus with its held receiver: each survives every single change of the
seats, with O30 and O45. -/

namespace Sys2Proof.Machine

/-! ## Receivers after a change -/

section

variable {s t : State} {l : Line}

/-- A line's stay away from service: on the test bus, or in its settle window (R18, R79). -/
def LineRec.away (r : LineRec) : Bool := r.test.onTestBus || r.lsu.settleEnd.isSome

theorem away_eq_seat (r : LineRec) : r.away = (r.seat.onTestBus || r.seat.settleEnd.isSome) := rfl

theorem away_iff (r : LineRec) : r.away = true ↔ r.test.onTestBus = true ∨ r.lsu.settleEnd.isSome = true := by
  simp [LineRec.away]

/-- After a change of the pool, each receiver is as it was or newly assigned (R74). -/
def State.Reassigns (s t : State) : Prop := ∀ y rec, t.receiver y = some rec → s.receiver y = some rec ∨ rec = s.assigned rec.line

theorem assigned_congr (m : Line) (h : (t.line m).away = (s.line m).away) : t.assigned m = s.assigned m := by
  unfold State.assigned
  exact congrArg (fun b => (⟨m, none, b, false, .quiet⟩ : Receiver)) h

theorem reassigns_of_set {x : Rx} {v : Option Receiver} (ht : t.pool.receivers = s.pool.receivers.set x.val v x.isLt)
    (hv : ∀ rec, v = some rec → rec = s.assigned rec.line) : s.Reassigns t := by
  have hreceiver : ∀ y, t.receiver y = (s.setReceiver x v).receiver y := fun y => by
    unfold State.receiver
    rw [ht]
    rfl
  intro y rec hy
  rw [hreceiver] at hy
  by_cases hyx : y = x
  · subst hyx
    rw [receiver_setReceiver_self] at hy
    exact .inr (hv rec hy)
  · rw [receiver_setReceiver_ne _ _ _ hyx] at hy
    exact .inl hy

theorem requestReceiver_reassigns : s.Reassigns (s.requestReceiver l) := by
  unfold State.requestReceiver
  repeat' split
  · exact fun _ _ hy => .inl hy
  · exact reassigns_of_set rfl fun rec hrec => by cases hrec; rfl
  · exact fun _ _ hy => .inl hy

theorem giveUpReceiver_reassigns : s.Reassigns (s.giveUpReceiver l) := by
  unfold State.giveUpReceiver
  split
  · next x hx =>
    unfold State.returnReceiver
    dsimp only
    split
    · exact reassigns_of_set (x := x) (v := none) rfl fun rec hrec => by cases hrec
    · next e rest hq =>
      rw [handOn_eq]
      have hassigned : (s.modPoolLine l fun p => { p with receiver := none }).assigned e.line = s.assigned e.line :=
        assigned_congr _ (by simp [LineRec.away])
      refine reassigns_of_set rfl fun rec hrec => ?_
      cases hrec
      exact hassigned
  · split
    · exact fun _ _ hy => .inl hy
    · exact fun _ _ hy => .inl hy

theorem requestReceiver_grid : (s.requestReceiver l).pool.grid = s.pool.grid := by
  unfold State.requestReceiver
  repeat' split
  all_goals rfl

theorem giveUpReceiver_grid : (s.giveUpReceiver l).pool.grid = s.pool.grid := by
  unfold State.giveUpReceiver State.returnReceiver
  dsimp only
  repeat' split
  all_goals rfl

end

/-! ## Laws 3 and 4 -/

section

variable {s t : State} {l : Line}

/-- The pool as it was, with lines whose collection and mode still allow what they hold. -/
theorem PoolLaws.redial (h : PoolLaws s) (hp : t.pool = s.pool) (hr : ∀ m, (t.line m).pool.receiver = (s.line m).pool.receiver)
    (hw : ∀ m, (t.line m).pool.waiting = (s.line m).pool.waiting)
    (hd : ∀ m, (s.line m).pool.receiver.isSome = true ∨ (s.line m).pool.waiting = true →
      (t.line m).dial.collection ≠ .inactive ∧ (t.line m).dial.mode ≠ .pulse ∧
      ((s.line m).pool.waiting = true → (t.line m).dial.mode = .undetermined)) : PoolLaws t where
  holds m r := by
    have hrec : t.receiver r = s.receiver r := by unfold State.receiver; rw [hp]
    rw [hr, hrec]
    exact h.holds m r
  collecting m hm := by
    rw [hr, hw] at hm
    exact ⟨(hd m hm).1, (hd m hm).2.1⟩
  waits m := by rw [hw, hp]; exact h.waits m
  once := by rw [hp]; exact h.once
  waitsOnly m hm := by
    rw [hw] at hm
    rw [hr]
    exact ⟨(h.waitsOnly m hm).1, (hd m (.inr hm)).2.2 hm⟩
  noneFree r hfree := by
    have hrec : t.receiver r = s.receiver r := by unfold State.receiver; rw [hp]
    rw [hp]
    exact h.noneFree r (hrec ▸ hfree)
  priorityFirst := by rw [hp]; exact h.priorityFirst

/-- What a line may hold, it may go on holding. -/
theorem PoolLaws.mayHold (h : PoolLaws s) (m : Line) (hm : (s.line m).pool.receiver.isSome = true ∨ (s.line m).pool.waiting = true) :
    (s.line m).dial.collection ≠ .inactive ∧ (s.line m).dial.mode ≠ .pulse ∧
      ((s.line m).pool.waiting = true → (s.line m).dial.mode = .undetermined) :=
  ⟨(h.collecting m hm).1, (h.collecting m hm).2, fun hw => (h.waitsOnly m hw).2⟩

theorem PoolLaws.congr (h : PoolLaws s) (hs : t.seats = s.seats) : PoolLaws t := by
  have hseat := seat_of_seats hs
  refine h.redial (pool_of_seats hs) (fun m => congrArg Seat.receiver (hseat m)) (fun m => congrArg Seat.waiting (hseat m)) fun m hm => ?_
  have hcollection : (t.line m).dial.collection = (s.line m).dial.collection := congrArg Seat.collection (hseat m)
  have hmode : (t.line m).dial.mode = (s.line m).dial.mode := congrArg Seat.mode (hseat m)
  rw [hcollection, hmode]
  exact h.mayHold m hm

/-- A receiver's record changes, but not its line. -/
theorem PoolLaws.setReceiver (h : PoolLaws s) {x : Rx} {rec rec' : Receiver} (hrec : s.receiver x = some rec) (hl : rec'.line = rec.line) :
    PoolLaws (s.setReceiver x (some rec')) where
  holds m r := by
    rw [setReceiver_line, h.holds]
    by_cases hr : r = x
    · subst hr
      rw [receiver_setReceiver_self, hrec]
      simp [hl]
    · rw [receiver_setReceiver_ne _ _ _ hr]
  collecting := h.collecting
  waits := h.waits
  once := h.once
  waitsOnly := h.waitsOnly
  noneFree r hfree := by
    by_cases hr : r = x
    · subst hr
      rw [receiver_setReceiver_self] at hfree
      cases hfree
    · rw [receiver_setReceiver_ne _ _ _ hr] at hfree
      exact h.noneFree r hfree
  priorityFirst := h.priorityFirst

theorem PoolLaws.held (h : PoolLaws s) {x : Rx} (hx : (s.line l).pool.receiver = some x) :
    ∃ rec, s.receiver x = some rec ∧ rec.line = l := (h.holds l x).mp hx

theorem PoolLaws.modHeld (h : PoolLaws s) {f : Receiver → Receiver} (hf : ∀ rec, (f rec).line = rec.line) :
    PoolLaws (s.modHeldReceiver l f) := by
  cases hx : (s.line l).pool.receiver with
  | none => rwa [modHeldReceiver_none hx]
  | some x =>
    obtain ⟨rec, hrec, -⟩ := h.held hx
    rw [modHeldReceiver_some hx, hrec]
    exact h.setReceiver hrec (hf rec)

/-- The lowest free receiver goes to a line that holds none and does not wait (R74). -/
theorem PoolLaws.assign (h : PoolLaws s) {x : Rx} (hx : s.receiver x = none) (ha : (s.line l).dial.collection ≠ .inactive)
    (hm : (s.line l).dial.mode = .undetermined) (hr : (s.line l).pool.receiver = none) (hw : (s.line l).pool.waiting = false) :
    PoolLaws (s.assign x l) := by
  have hself : (s.assign x l).line l = { s.line l with pool := { (s.line l).pool with receiver := some x } } :=
    line_modPoolLine_self _ _ _
  have hne : ∀ m, m ≠ l → (s.assign x l).line m = s.line m := fun m hml => line_modPoolLine_ne _ _ _ hml
  have hrecself : (s.assign x l).receiver x = some (s.freshReceiver l) := receiver_setReceiver_self _ _ _
  have hrecne : ∀ r, r ≠ x → (s.assign x l).receiver r = s.receiver r := fun r hrx => receiver_setReceiver_ne _ _ _ hrx
  have hqueue : s.pool.waitQueue = [] := h.noneFree x hx
  refine ⟨fun m r => ?_, fun m hmay => ?_, fun m => ?_, h.once, fun m hwait => ?_, fun _ _ => hqueue, h.priorityFirst⟩
  · by_cases hml : m = l <;> by_cases hrx : r = x
    · subst hml hrx
      rw [hself, hrecself]
      exact ⟨fun _ => ⟨_, rfl, rfl⟩, fun _ => rfl⟩
    · subst hml
      rw [hself, hrecne r hrx, ← h.holds, hr]
      simp [Ne.symm hrx]
    · subst hrx
      rw [hne m hml, hrecself, h.holds, hx]
      simp [State.freshReceiver, Ne.symm hml]
    · rw [hne m hml, hrecne r hrx]
      exact h.holds m r
  · by_cases hml : m = l
    · subst hml
      rw [hself]
      exact ⟨ha, by simp [hm]⟩
    · rw [hne m hml] at hmay ⊢
      exact h.collecting m hmay
  · have hwaiting : ((s.assign x l).line m).pool.waiting = (s.line m).pool.waiting := by
      by_cases hml : m = l
      · subst hml; rw [hself]
      · rw [hne m hml]
    rw [hwaiting]
    exact h.waits m
  · by_cases hml : m = l
    · subst hml
      rw [hself] at hwait
      rw [hw] at hwait
      cases hwait
    · rw [hne m hml] at hwait ⊢
      exact h.waitsOnly m hwait

theorem mem_joinQueue (q : List WaitEntry) (e x : WaitEntry) : x ∈ joinQueue q e ↔ x = e ∨ x ∈ q := by
  unfold joinQueue
  split
  · exact mem_insertAfterLast _ e x q
  · rw [List.mem_append, List.mem_singleton, or_comm]

theorem joinQueue_perm (q : List WaitEntry) (e : WaitEntry) : (joinQueue q e).Perm (e :: q) := by
  unfold joinQueue
  split
  · exact insertAfterLast_perm _ e q
  · exact List.perm_append_singleton e q

theorem joinQueue_priorityFirst {q : List WaitEntry} (hq : q.Pairwise fun a b => b.priority = true → a.priority = true)
    (e : WaitEntry) : (joinQueue q e).Pairwise fun a b => b.priority = true → a.priority = true := by
  unfold joinQueue
  split
  · next he => exact insertAfterLast_pairwise (fun x : WaitEntry => x.priority) he hq
  · next he => exact List.pairwise_append.mpr ⟨hq, List.pairwise_singleton _ _, fun a _ b hb hp => by
      rw [List.mem_singleton.mp hb] at hp
      exact absurd hp he⟩

/-- A line that holds no receiver joins the wait queue under its class, where no receiver is free (R75). -/
theorem PoolLaws.joinWait (h : PoolLaws s) (hfree : ∀ r, s.receiver r ≠ none) (ha : (s.line l).dial.collection ≠ .inactive)
    (hm : (s.line l).dial.mode = .undetermined) (hr : (s.line l).pool.receiver = none) (hw : (s.line l).pool.waiting = false) :
    PoolLaws (s.joinWait l) := by
  have hself : (s.joinWait l).line l = { s.line l with pool := { (s.line l).pool with waiting := true } } :=
    line_modPoolLine_self _ _ _
  have hne : ∀ m, m ≠ l → (s.joinWait l).line m = s.line m := fun m hml => line_modPoolLine_ne _ _ _ hml
  have hqueue : (s.joinWait l).pool.waitQueue = joinQueue s.pool.waitQueue ⟨l, (s.working l).receiverPriority⟩ := rfl
  have hreceiver : ∀ r, (s.joinWait l).receiver r = s.receiver r := fun _ => rfl
  refine ⟨fun m r => ?_, fun m hmay => ?_, fun m => ?_, ?_, fun m hwait => ?_, fun r hx => absurd hx (hfree r), ?_⟩
  · rw [hreceiver, ← h.holds]
    by_cases hml : m = l
    · subst hml; rw [hself]
    · rw [hne m hml]
  · by_cases hml : m = l
    · subst hml
      rw [hself]
      exact ⟨ha, by simp [hm]⟩
    · rw [hne m hml] at hmay ⊢
      exact h.collecting m hmay
  · have hmem : m ∈ (s.joinWait l).pool.waitQueue.map (fun e => e.line) ↔ m = l ∨ m ∈ s.pool.waitQueue.map fun e => e.line := by
      rw [hqueue, eq_comm (a := m)]
      simp [mem_joinQueue]
    rw [hmem, ← h.waits]
    by_cases hml : m = l
    · subst hml
      rw [hself]
      simp
    · rw [hne m hml]
      simp [hml]
  · rw [hqueue]
    refine (((joinQueue_perm _ _).map _).nodup_iff).mpr ?_
    refine List.nodup_cons.mpr ⟨fun hmem => ?_, h.once⟩
    rw [← h.waits, hw] at hmem
    cases hmem
  · by_cases hml : m = l
    · subst hml
      rw [hself]
      exact ⟨hr, hm⟩
    · rw [hne m hml] at hwait ⊢
      exact h.waitsOnly m hwait
  · rw [hqueue]
    exact joinQueue_priorityFirst h.priorityFirst _

theorem freeReceiver_none (h : s.freeReceiver = none) (r : Rx) : s.receiver r ≠ none := by
  have hall := List.find?_eq_none.mp h r (by simp [allRx])
  cases hr : s.receiver r <;> simp_all

theorem freeReceiver_some {x : Rx} (h : s.freeReceiver = some x) : s.receiver x = none := by
  simpa using List.find?_some h

theorem PoolLaws.request (h : PoolLaws s) (ha : (s.line l).dial.collection ≠ .inactive)
    (hm : (s.line l).dial.mode = .undetermined) (hr : (s.line l).pool.receiver = none) (hw : (s.line l).pool.waiting = false) :
    PoolLaws (s.requestReceiver l) := by
  unfold State.requestReceiver
  rw [if_neg (by simp [hr, hw])]
  split
  · next x hx => exact h.assign (freeReceiver_some hx) ha hm hr hw
  · next hx => exact h.joinWait (freeReceiver_none hx) ha hm hr hw

theorem PlaceGivenUp.holdsNothing {r : LineRec} (hg : PlaceGivenUp s t l r) :
    (t.line l).pool.receiver = none ∧ (t.line l).pool.waiting = false := by
  rw [hg.line]
  exact ⟨rfl, rfl⟩

theorem PlaceGivenUp.mayNotHold {r : LineRec} (hg : PlaceGivenUp s t l r) :
    ¬ ((t.line l).pool.receiver.isSome = true ∨ (t.line l).pool.waiting = true) := by
  simp [hg.holdsNothing]

/-- A wait place is taken out of the queue (R77). -/
theorem PoolLaws.placeTakenOut (h : PoolLaws s) {r : LineRec} (hg : PlaceGivenUp s t l r) (hr : (s.line l).pool.receiver = none) :
    PoolLaws t := by
  have hself := hg.holdsNothing
  have hnoself := hg.mayNotHold
  obtain ⟨hpool, hne⟩ := hg.noReceiver hr
  have hreceiver : ∀ x, t.receiver x = s.receiver x := fun x => by
    unfold State.receiver
    rw [hpool]
  have hsub : t.pool.waitQueue.Sublist s.pool.waitQueue := by rw [hpool]; exact List.filter_sublist
  refine ⟨fun m x => ?_, fun m hmay => ?_, fun m => ?_, h.once.sublist (hsub.map _), fun m hwait => ?_, fun x hx => ?_,
    h.priorityFirst.sublist hsub⟩
  · rw [hreceiver, ← h.holds]
    by_cases hml : m = l
    · subst hml; rw [hself.1, hr]
    · rw [hne m hml]
  · by_cases hml : m = l
    · subst hml; exact absurd hmay hnoself
    · rw [hne m hml] at hmay ⊢
      exact h.collecting m hmay
  · by_cases hml : m = l
    · subst hml; simp [hself.2, hpool]
    · rw [hne m hml, h.waits, hpool]
      simp only [List.mem_map, List.mem_filter, bne_iff_ne]
      exact ⟨fun ⟨e, he, hm⟩ => ⟨e, ⟨he, by rwa [hm]⟩, hm⟩, fun ⟨e, ⟨he, _⟩, hm⟩ => ⟨e, he, hm⟩⟩
  · by_cases hml : m = l
    · subst hml; exact absurd (.inr hwait) hnoself
    · rw [hne m hml] at hwait ⊢
      exact h.waitsOnly m hwait
  · rw [hreceiver] at hx
    rw [hpool, h.noneFree x hx]
    rfl

/-- A returned receiver is free where no line waits (R76). -/
theorem PoolLaws.receiverFreed (h : PoolLaws s) {r : LineRec} (hg : PlaceGivenUp s t l r) {x : Rx}
    (hr : (s.line l).pool.receiver = some x) (hq : s.pool.waitQueue = []) : PoolLaws t := by
  have hself := hg.holdsNothing
  have hnoself := hg.mayNotHold
  obtain ⟨hpool, hne⟩ := hg.freed x hr hq
  have hreceiver : ∀ y, t.receiver y = (s.setReceiver x none).receiver y := fun y => by
    unfold State.receiver
    rw [hpool]
    rfl
  have hqueue : t.pool.waitQueue = [] := by rw [hpool]; exact hq
  refine ⟨fun m y => ?_, fun m hmay => ?_, fun m => ?_, by rw [hqueue]; exact List.nodup_nil, fun m hwait => ?_, fun _ _ => hqueue,
    by rw [hqueue]; exact .nil⟩
  · rw [hreceiver]
    by_cases hyx : y = x
    · subst hyx
      rw [receiver_setReceiver_self]
      by_cases hml : m = l
      · subst hml; simp [hself.1]
      · rw [hne m hml, h.holds]
        obtain ⟨rec, hrec, hl⟩ := h.held hr
        simp [hrec, hl, Ne.symm hml]
    · rw [receiver_setReceiver_ne _ _ _ hyx, ← h.holds]
      by_cases hml : m = l
      · subst hml; simp [hself.1, hr, Ne.symm hyx]
      · rw [hne m hml]
  · by_cases hml : m = l
    · subst hml; exact absurd hmay hnoself
    · rw [hne m hml] at hmay ⊢
      exact h.collecting m hmay
  · by_cases hml : m = l
    · subst hml; simp [hself.2, hqueue]
    · rw [hne m hml, h.waits, hq, hqueue]
  · by_cases hml : m = l
    · subst hml; exact absurd (.inr hwait) hnoself
    · rw [hne m hml] at hwait ⊢
      exact h.waitsOnly m hwait

/-- A returned receiver goes to the head of the wait queue (R76). -/
theorem PoolLaws.receiverHandedOn (h : PoolLaws s) {r : LineRec} (hg : PlaceGivenUp s t l r) {x : Rx} {e : WaitEntry}
    {rest : List WaitEntry} (hr : (s.line l).pool.receiver = some x) (hq : s.pool.waitQueue = e :: rest) : PoolLaws t := by
  have hself := hg.holdsNothing
  have hnoself := hg.mayNotHold
  obtain ⟨hpool, hhead, hne⟩ := hg.handedOn x e rest hr hq
  have hreceiver : ∀ y, t.receiver y = (s.setReceiver x (some (s.assigned e.line))).receiver y := fun y => by
    unfold State.receiver
    rw [hpool]
    rfl
  have hqueue : t.pool.waitQueue = rest := by rw [hpool]
  have hmem : e ∈ s.pool.waitQueue := by rw [hq]; exact List.mem_cons_self
  have hel : e.line ≠ l := h.notQueued (h.notWaiting hr) e hmem
  have hewait := h.queued hmem
  have henone := (h.waitsOnly _ hewait).1
  have hheadpool : (t.line e.line).pool.receiver = some x ∧ (t.line e.line).pool.waiting = false := by rw [hhead]; exact ⟨rfl, rfl⟩
  have hheaddial : (t.line e.line).dial = (s.line e.line).dial := by rw [hhead]
  have hnodup : e.line ∉ rest.map (fun e => e.line) ∧ (rest.map fun e => e.line).Nodup := by
    have := h.once
    rwa [hq, List.map_cons, List.nodup_cons] at this
  have hpriority := h.priorityFirst
  rw [hq] at hpriority
  refine ⟨fun m y => ?_, fun m hmay => ?_, fun m => ?_, by rw [hqueue]; exact hnodup.2, fun m hwait => ?_, fun y hy => ?_,
    by rw [hqueue]; exact (List.pairwise_cons.mp hpriority).2⟩
  · rw [hreceiver]
    by_cases hyx : y = x
    · subst hyx
      rw [receiver_setReceiver_self]
      by_cases hme : m = e.line
      · subst hme; simp [hheadpool.1, State.assigned]
      · have hno : (t.line m).pool.receiver ≠ some y := by
          by_cases hml : m = l
          · subst hml; simp [hself.1]
          · rw [hne m hml hme, Ne, h.holds]
            obtain ⟨rec, hrec, hl⟩ := h.held hr
            simp [hrec, hl, Ne.symm hml]
        simp [hno, State.assigned, Ne.symm hme]
    · rw [receiver_setReceiver_ne _ _ _ hyx, ← h.holds]
      by_cases hml : m = l
      · subst hml; simp [hself.1, hr, Ne.symm hyx]
      by_cases hme : m = e.line
      · subst hme; simp [hheadpool.1, henone, Ne.symm hyx]
      · rw [hne m hml hme]
  · by_cases hml : m = l
    · subst hml; exact absurd hmay hnoself
    by_cases hme : m = e.line
    · subst hme
      rw [hheaddial]
      exact h.collecting _ (.inr hewait)
    · rw [hne m hml hme] at hmay ⊢
      exact h.collecting m hmay
  · rw [hqueue]
    by_cases hml : m = l
    · subst hml
      have hnot : ¬ (s.line m).pool.waiting = true := by simp [h.notWaiting hr]
      rw [h.waits, hq] at hnot
      simp only [List.map_cons, List.mem_cons, not_or] at hnot
      simp [hself.2, hnot.2]
    by_cases hme : m = e.line
    · subst hme; simp [hheadpool.2, hnodup.1]
    · rw [hne m hml hme, h.waits, hq]
      simp [hme]
  · by_cases hml : m = l
    · subst hml; exact absurd (.inr hwait) hnoself
    by_cases hme : m = e.line
    · subst hme; rw [hheadpool.2] at hwait; cases hwait
    · rw [hne m hml hme] at hwait ⊢
      exact h.waitsOnly m hwait
  · rw [hreceiver] at hy
    by_cases hyx : y = x
    · subst hyx
      rw [receiver_setReceiver_self] at hy
      cases hy
    · rw [receiver_setReceiver_ne _ _ _ hyx] at hy
      rw [h.noneFree y hy] at hq
      cases hq

theorem PoolLaws.givenUp (h : PoolLaws s) {r : LineRec} (hg : PlaceGivenUp s t l r) : PoolLaws t := by
  cases hr : (s.line l).pool.receiver with
  | none => exact h.placeTakenOut hg hr
  | some x =>
    cases hq : s.pool.waitQueue with
    | nil => exact h.receiverFreed hg hr hq
    | cons e rest => exact h.receiverHandedOn hg hr hq

theorem State.Fresh.poolLaws (h : s.Fresh) : PoolLaws s where
  holds m r := by
    have hm : (s.line m).pool.receiver = none := congrArg Seat.receiver (h.seat m)
    have hr : s.receiver r = none := by
      unfold State.receiver
      rw [h.pool]
      simp [Pool.cleared]
    simp [hm, hr]
  collecting m hm := by
    have h1 : (s.line m).pool.receiver = none := congrArg Seat.receiver (h.seat m)
    have h2 : (s.line m).pool.waiting = false := congrArg Seat.waiting (h.seat m)
    simp [h1, h2] at hm
  waits m := by
    have h2 : (s.line m).pool.waiting = false := congrArg Seat.waiting (h.seat m)
    simp [h2, h.pool, Pool.cleared]
  once := by rw [h.pool]; exact List.nodup_nil
  waitsOnly m hm := by
    have h2 : (s.line m).pool.waiting = false := congrArg Seat.waiting (h.seat m)
    simp [h2] at hm
  noneFree r _ := by rw [h.pool]; rfl
  priorityFirst := by rw [h.pool]; exact .nil

theorem PoolLaws.dials (h : PoolLaws s) {r : LineRec} (hr : LineRec.Dials s l r) : PoolLaws (s.setLine l r) := by
  have hseat : ∀ m, m ≠ l → ((s.setLine l r).line m) = s.line m := fun m hml => line_setLine_ne _ _ _ hml
  have hreceiver : r.pool.receiver = (s.line l).pool.receiver := congrArg Seat.receiver hr.seat
  have hwaiting : r.pool.waiting = (s.line l).pool.waiting := congrArg Seat.waiting hr.seat
  refine h.redial rfl (fun m => ?_) (fun m => ?_) fun m hm => ?_
  · by_cases hml : m = l
    · subst hml; rw [line_setLine_self, hreceiver]
    · rw [hseat m hml]
  · by_cases hml : m = l
    · subst hml; rw [line_setLine_self, hwaiting]
    · rw [hseat m hml]
  · by_cases hml : m = l
    · subst hml
      rw [line_setLine_self]
      obtain ⟨hcollects, hpulse, hopen⟩ := h.mayHold m hm
      refine ⟨hr.active, ?_⟩
      obtain hmode | hmode | ⟨hmode, x, rec, hrec, hline⟩ := hr.mode
      · rw [hmode]; exact ⟨hpulse, hopen⟩
      · rw [hmode]; exact ⟨nofun, fun _ => rfl⟩
      · have hx := (h.holds m x).mpr ⟨rec, hrec, hline⟩
        rw [hmode, h.notWaiting hx]
        exact ⟨nofun, nofun⟩
    · rw [hseat m hml]
      exact h.mayHold m hm

/-- The bus and the settle window of a line change, and nothing else that Laws 3 and 4 read. -/
theorem PoolLaws.busMoves (h : PoolLaws s) (hp : t.pool = s.pool) (hl : ∀ m, (t.line m).pool = (s.line m).pool)
    (hd : ∀ m, (t.line m).dial = (s.line m).dial) : PoolLaws t := by
  refine h.redial hp (fun m => by rw [hl]) (fun m => by rw [hl]) fun m hm => ?_
  rw [hd]
  exact h.mayHold m hm

theorem poolLaws_closed : SeatClosed False fun _ => PoolLaws where
  free _ _ _ _ hs := hs
  fresh hf := hf.poolLaws
  apart ht hs := hs.congr ht
  dials hr hs := hs.dials hr
  requests ha hm hr hw hs := hs.request ha hm hr hw
  givesUp hp _ hs := hs.givenUp (giveUpReceiver_placeGivenUp hs hp)
  receives hrec hl _ _ hs := hs.setReceiver hrec hl
  boundary _ _ hs := ⟨hs.holds, hs.collecting, hs.waits, hs.once, hs.waitsOnly, hs.noneFree, hs.priorityFirst⟩
  connects {s l} hs := (hs.busMoves (t := (s.modTest l _).modLsu l _) rfl (by simp) (by simp)).modHeld fun _ => rfl
  disconnects hs := hs.busMoves rfl (by simp [State.disconnect]) (by simp [State.disconnect])
  resumes {_ s l} _ hs := (hs.busMoves (t := s.modLsu l _) rfl (by simp) (by simp)).modHeld fun rec => by split <;> rfl

/-! ## The tap's grid -/

/-- The grid as it was, and receivers whose blocks are those they were, or none. -/
theorem GridLaws.blocksFrom (h : GridLaws s) (hg : t.pool.grid = s.pool.grid)
    (hr : ∀ y rec, t.receiver y = some rec → rec.blockStart = none ∨
      ∃ old, s.receiver y = some old ∧ rec.blockStart = old.blockStart ∧ (old.held = false → rec.held = false)) : GridLaws t where
  hundredth b hb := h.hundredth b (hg ▸ hb)
  blocks y rec f hy hf := by
    obtain hnone | ⟨old, hold, hstart, hheld⟩ := hr y rec hy
    · rw [hnone] at hf; cases hf
    · obtain ⟨h1, h2, h3⟩ := h.blocks y old f hold (hstart ▸ hf)
      rw [hg]
      exact ⟨hheld h1, h2, h3⟩

theorem GridLaws.samePool (h : GridLaws s) (hp : t.pool = s.pool) : GridLaws t :=
  h.blocksFrom (by rw [hp]) fun y rec hy => .inr ⟨rec, by unfold State.receiver at hy ⊢; rwa [← hp], rfl, id⟩

theorem GridLaws.reassigned (h : GridLaws s) (hg : t.pool.grid = s.pool.grid) (hr : s.Reassigns t) : GridLaws t :=
  h.blocksFrom hg fun y rec hy => (hr y rec hy).elim (fun hold => .inr ⟨rec, hold, rfl, id⟩) fun hnew => .inl (by rw [hnew]; rfl)

/-- A changed record of a line's receiver, seen from any receiver. -/
theorem modHeldReceiver_receiver {f : Receiver → Receiver} {y : Rx} {rec : Receiver} (hy : (s.modHeldReceiver l f).receiver y = some rec) :
    s.receiver y = some rec ∧ (s.line l).pool.receiver ≠ some y ∨
    (s.line l).pool.receiver = some y ∧ ∃ old, s.receiver y = some old ∧ rec = f old := by
  cases hx : (s.line l).pool.receiver with
  | none =>
    rw [modHeldReceiver_none hx] at hy
    exact .inl ⟨hy, by simp⟩
  | some x =>
    rw [modHeldReceiver_some hx] at hy
    by_cases hyx : y = x
    · subst hyx
      rw [receiver_setReceiver_self, Option.map_eq_some_iff] at hy
      obtain ⟨old, hold, hf⟩ := hy
      exact .inr ⟨rfl, old, hold, hf.symm⟩
    · rw [receiver_setReceiver_ne _ _ _ hyx] at hy
      exact .inl ⟨hy, by simpa using Ne.symm hyx⟩

theorem modHeldReceiver_grid (f : Receiver → Receiver) : (s.modHeldReceiver l f).pool.grid = s.pool.grid := by
  unfold State.modHeldReceiver
  split <;> rfl

theorem GridLaws.modHeld (h : GridLaws s) {f : Receiver → Receiver}
    (hf : ∀ old, (f old).blockStart = none ∨ (f old).blockStart = old.blockStart ∧ (old.held = false → (f old).held = false)) :
    GridLaws (s.modHeldReceiver l f) := by
  refine h.blocksFrom (modHeldReceiver_grid f) fun y rec hy => ?_
  obtain ⟨hold, -⟩ | ⟨-, old, hold, rfl⟩ := modHeldReceiver_receiver hy
  · exact .inr ⟨rec, hold, rfl, id⟩
  · exact (hf old).imp id fun hkeep => ⟨old, hold, hkeep⟩

theorem gridLaws_closed : SeatClosed False fun _ => GridLaws where
  free _ _ _ _ hs := hs
  fresh {s} hf := by
    refine ⟨fun b hb => ?_, fun y rec f hy => ?_⟩
    · rw [hf.pool] at hb; cases hb
    · have hnone : s.receiver y = none := by
        unfold State.receiver
        rw [hf.pool]
        simp [Pool.cleared]
      rw [hnone] at hy
      cases hy
  apart ht hs := hs.samePool (pool_of_seats ht)
  dials _ hs := hs.samePool rfl
  requests _ _ _ _ hs := hs.reassigned requestReceiver_grid requestReceiver_reassigns
  givesUp _ _ hs := (hs.samePool (t := State.setLine _ _ _) rfl).reassigned giveUpReceiver_grid giveUpReceiver_reassigns
  receives {_ s x rec rec'} hrec _ hheld hstart hs := by
    refine ⟨hs.hundredth, fun y r f hy hf => ?_⟩
    by_cases hyx : y = x
    · subst hyx
      rw [receiver_setReceiver_self] at hy
      cases hy
      obtain hold | ⟨hfree, g, hg, hnew⟩ := hstart
      · obtain ⟨h1, h2, h3⟩ := hs.blocks y rec f hrec (hold ▸ hf)
        exact ⟨hheld.trans h1, h2, h3⟩
      · rw [hnew] at hf
        cases hf
        exact ⟨hheld.trans hfree, hs.hundredth g hg, g, hg, Nat.le_refl _⟩
    · rw [receiver_setReceiver_ne _ _ _ hyx] at hy
      exact hs.blocks y r f hy hf
  boundary {_ s frame} h100 hle hs := by
    refine ⟨fun b hb => ?_, fun y rec f hy hf => ?_⟩
    · cases hb
      exact h100
    · obtain ⟨h1, h2, b, hb, hfb⟩ := hs.blocks y rec f hy hf
      exact ⟨h1, h2, _, rfl, hfb.trans (hle b hb)⟩
  connects {s l} hs := (hs.samePool (t := (s.modTest l _).modLsu l _) rfl).modHeld fun _ => .inl rfl
  disconnects hs := hs.samePool rfl
  resumes {_ s l} _ hs := (hs.samePool (t := s.modLsu l _) rfl).modHeld fun old => .inr (by split <;> simp)

/-- Settles O30: Laws 3 and 4 and the tap's grid each survive every change of the seats, and so every step. -/
theorem poolLawsAreKept : Obligations.PoolLawsAreKept :=
  ⟨fun _ _ hs ht => (poolLaws_closed.kept.step ⟨hs, False.elim⟩ ht).1, fun _ _ hs ht => (gridLaws_closed.kept.step ⟨hs, False.elim⟩ ht).1⟩

/-! ## The test bus and its held receiver -/

/-- Laws 3 and 4 with Law 9, read with the line that is on the bus: that line alone has its relay closed, and no line on the bus has a
settle end; a receiver is held exactly while its line is away (R18, R73, R79, R99). -/
structure BusLaw (b : Option Line) (s : State) : Prop where
  pool : PoolLaws s
  onBus : ∀ l, (s.line l).test.onTestBus = true ↔ b = some l
  relay : ∀ l, (s.line l).test.relayClosed = (s.line l).test.onTestBus
  window : ∀ l, (s.line l).test.onTestBus = true → (s.line l).lsu.settleEnd = none
  held : ∀ x rec, s.receiver x = some rec → rec.held = (s.line rec.line).away

theorem tested_eq_some (e : Engine) (l : Line) : e.tested = some l ↔ ∃ c, e.running = some c ∧ c.phase.isSome = true ∧ c.line = l := by
  unfold Engine.tested
  cases e.running with
  | none => simp
  | some c => cases hp : c.phase <;> simp [hp]

theorem busLaw_iff (hp : PoolLaws s) : BusLaw s.engine.tested s ↔ LawNine s := by
  refine ⟨fun h => ⟨fun l => ?_, h.relay, h.window, fun x rec hx => ?_⟩, fun h => ⟨hp, fun l => ?_, h.relay, h.window, fun x rec hx => ?_⟩⟩
  · rw [h.onBus, tested_eq_some]
  · rw [h.held x rec hx, away_iff]
  · rw [h.onBus, tested_eq_some]
  · rw [Bool.eq_iff_iff, h.held x rec hx, away_iff]

/-- The bus and the settle windows as they were, in a pool whose receivers are as they were or newly assigned. -/
theorem BusLaw.reassigned {b : Option Line} (h : BusLaw b s) (hp : PoolLaws t) (hr : s.Reassigns t)
    (hl : ∀ m, (t.line m).test.onTestBus = (s.line m).test.onTestBus ∧ (t.line m).test.relayClosed = (s.line m).test.relayClosed ∧
      (t.line m).lsu.settleEnd = (s.line m).lsu.settleEnd) : BusLaw b t where
  pool := hp
  onBus l := by rw [(hl l).1]; exact h.onBus l
  relay l := by rw [(hl l).1, (hl l).2.1]; exact h.relay l
  window l hb := by
    rw [(hl l).1] at hb
    rw [(hl l).2.2]
    exact h.window l hb
  held x rec hx := by
    have haway : (t.line rec.line).away = (s.line rec.line).away := by
      unfold LineRec.away
      rw [(hl _).1, (hl _).2.2]
    rw [haway]
    obtain hold | hnew := hr x rec hx
    · exact h.held x rec hold
    · exact congrArg Receiver.held hnew

theorem bus_of_seat {r r' : LineRec} (h : r'.seat = { r.seat with collection := r'.dial.collection, mode := r'.dial.mode }) :
    r'.test.onTestBus = r.test.onTestBus ∧ r'.test.relayClosed = r.test.relayClosed ∧ r'.lsu.settleEnd = r.lsu.settleEnd :=
  ⟨congrArg Seat.onTestBus h, congrArg Seat.relayClosed h, congrArg Seat.settleEnd h⟩

theorem bus_setLine {r : LineRec} (h : r.seat = { (s.line l).seat with collection := r.dial.collection, mode := r.dial.mode }) (m : Line) :
    ((s.setLine l r).line m).test.onTestBus = (s.line m).test.onTestBus ∧
    ((s.setLine l r).line m).test.relayClosed = (s.line m).test.relayClosed ∧
    ((s.setLine l r).line m).lsu.settleEnd = (s.line m).lsu.settleEnd := by
  by_cases hm : m = l
  · subst hm; rw [line_setLine_self]; exact bus_of_seat h
  · rw [line_setLine_ne _ _ _ hm]; exact ⟨rfl, rfl, rfl⟩

theorem bus_besidesPool (h : t.besidesPool = s.besidesPool) (m : Line) : (t.line m).test.onTestBus = (s.line m).test.onTestBus ∧
    (t.line m).test.relayClosed = (s.line m).test.relayClosed ∧ (t.line m).lsu.settleEnd = (s.line m).lsu.settleEnd := by
  rw [line_of_besidesPool h m]
  exact ⟨rfl, rfl, rfl⟩

theorem PoolLaws.line_ne (h : PoolLaws s) {y : Rx} {rec : Receiver} (hy : s.receiver y = some rec) (hl : (s.line l).pool.receiver ≠ some y) :
    rec.line ≠ l := fun he => hl ((h.holds l y).mpr ⟨rec, hy, he⟩)

theorem PoolLaws.line_eq (h : PoolLaws s) {y : Rx} {rec : Receiver} (hy : s.receiver y = some rec) (hl : (s.line l).pool.receiver = some y) :
    rec.line = l := by
  obtain ⟨rec', hrec, he⟩ := h.held hl
  rw [hy] at hrec
  cases hrec
  exact he

/-- One line's bus and settle window change, with the hold of its receiver. -/
theorem BusLaw.moved {b b' : Option Line} (h : BusLaw b s) (hp : PoolLaws t) (hne : ∀ m, m ≠ l → t.line m = s.line m)
    (hb : ∀ m, m ≠ l → (b = some m ↔ b' = some m)) (hon : (t.line l).test.onTestBus = true ↔ b' = some l)
    (hrelay : (t.line l).test.relayClosed = (t.line l).test.onTestBus)
    (hwindow : (t.line l).test.onTestBus = true → (t.line l).lsu.settleEnd = none)
    (hr : ∀ y rec, t.receiver y = some rec → s.receiver y = some rec ∧ rec.line ≠ l ∨ rec.line = l ∧ rec.held = (t.line l).away) :
    BusLaw b' t where
  pool := hp
  onBus m := by
    by_cases hm : m = l
    · subst hm; exact hon
    · rw [hne m hm, h.onBus, hb m hm]
  relay m := by
    by_cases hm : m = l
    · subst hm; exact hrelay
    · rw [hne m hm]; exact h.relay m
  window m := by
    by_cases hm : m = l
    · subst hm; exact hwindow
    · rw [hne m hm]; exact h.window m
  held y rec hy := by
    obtain ⟨hold, hline⟩ | ⟨hline, hheld⟩ := hr y rec hy
    · rw [hne _ hline]
      exact h.held y rec hold
    · rw [hline, hheld]

/-- The receivers after a change of a line's receiver, by whose they are. -/
theorem PoolLaws.modHeld_cases (h : PoolLaws s) {u : State} (hu : u.pool = s.pool) (hl : (u.line l).pool = (s.line l).pool)
    {f : Receiver → Receiver} (hf : ∀ rec, (f rec).line = rec.line) {y : Rx} {rec : Receiver}
    (hy : (u.modHeldReceiver l f).receiver y = some rec) :
    s.receiver y = some rec ∧ rec.line ≠ l ∨ rec.line = l ∧ ∃ old, s.receiver y = some old ∧ old.line = l ∧ rec = f old := by
  have hreceiver : u.receiver y = s.receiver y := by unfold State.receiver; rw [hu]
  obtain ⟨hold, hno⟩ | ⟨hyes, old, hold, rfl⟩ := modHeldReceiver_receiver hy
  · rw [hreceiver] at hold
    exact .inl ⟨hold, h.line_ne hold (by rwa [hl] at hno)⟩
  · rw [hreceiver] at hold
    have hline := h.line_eq hold (by rwa [hl] at hyes)
    exact .inr ⟨(hf old).trans hline, old, hold, hline, rfl⟩

theorem BusLaw.connect (h : BusLaw none s) : BusLaw (some l) (s.connect l) := by
  obtain ⟨u, hu⟩ : ∃ u, u = (s.modTest l fun t => { t with onTestBus := true, relayClosed := true }).modLsu l fun v =>
    { v with settleEnd := none } := ⟨_, rfl⟩
  have hself : (u.line l).test.onTestBus = true ∧ (u.line l).test.relayClosed = true ∧ (u.line l).lsu.settleEnd = none := by simp [hu]
  have hline : ∀ m, (s.connect l).line m = u.line m := fun m => by
    unfold State.connect State.holdReceiver
    rw [modHeldReceiver_line, hu]
  refine h.moved (l := l) (poolLaws_closed.connects (l := l) h.pool) (fun m hm => ?_) (fun m hm => ?_) ?_ ?_ (fun _ => ?_) fun y rec hy => ?_
  · rw [hline, hu, line_modLsu_ne _ _ _ hm, line_modTest_ne _ _ _ hm]
  · simp [Ne.symm hm]
  · simp [hline, hself]
  · simp [hline, hself]
  · rw [hline]; exact hself.2.2
  · have haway : ((s.connect l).line l).away = true := by rw [hline, away_iff]; exact .inl hself.1
    unfold State.connect State.holdReceiver at hy
    rw [← hu] at hy
    obtain hold | ⟨hl, old, -, -, rfl⟩ := h.pool.modHeld_cases (u := u) (l := l)
      (f := fun r => { r with held := true, blockStart := none, detector := .quiet }) (by rw [hu]; rfl) (by simp [hu]) (fun _ => rfl) hy
    · exact .inl hold
    · exact .inr ⟨hl, haway.symm⟩

theorem BusLaw.disconnect (h : BusLaw (some l) s) : BusLaw none (s.disconnect l) := by
  have hself : ((s.disconnect l).line l).test.onTestBus = false ∧ ((s.disconnect l).line l).test.relayClosed = false ∧
      ((s.disconnect l).line l).lsu.settleEnd.isSome = true := by simp [State.disconnect]
  refine h.moved (l := l) (poolLaws_closed.disconnects (l := l) h.pool) (fun m hm => ?_) (fun m hm => ?_) ?_ ?_ (fun hon => ?_) fun y rec hy => ?_
  · unfold State.disconnect
    rw [line_modLsu_ne _ _ _ hm, line_modTest_ne _ _ _ hm]
  · simp [Ne.symm hm]
  · simp [hself]
  · simp [hself]
  · rw [hself.1] at hon; cases hon
  · by_cases hl : rec.line = l
    · refine .inr ⟨hl, ?_⟩
      have hbefore : (s.line l).away = true := (away_iff _).mpr (.inl ((h.onBus l).mpr rfl))
      have hafter : ((s.disconnect l).line l).away = true := (away_iff _).mpr (.inr hself.2.2)
      rw [hafter, ← hbefore, ← hl]
      exact h.held y rec hy
    · exact .inl ⟨hy, hl⟩

theorem BusLaw.resume {b : Option Line} (h : BusLaw b s) (hbus : (s.line l).test.onTestBus = false) :
    BusLaw b ((s.modLsu l fun u => { u with settleEnd := none }).resumeReceiver l) := by
  obtain ⟨u, hu⟩ : ∃ u, u = s.modLsu l fun v => { v with settleEnd := none } := ⟨_, rfl⟩
  have hself : (u.line l).test = (s.line l).test ∧ (u.line l).lsu.settleEnd = none := by simp [hu]
  have hline : ∀ m, (u.resumeReceiver l).line m = u.line m := fun m => modHeldReceiver_line _ _ _ _
  have hpool := poolLaws_closed.resumes (b := b) (l := l) hbus h.pool
  rw [← hu] at hpool ⊢
  refine h.moved (l := l) hpool (fun m hm => ?_) (fun _ _ => Iff.rfl) ?_ ?_ (fun _ => ?_) fun y rec hy => ?_
  · rw [hline, hu, line_modLsu_ne _ _ _ hm]
  · rw [hline, hself.1]; exact h.onBus l
  · rw [hline, hself.1]; exact h.relay l
  · rw [hline]; exact hself.2
  · have haway : ((u.resumeReceiver l).line l).away = false := by
      unfold LineRec.away
      rw [hline, hself.1, hbus, hself.2]
      rfl
    obtain hold | ⟨hl, old, -, -, rfl⟩ := h.pool.modHeld_cases (u := u) (by rw [hu]; rfl) (by simp [hu]) (fun rec => by split <;> rfl) hy
    · exact .inl hold
    · refine .inr ⟨hl, ?_⟩
      rw [haway]
      cases hheld : old.held <;> simp [hheld]

theorem busLaw_closed : SeatClosed True BusLaw where
  free hn := absurd trivial hn
  fresh {s} hf := by
    have hbus : ∀ l, (s.line l).test.onTestBus = false := fun l => congrArg Seat.onTestBus (hf.seat l)
    have hrelay : ∀ l, (s.line l).test.relayClosed = false := fun l => congrArg Seat.relayClosed (hf.seat l)
    refine ⟨hf.poolLaws, fun l => by simp [hbus l], fun l => (hrelay l).trans (hbus l).symm, fun l hl => ?_, fun x rec hx => ?_⟩
    · exact congrArg Seat.settleEnd (hf.seat l)
    · have hnone : s.receiver x = none := by
        unfold State.receiver
        rw [hf.pool]
        simp [Pool.cleared]
      rw [hnone] at hx
      cases hx
  apart {_ s t} ht hs := by
    refine hs.reassigned (hs.pool.congr ht) (fun y rec hy => .inl ?_) fun m => ?_
    · rwa [← receiver_of_seats ht]
    · have hm := seat_of_seats ht m
      exact ⟨congrArg Seat.onTestBus hm, congrArg Seat.relayClosed hm, congrArg Seat.settleEnd hm⟩
  dials hr hs := hs.reassigned (hs.pool.dials hr) (fun _ _ hy => .inl hy) (bus_setLine hr.seat)
  requests ha hm hr hw hs :=
    hs.reassigned (hs.pool.request ha hm hr hw) requestReceiver_reassigns (bus_besidesPool (requestReceiver_besidesPool _ _))
  givesUp {_ s l r} hp hr hs := by
    refine hs.reassigned (hs.pool.givenUp (giveUpReceiver_placeGivenUp hs.pool hp)) (fun y rec hy => ?_) fun m => ?_
    · have haway : ((s.setLine l r).line rec.line).away = (s.line rec.line).away := by
        obtain ⟨h1, -, h2⟩ := bus_setLine hr rec.line
        unfold LineRec.away
        rw [h1, h2]
      exact (giveUpReceiver_reassigns y rec hy).imp id fun hnew => hnew.trans (assigned_congr _ haway)
    · obtain ⟨h1, h2, h3⟩ := bus_besidesPool (giveUpReceiver_besidesPool (s.setLine l r) l) m
      obtain ⟨h1', h2', h3'⟩ := bus_setLine hr m
      exact ⟨h1.trans h1', h2.trans h2', h3.trans h3'⟩
  receives {_ s x rec rec'} hrec hl hheld _ hs := by
    refine ⟨hs.pool.setReceiver hrec hl, hs.onBus, hs.relay, hs.window, fun y r hy => ?_⟩
    by_cases hyx : y = x
    · subst hyx
      rw [receiver_setReceiver_self] at hy
      cases hy
      rw [hheld, hl]
      exact hs.held y rec hrec
    · rw [receiver_setReceiver_ne _ _ _ hyx] at hy
      exact hs.held y r hy
  boundary h100 hle hs := ⟨poolLaws_closed.boundary (b := none) h100 hle hs.pool, hs.onBus, hs.relay, hs.window, hs.held⟩
  connects hs := hs.connect
  disconnects hs := hs.disconnect
  resumes hbus hs := hs.resume hbus

/-- Settles O45: the line on the bus, with Laws 3 and 4, survives every change of the seats, and so every step. -/
theorem lawNineIsKept : Obligations.LawNineIsKept := by
  intro s t hp hcon hlaw ht
  have hbus := (busLaw_closed.kept.step ⟨(busLaw_iff hp).mpr hlaw, fun _ => hcon⟩ ht).1
  exact (busLaw_iff hbus.pool).mp hbus

end

end Sys2Proof.Machine


/-! SUPPORT. The laws in the state after a power-up reset, O60. -/

namespace Sys2Proof.Machine

/-- The state after a power-up is a fixed point of the cold reset. -/
theorem coldReset_reset : State.reset.coldReset .power = State.reset := by
  rw [coldReset_eq]
  rfl

theorem reset_fresh : State.reset.Fresh := by
  rw [← coldReset_reset]
  exact SeatClosed.afterReset_fresh.1 .power

theorem LineLaw.reset {P : Vector Profile 8 → ScanMode → LineRec → Prop} (h : LineLaw P) : Lines P State.reset := by
  rw [← coldReset_reset]
  exact h.coldReset State.reset .power

/-- Settles O60: each law holds after a cold reset, of which the reset state is a fixed point. -/
theorem lawsHoldAfterReset : Obligations.LawsHoldAfterReset := by
  have hpool : PoolLaws State.reset := reset_fresh.poolLaws
  obtain ⟨hengine, htimer, hcross⟩ := powerUp_laws
  refine ⟨fun _ => nofun, coldReset_reset ▸ coldReset_lawEleven State.reset .power,
    coldReset_reset ▸ coldReset_settingsLaws State.reset .power, (workingFollowsTable_iff _).mpr tied_law.reset,
    (linesBounded_iff _).mpr sound_law.reset, (periodsFollow_iff _).mpr periodFollows_law.reset, hengine,
    (lawEight_iff _).mpr (emptyQueue_law Engine.powerUp), ?_, htimer, consistent_law.reset, hpool, ?_, hcross⟩
  · exact (busLaw_iff hpool).mp (busLaw_closed.fresh reset_fresh)
  · exact gridLaws_closed.fresh (reset_fresh)

end Sys2Proof.Machine


/-! SUPPORT. Arming, the end of collection, digits and flashes as equations (R52 to R64, R66, R73 to R77), with O27, O28 and O29. -/

namespace Sys2Proof.Machine

/-! ## The lowest of a range, and the wait queue -/

/-- The first of a range that satisfies a condition is the lowest that does. -/
theorem find?_finRange {n : Nat} {p : Fin n → Bool} {x : Fin n} (hx : p x = true) (hmin : ∀ y, y < x → p y = false) :
    (List.finRange n).find? p = some x := by
  refine List.find?_eq_some_iff_getElem.mpr ⟨hx, x.val, by simp, by simp, fun j hj => ?_⟩
  simpa using hmin ⟨j, hj.trans x.isLt⟩ hj

theorem freeReceiver_least {s : State} {x : Rx} (hx : s.receiver x = none) (hmin : ∀ y, y < x → s.receiver y ≠ none) :
    s.freeReceiver = some x := by
  refine find?_finRange (by simp [hx]) fun y hy => ?_
  have hsome := hmin y hy
  cases h : s.receiver y <;> simp_all

theorem freeReceiver_eq_none {s : State} (h : ∀ x, s.receiver x ≠ none) : s.freeReceiver = none := by
  refine List.find?_eq_none.mpr fun x _ => ?_
  have hsome := h x
  cases hx : s.receiver x <;> simp_all

theorem insertAfterLast_split {α : Type} {p : α → Bool} (e : α) {ps ns : List α} (hps : ∀ x ∈ ps, p x = true) (hns : ∀ x ∈ ns, p x = false) :
    insertAfterLast p e (ps ++ ns) = ps ++ e :: ns := by
  induction ps with
  | nil =>
    cases ns with
    | nil => rfl
    | cons x ns =>
      have hany : (p x || ns.any p) = false := by
        simpa using fun y hy => hns y hy
      simp [insertAfterLast, hany]
  | cons x ps ih =>
    have hx : p x = true := hps x List.mem_cons_self
    simp [insertAfterLast, hx, ih fun y hy => hps y (List.mem_cons_of_mem x hy)]

/-! ## Arming (R53, R54) -/

/-- The record of a line whose collection is armed, before the receiver step (R53). -/
def LineRec.armed (r : LineRec) (deadline : Time) : LineRec := { r with
  dial := ⟨.waitFirst, .undetermined, [], false, some deadline, none⟩
  hook := { r.hook with pulseCount := if r.dial.collection = .inactive then r.hook.pulseCount else 0 } }

section

variable (s : State) (l : Line)

theorem armCollection_eq : s.armCollection l =
    (s.setLine l ((s.line l).armed (s.deadlineIn (s.working l).firstDigitTimeout))).receiverStep l := by
  unfold State.armCollection LineRec.armed
  dsimp only
  by_cases ha : (s.line l).dial.collection = .inactive
  · rw [if_neg (by simp [ha, Collection.active]), if_pos ha]
    rfl
  · rw [if_pos ((active_iff _).mpr ha), if_neg ha]
    simp only [State.discardPulses, State.modHook, State.modDial, setLine_setLine, line_setLine_self]

theorem receiverStep_stays (h : ¬ ((s.working l).dialModes ≠ .pulse ∧ (s.line l).pool.receiver = none ∧ (s.line l).pool.waiting = false)) :
    s.receiverStep l = s := by
  have hrequest : (s.working l).dialModes ≠ .pulse → s.requestReceiver l = s := fun hm => by
    unfold State.requestReceiver
    rw [if_pos]
    cases hr : (s.line l).pool.receiver <;> cases hw : (s.line l).pool.waiting <;> simp_all
  unfold State.receiverStep
  split
  · rfl
  · next hm => exact hrequest (by simp [hm])
  · next hm => exact hrequest (by simp [hm])

theorem receiverStep_asks (h : (s.working l).dialModes ≠ .pulse ∧ (s.line l).pool.receiver = none ∧ (s.line l).pool.waiting = false) :
    (∀ x, s.freeReceiver = some x → s.receiverStep l = s.assign x l) ∧ (s.freeReceiver = none → s.receiverStep l = s.joinWait l) := by
  obtain ⟨hm, hr, hw⟩ := h
  have hrequest : s.receiverStep l = s.requestReceiver l := by
    unfold State.receiverStep
    split
    · next hp => exact absurd hp hm
    · rfl
    · rfl
  have hidle : ¬ ((s.line l).pool.receiver.isSome || (s.line l).pool.waiting) = true := by simp [hr, hw]
  refine ⟨fun x hx => ?_, fun hnone => ?_⟩
  · simp only [hrequest, State.requestReceiver, if_neg hidle, hx]
  · simp only [hrequest, State.requestReceiver, if_neg hidle, hnone]

theorem assign_eq (x : Rx) : s.assign x l =
    (s.setLine l { s.line l with pool := { (s.line l).pool with receiver := some x } }).setReceiver x (some (s.assigned l)) := rfl

theorem joinWait_eq : s.joinWait l = { s.setLine l { s.line l with pool := { (s.line l).pool with waiting := true } } with
    pool := { s.pool with waitQueue := joinQueue s.pool.waitQueue ⟨l, (s.working l).receiverPriority⟩ } } := rfl

theorem joinQueue_split {ps ns : List WaitEntry} (hps : ∀ e ∈ ps, e.priority = true) (hns : ∀ e ∈ ns, e.priority = false) (b : Bool) :
    joinQueue (ps ++ ns) ⟨l, b⟩ = if b then ps ++ [⟨l, true⟩] ++ ns else ps ++ ns ++ [⟨l, false⟩] := by
  unfold joinQueue
  cases b with
  | false => rfl
  | true => simpa using insertAfterLast_split (p := fun e : WaitEntry => e.priority) ⟨l, true⟩ hps hns

theorem runCollectOn_eq (h : (s.line l).hook.state.inCall) :
    runCollectOn (lineByte l) s = (s.armCollection l, ⟨0x0E#8, .ok, []⟩) :=
  (onLine_lineByte s _ l _).trans (if_pos h)

end

/-- Settles O27: the armed record, and the three outcomes of the receiver step. -/
theorem collectOnArmsCollection : Obligations.CollectOnArmsCollection := by
  refine ⟨fun s now b h hb => command_unchanged h (onLine_badLine _ _ hb _), fun s now l h hno => ?_, fun s now l h hpool hcall => ?_⟩
  · exact command_unchanged h ((onLine_lineByte _ _ l _).trans (if_neg hno))
  intro r p armed asks
  have harm : ∀ t : State, (((s.hunting now).setLine l armed).receiverStep l = t.hunting now) → t.link = s.link →
      exec (.collectOn now (lineByte l)) s = .next (t.answered now ⟨0x0E#8, .ok, []⟩) := fun t ht hl => by
    refine command_makes h ((runCollectOn_eq (s.hunting now) l hcall).trans ?_) hl
    rw [armCollection_eq, ← ht]
    rfl
  have hworking : ((s.hunting now).setLine l armed).working l = p := by
    rw [State.working, line_setLine_self]
  have hline : (((s.hunting now).setLine l armed).line l).pool = r.pool := by
    rw [line_setLine_self]
  have hasks : asks ↔ (((s.hunting now).setLine l armed).working l).dialModes ≠ .pulse ∧
      (((s.hunting now).setLine l armed).line l).pool.receiver = none ∧
      (((s.hunting now).setLine l armed).line l).pool.waiting = false := by
    rw [hworking, hline]
  refine ⟨fun hno => ?_, fun hyes x hx hmin => ?_, fun hyes hfull ps ns hq hps hns => ?_⟩
  · exact harm _ (receiverStep_stays _ l (hasks.not.mp hno)) rfl
  · refine harm _ ?_ rfl
    have hfree : ((s.hunting now).setLine l armed).freeReceiver = some x := freeReceiver_least hx hmin
    have hassigned : ((s.hunting now).setLine l armed).assigned l = s.assigned l := assigned_congr _ (by rw [line_setLine_self]; rfl)
    rw [(receiverStep_asks _ l (hasks.mp hyes)).1 x hfree, assign_eq, hassigned, line_setLine_self, setLine_setLine]
    rfl
  · intro queue waiting
    refine harm _ ?_ rfl
    have hfree : ((s.hunting now).setLine l armed).freeReceiver = none := freeReceiver_eq_none hfull
    have hqueue : joinQueue (ps ++ ns) ⟨l, p.receiverPriority⟩ = queue := joinQueue_split l hps hns _
    rw [(receiverStep_asks _ l (hasks.mp hyes)).2 hfree, joinWait_eq, hworking, line_setLine_self, setLine_setLine, setLine_pool, hunting_pool, hq, hqueue]
    rfl

/-! ## The end of collection, and the digits read (R61 to R66) -/

section

variable {s : State} {l : Line}

theorem giveUpReceiver_link (k : Link) : ({ s with link := k } : State).giveUpReceiver l = { s.giveUpReceiver l with link := k } := by
  have hline : ({ s with link := k } : State).line l = s.line l := rfl
  unfold State.giveUpReceiver
  rw [hline]
  split
  · unfold State.returnReceiver
    dsimp only
    have hqueue : (({ s with link := k } : State).modPoolLine l fun p => { p with receiver := none }).pool.waitQueue =
      (s.modPoolLine l fun p => { p with receiver := none }).pool.waitQueue := rfl
    rw [hqueue]
    split <;> rfl
  · split <;> rfl

theorem endCollection_none_link (k : Link) : ({ s with link := k } : State).endCollection l none = { s.endCollection l none with link := k } := by
  have hline : ({ s with link := k } : State).line l = s.line l := rfl
  cases ha : (s.line l).dial.collection.active with
  | false => rw [endCollection_inactive ha, endCollection_inactive (hline ▸ ha), giveUpReceiver_link]
  | true =>
    rw [endCollection_active ha, endCollection_active (hline ▸ ha), ← giveUpReceiver_link]
    rfl

theorem choiceOf_choice (c : Bool) : choiceOf (if c then 1#8 else 0#8) = some c := by cases c <;> rfl

theorem exec_firstDigit {now : Time} (hhigh : s.link.resetnLow = false) :
    exec (.firstDigitTimeout now l) s = .next ((s.at now).firstDigitExpiry l) :=
  congrArg Host.Outcome.next (arrive_high hhigh now _)

theorem exec_endDialling {now : Time} (hhigh : s.link.resetnLow = false) :
    exec (.endDiallingTimerExpiry now l) s = .next ((s.at now).endDiallingExpiry l) :=
  congrArg Host.Outcome.next (arrive_high hhigh now _)

end

/-- Settles O28: COLLECT(off) and the two timers end collection by one operation, and READ_DIGITS shows the record. -/
theorem collectionEndsAndDigitsAreRead : Obligations.CollectionEndsAndDigitsAreRead := by
  refine ⟨fun s now b c h hbad => ⟨fun hb => ?_, ?_⟩, fun s now l h hpool => ⟨fun hno => ?_, fun ha => ?_⟩, fun s now l clear h => ?_,
    fun s now l hhigh hpool => ?_⟩
  · exact command_unchanged h (onLine_badLine _ _ hb _)
  · refine command_unchanged h (onLine_refused (hbad.imp id fun hc l => ?_))
    rw [choiceOf_eq_none hc]
  · refine command_unchanged h ((onLine_lineByte _ _ l _).trans ?_)
    have hoff : ¬ ((s.hunting now).line l).dial.collection.active = true := by simp [hno, Collection.active]
    exact congrArg (fun u : State => u.accept 0x0E#8 []) (if_neg hoff)
  · have hended := endCollection_ended (s := s.at now) (l := l) (hpool.congr rfl) ha
    refine ⟨_, hended, command_makes h ((onLine_lineByte _ _ l _).trans ?_) (by rw [hended.rest]; rfl)⟩
    have hon : ((s.hunting now).line l).dial.collection.active = true := (active_iff _).mpr ha
    refine (congrArg (fun u : State => u.accept 0x0E#8 []) (if_pos hon)).trans (Prod.ext ?_ rfl)
    refine (endCollection_none_link (s := s.at now) _).trans ?_
    rw [hended.rest]
    rfl
  · intro d
    refine command_makes h ((onLine_lineByte _ _ l _).trans ?_) (by cases clear <;> rfl)
    rw [choiceOf_choice]
    refine Prod.ext (by cases clear <;> rfl) (congrArg (Reply.mk 0x0F#8 .ok) ?_)
    refine congrArg ([BitVec.ofNat 8 d.buffer.length, if d.truncated then 1#8 else 0#8] ++ ·) ?_
    refine congrArg (fun f => d.buffer.flatMap f) (funext fun e => ?_)
    cases e with
    | digit k m => cases m <;> rfl
    | flash => rfl
  · intro d
    have hpool' : PoolLaws (s.at now) := hpool.congr (s := s) rfl
    have hended : ∀ b : LineEvent, d.collection ≠ .inactive → ∃ u, CollectionEnded (s.at now) u l ∧
        (s.at now).endCollection l (some b) = u.raise l b := fun b hc => endCollection_ended_event (s := s.at now) hpool' hc b
    rw [exec_firstDigit hhigh, exec_endDialling hhigh]
    refine ⟨fun hc hd => ?_, fun hno => ?_, fun hc hd => ?_, fun hno => ?_⟩
    · obtain ⟨u, hu, he⟩ := hended .firstDigitTimeout (by rw [hc]; nofun)
      exact ⟨u, hu, congrArg Host.Outcome.next ((if_pos ⟨hc, hd⟩).trans he)⟩
    · exact congrArg Host.Outcome.next (if_neg fun hboth => hno.elim (fun hn => hn hboth.1) fun hn => hn hboth.2)
    · obtain ⟨u, hu, he⟩ := hended (.diallingEnd .timeout) (by rw [hc]; nofun)
      exact ⟨u, hu, congrArg Host.Outcome.next ((if_pos ⟨hc, hd⟩).trans he)⟩
    · exact congrArg Host.Outcome.next (if_neg fun hboth => hno.elim (fun hn => hn hboth.1) fun hn => hn hboth.2)

/-! ## Digits and flashes (R55 to R60) -/

section

variable {s t t' : State} {l : Line} {r r' : LineRec}

/-- What a given-up place makes of the pool and of the other lines does not depend on the line's own record. -/
theorem PlaceGivenUp.agree (h : PlaceGivenUp s t l r) (h' : PlaceGivenUp s t' l r') :
    t.pool = t'.pool ∧ ∀ m, m ≠ l → t.line m = t'.line m := by
  cases hr : (s.line l).pool.receiver with
  | none =>
    obtain ⟨hp, hne⟩ := h.noReceiver hr
    obtain ⟨hp', hne'⟩ := h'.noReceiver hr
    exact ⟨hp.trans hp'.symm, fun m hm => (hne m hm).trans (hne' m hm).symm⟩
  | some x =>
    cases hq : s.pool.waitQueue with
    | nil =>
      obtain ⟨hp, hne⟩ := h.freed x hr hq
      obtain ⟨hp', hne'⟩ := h'.freed x hr hq
      exact ⟨hp.trans hp'.symm, fun m hm => (hne m hm).trans (hne' m hm).symm⟩
    | cons e rest =>
      obtain ⟨hp, hhead, hne⟩ := h.handedOn x e rest hr hq
      obtain ⟨hp', hhead', hne'⟩ := h'.handedOn x e rest hr hq
      refine ⟨hp.trans hp'.symm, fun m hm => ?_⟩
      by_cases he : m = e.line
      · subst he; rw [hhead, hhead']
      · rw [hne m hm he, hne' m hm he]

/-- A line that dials by pulses holds no receiver and no place, so fixing that mode is giving them up in every case (R56, R73). -/
theorem fixMode_pulse (h : PoolLaws s) (hm : (s.line l).dial.mode = .undetermined ∨ (s.line l).dial.mode = .pulse) :
    s.fixMode l .pulse = (s.setLine l { s.line l with dial := { (s.line l).dial with mode := .pulse } }).giveUpReceiver l := by
  obtain hm | hm := hm
  · simp only [State.fixMode, hm]
    rfl
  · have hsame : ({ s.line l with dial := { (s.line l).dial with mode := .pulse } } : LineRec) = s.line l := by rw [← hm]
    have hnone : ¬ ((s.line l).pool.receiver.isSome = true ∨ (s.line l).pool.waiting = true) := fun hx => (h.collecting l hx).2 hm
    simp only [State.fixMode, hm]
    rw [hsame, setLine_line, giveUpReceiver_nothing (by simpa using fun hx => hnone (.inl hx)) (by simpa using fun hx => hnone (.inr hx))]

/-- Fixing TONE discards the pulse count; a line that dials by tones stays as it is (R57). -/
theorem fixMode_tone (hm : (s.line l).dial.mode = .undetermined ∨ (s.line l).dial.mode = .tone) :
    s.fixMode l .tone = s.setLine l { s.line l with
      dial := { (s.line l).dial with mode := .tone }
      hook := if (s.line l).dial.mode = .undetermined then { (s.line l).hook with pulseCount := 0 } else (s.line l).hook } := by
  obtain hm | hm := hm
  · rw [if_pos hm]
    simp only [State.fixMode, hm, State.discardPulses, State.modDial, State.modHook, setLine_setLine, line_setLine_self]
  · have hsame : ({ s.line l with dial := { (s.line l).dial with mode := .tone } } : LineRec) = s.line l := by rw [← hm]
    rw [if_neg (by simp [hm])]
    simp only [State.fixMode, hm]
    rw [hsame, setLine_line]

/-- A full buffer ends collection, once it is marked truncated (R60). -/
theorem bufferFull_ended (h : PoolLaws s) (ha : (s.line l).dial.collection ≠ .inactive) : ∃ u,
    CollectionEnded (s.setLine l { s.line l with dial := { (s.line l).dial with truncated := true } }) u l ∧
    s.bufferFull l = u.raise l (.diallingEnd .full) :=
  endCollection_ended_event (s := s.modDial l fun d => { d with truncated := true })
    (h.congr (t := s.modDial l fun d => { d with truncated := true }) (setLine_seats s l rfl)) (by rwa [line_modDial_self]) _

/-- What a taken digit makes of the line, after its mode is fixed: `v` is the state with the mode fixed. -/
theorem takeDigit_from {v : State} {k : Key} {m : Method} (hv : s.fixMode l m = v) (hrest : v = { s with lines := v.lines, pool := v.pool })
    {mode : DialMode} {hook : HookRec} {pool : PoolLine}
    (hline : v.line l = { s.line l with dial := { (s.line l).dial with mode := mode }, hook := hook, pool := pool }) :
    let t := s.takeDigit l k m
    (∃ u : State, u.reporter = s.reporter ∧ u.link = s.link ∧ (u.line l).rep = (s.line l).rep ∧ u.partTime = s.partTime ∧
      t.reporter = (u.raise l (.digit k m)).reporter ∧ t.link = (u.raise l (.digit k m)).link ∧
      (t.line l).rep = ((u.raise l (.digit k m)).line l).rep) ∧
    t = { s with lines := t.lines, pool := t.pool, reporter := t.reporter, link := t.link } ∧
    (t.line l).dial = ⟨.collecting, mode, (s.line l).dial.buffer ++ [.digit k m], (s.line l).dial.truncated, none,
      some (s.partTime + BitVec.ofNat 32 (1000 * (s.line l).prof.working.endTimeout))⟩ ∧
    (t.line l).hook = hook ∧ (t.line l).pool = pool ∧ t.pool = v.pool ∧ ∀ i, i ≠ l → t.line i = v.line i := by
  intro t
  obtain ⟨u, hu⟩ : ∃ u, u = v.modDial l fun d => { d with buffer := d.buffer ++ [.digit k m] } := ⟨_, rfl⟩
  have ht : t = (u.raise l (.digit k m)).modDial l fun d => { d with
      collection := .collecting, firstDeadline := none
      endDeadline := some ((u.raise l (.digit k m)).deadlineIn ((u.raise l (.digit k m)).working l).endTimeout) } := by
    rw [hu, ← hv]
    rfl
  have hreporter : v.reporter = s.reporter := by rw [hrest]
  have hlink : v.link = s.link := by rw [hrest]
  have htime : v.partTime = s.partTime := by rw [hrest]
  have huline : u.line l = { v.line l with dial := { (v.line l).dial with buffer := (v.line l).dial.buffer ++ [.digit k m] } } := by
    rw [hu, line_modDial_self]
  have hupool : u.pool = v.pool := by rw [hu]; rfl
  have hdeadline : (u.raise l (.digit k m)).deadlineIn ((u.raise l (.digit k m)).working l).endTimeout =
      s.partTime + BitVec.ofNat 32 (1000 * (s.line l).prof.working.endTimeout) := by
    have hworking : (u.raise l (.digit k m)).working l = (s.line l).prof.working := by
      unfold State.working
      rw [raise_line_prof, huline, hline]
    have hpart : (u.raise l (.digit k m)).partTime = s.partTime := by rw [raise_partTime, hu, ← htime]; rfl
    unfold State.deadlineIn laterBy
    rw [hworking, hpart]
  have htline : t.line l = { (u.raise l (.digit k m)).line l with dial := ⟨.collecting, mode, (s.line l).dial.buffer ++ [.digit k m],
      (s.line l).dial.truncated, none, some (s.partTime + BitVec.ofNat 32 (1000 * (s.line l).prof.working.endTimeout))⟩ } := by
    rw [ht, line_modDial_self, hdeadline, raise_line_dial, huline, hline]
  have htne : ∀ i, i ≠ l → t.line i = v.line i := fun i hi => by
    rw [ht, line_modDial_ne _ _ _ hi, raise_line_ne _ _ _ hi, hu, line_modDial_ne _ _ _ hi]
  have htpool : t.pool = v.pool := by rw [ht, modDial_pool, raise_pool, hupool]
  refine ⟨⟨u, by rw [hu, ← hreporter]; rfl, by rw [hu, ← hlink]; rfl, by rw [huline, hline], by rw [hu, ← htime]; rfl, by rw [ht]; rfl,
    by rw [ht]; rfl, by rw [htline]⟩, ?_, by rw [htline], ?_, ?_, htpool, htne⟩
  · rw [ht, raise_rest, hu, hrest]
    rfl
  · rw [htline, raise_line_hook, huline, hline]
  · rw [htline, raise_line_pool, huline, hline]

end

/-- Settles O29: a digit and a flash, each turned down, at a full buffer, or taken. -/
theorem digitsAndFlashesAreCollected : Obligations.DigitsAndFlashesAreCollected := by
  refine ⟨fun s l k m hpool => ?_, fun s l hpool => ?_⟩
  · intro d allowed
    have hallows : d.mode.allows m = true ↔ allowed := by
      cases hm : d.mode <;> cases m <;> simp [allowed, hm, DialMode.allows]
    have hcan : d.collection ≠ .inactive → allowed → (d.collection.active && d.mode.allows m) = true := fun ha hall =>
      Bool.and_eq_true_iff.mpr ⟨(active_iff _).mpr ha, hallows.mpr hall⟩
    refine ⟨fun hno => ?_, fun ha hall hfull => ?_, fun ha hall hroom => ?_⟩
    · refine if_neg fun hx => ?_
      obtain ⟨ha, hall⟩ := Bool.and_eq_true_iff.mp hx
      exact hno.elim ((active_iff _).mp ha) fun hn => hn (hallows.mp hall)
    · obtain ⟨u, hu, he⟩ := bufferFull_ended hpool ha
      exact ⟨u, hu, (if_pos (hcan ha hall)).trans ((if_neg (Nat.not_lt.mpr hfull)).trans he)⟩
    · intro t
      have htaken : t = s.takeDigit l k m := LineClosed.collectDigit_taken (hcan ha hall) hroom k
      rw [htaken]
      cases m with
      | pulse =>
        have hmode : d.mode = .undetermined ∨ d.mode = .pulse := by simpa [allowed] using hall
        have hgiven := giveUpReceiver_placeGivenUp (s := s) (l := l)
          (r := { s.line l with dial := { (s.line l).dial with mode := .pulse } }) hpool rfl
        obtain ⟨⟨u, hu⟩, hrest, hdial, hhook, hplace, hp, hne⟩ := takeDigit_from (k := k) (fixMode_pulse hpool hmode) hgiven.rest
          (mode := .pulse) (hook := (s.line l).hook) (pool := ⟨(s.line l).pool.slot, none, false⟩) hgiven.line
        have hended := giveUpReceiver_placeGivenUp (s := s) (l := l) (r := (s.line l).collectionOver) hpool rfl
        obtain ⟨hagree, hothers⟩ := hgiven.agree hended
        obtain ⟨h1, h2, h3, h4, h5, h6, h7⟩ := hu
        refine ⟨u, h1, h2, h3, h4, h5, h6, h7, hrest, hdial, ?_, hplace, nofun, fun _ => ⟨_, hended.ended, hp.trans hagree, fun i hi => ?_⟩⟩
        · rw [hhook, if_neg (by simp)]
        · rw [hne i hi, hothers i hi]
      | tone =>
        have hmode : d.mode = .undetermined ∨ d.mode = .tone := by simpa [allowed] using hall
        obtain ⟨⟨u, hu⟩, hrest, hdial, hhook, hplace, hp, hne⟩ := takeDigit_from (k := k) (fixMode_tone hmode) rfl
          (mode := .tone) (hook := if d.mode = .undetermined then { (s.line l).hook with pulseCount := 0 } else (s.line l).hook)
          (pool := (s.line l).pool) (line_setLine_self _ _ _)
        obtain ⟨h1, h2, h3, h4, h5, h6, h7⟩ := hu
        refine ⟨u, h1, h2, h3, h4, h5, h6, h7, hrest, hdial, ?_, hplace, fun _ => ⟨hp, fun i hi => ?_⟩, nofun⟩
        · rw [hhook]
          simp
        · rw [hne i hi, line_setLine_ne _ _ _ hi]
  · intro r d entered
    have hroomy : ∀ {a b : State}, d.buffer.length < 24 → (if d.buffer.length < Config.bufferCap then a else b) = a := fun h => if_pos h
    have hfully : ∀ {a b : State}, 24 ≤ d.buffer.length → (if d.buffer.length < Config.bufferCap then a else b) = b := fun h =>
      if_neg (Nat.not_lt.mpr h)
    refine ⟨fun hno => ?_, fun hc hroom => ?_, fun hc hroom => ?_, fun ha hfull => ?_⟩
    · have hc : (s.line l).dial.collection = .inactive := hno
      simp only [State.collectFlash, hc, Collection.active, Bool.false_eq_true, if_false, ite_self]
    · have hc : (s.line l).dial.collection = .waitFirst := hc
      simp only [State.collectFlash, hc]
      exact hroomy hroom
    · have hc : (s.line l).dial.collection = .collecting := hc
      simp only [State.collectFlash, hc]
      exact hroomy hroom
    · obtain ⟨u, hu, he⟩ := bufferFull_ended hpool ha
      exact ⟨u, hu, (hfully hfull).trans ((if_pos ((active_iff _).mpr ha)).trans he)⟩

end Sys2Proof.Machine


/-! SUPPORT. The grid, the start of a receiver, the completion of a block (R68, R72, R74, R80, R84 to R93), and the battery readings
(R152 to R154), with O32, O33 and O59. -/

namespace Sys2Proof.Machine

section

variable {s : State} {x : Rx} {rec : Receiver} {b : Boundary} {frame : Nat}

theorem onGrid_iff (b : Boundary) (frame : Nat) (now : Time) : onGrid b frame now = true ↔ Falls b frame now := by
  simp [onGrid, Falls]

theorem exec_firstSync {now : Time} (hhigh : s.link.resetnLow = false) : exec (.firstFrameSyncPulse now) s = .next (s.at now).firstSync :=
  congrArg Host.Outcome.next (arrive_high hhigh now _)

theorem exec_receiverStart {now : Time} (hhigh : s.link.resetnLow = false) :
    exec (.receiverStart ⟨frame, now⟩ x) s = .next ((s.at now).startReceiver x frame) :=
  congrArg Host.Outcome.next (arrive_high hhigh now _)

theorem startReceiver_starts (hrec : s.receiver x = some rec) (hg : s.pool.grid = some b) (hstart : rec.blockStart = none)
    (hheld : rec.held = false) (hfalls : Falls b frame s.partTime) : s.startReceiver x frame =
      (s.reachBoundary frame).setReceiver x (some { rec with blockStart := some frame, slotChange := false }) := by
  have hgrid := (onGrid_iff _ _ _).mpr hfalls
  simp [State.startReceiver, hg, hrec, Receiver.started, hstart, hheld, hgrid]

theorem startReceiver_stays (h : s.pool.grid = none ∨ s.receiver x = none ∨
    (∃ rec, s.receiver x = some rec ∧ (rec.blockStart.isSome = true ∨ rec.held = true)) ∨
    (∃ b, s.pool.grid = some b ∧ ¬ Falls b frame s.partTime)) : s.startReceiver x frame = s := by
  unfold State.startReceiver
  split
  · next g r hg hr =>
    refine if_pos ?_
    rw [hg, hr] at h
    obtain h | h | ⟨r', h, hr'⟩ | ⟨g', h, hr'⟩ := h
    · cases h
    · cases h
    · cases h
      obtain hr' | hr' := hr' <;> simp [Receiver.started, hr']
    · cases h
      simp [Bool.eq_false_iff.mpr ((onGrid_iff _ _ _).not.mpr hr')]
  · rfl

end

/-- Settles O32: a receiver starts at a boundary that can fall, and takes nothing from any other arrival. -/
theorem receiversStartOnTheGrid : Obligations.ReceiversStartOnTheGrid := by
  intro s now hhigh
  rw [exec_firstSync hhigh]
  refine ⟨fun hg => ?_, fun hg => ?_, fun x rec b frame hrec hg hstart hheld hfalls => ?_, fun x frame h => ?_⟩
  · have hg' : (s.at now).pool.grid = none := hg
    simp only [State.firstSync, hg']
    rfl
  · obtain ⟨b, hb⟩ := Option.isSome_iff_exists.mp hg
    have hb' : (s.at now).pool.grid = some b := hb
    simp only [State.firstSync, hb']
  · rw [exec_receiverStart hhigh, startReceiver_starts (s := s.at now) hrec hg hstart hheld hfalls]
    rfl
  · rw [exec_receiverStart hhigh, startReceiver_stays h]

/-! ## Blocks (R84 to R93) -/

section

variable {s : State} {x : Rx} {rec : Receiver} {b : Boundary} {f : Nat} {frames : List HighwayFrame}

theorem exec_blockCompletion {now : Time} (hhigh : s.link.resetnLow = false) :
    exec (.blockCompletion now x frames) s = .next ((s.at now).blockDone x frames) :=
  congrArg Host.Outcome.next (arrive_high hhigh now _)

theorem blockDone_stays (h : s.pool.grid = none ∨ s.receiver x = none ∨ frames.length ≠ 100 ∨
    (∃ rec, s.receiver x = some rec ∧ (rec.blockStart = none ∨ rec.held = true)) ∨
    (∃ b rec f, s.pool.grid = some b ∧ s.receiver x = some rec ∧ rec.blockStart = some f ∧ ¬ Falls b (f + 100) s.partTime)) :
    s.blockDone x frames = s := by
  unfold State.blockDone
  split
  · next g r hg hr =>
    split
    · next f hf =>
      refine if_neg ?_
      rw [hg, hr] at h
      obtain h | h | h | ⟨r', h, hr'⟩ | ⟨g', r', f', h, h', hf', hr'⟩ := h
      · cases h
      · cases h
      · simp [h]
      · cases h
        obtain hr' | hr' := hr'
        · rw [hr'] at hf; cases hf
        · simp [hr']
      · cases h
        cases h'
        rw [hf'] at hf
        cases hf
        simp [Bool.eq_false_iff.mpr ((onGrid_iff _ _ _).not.mpr hr')]
    · rfl
  · rfl

theorem blockDone_completes (hg : s.pool.grid = some b) (hrec : s.receiver x = some rec) (hf : rec.blockStart = some f)
    (hheld : rec.held = false) (hlen : frames.length = 100) (hfalls : Falls b (f + 100) s.partTime) :
    s.blockDone x frames = (s.reachBoundary (f + 100)).completeBlock x { rec with blockStart := some (f + 100) } frames := by
  have hgrid := (onGrid_iff _ _ _).mpr hfalls
  simp only [State.blockDone, hg, hrec, hf]
  exact if_pos (by simp [hheld, hlen, hgrid])

/-- A block at a marked slot change is discarded (R72). -/
theorem completeBlock_marked (h : rec.slotChange = true) :
    s.completeBlock x rec frames = s.setReceiver x (some { rec with slotChange := false, detector := .quiet }) := if_pos h

/-- A block moves the detector, and an accepted digit goes to the collector (R84, R90). -/
theorem completeBlock_moves (h : rec.slotChange = false) {d : Detector} {accepted : Option Key}
    (hm : rec.detector.move s.tone (s.classifyBlock rec.line frames) = (d, accepted)) :
    (accepted = none → s.completeBlock x rec frames = s.setReceiver x (some { rec with detector := d })) ∧
    (∀ k, accepted = some k → s.completeBlock x rec frames =
      (s.setReceiver x (some { rec with detector := d })).collectDigit rec.line k .tone) := by
  have hcomplete : s.completeBlock x rec frames = s.moveDetector x rec (s.classifyBlock rec.line frames) := if_neg (by simp [h])
  rw [hcomplete]
  revert hm
  generalize s.classifyBlock rec.line frames = block
  intro hm
  refine ⟨fun ha => ?_, fun k ha => ?_⟩ <;> simp only [State.moveDetector, hm, ha]

end

/-- Settles O33: the rows of the detector's tables, for the block that completes. -/
theorem blockCompletionsMoveTheDetector : Obligations.BlockCompletionsMoveTheDetector := by
  intro s now x frames hhigh
  rw [exec_blockCompletion hhigh]
  refine ⟨fun h => by rw [blockDone_stays h], fun rec b f hg hrec hf hheld hlen hfalls => ?_⟩
  intro reached next
  have hdone : (s.at now).blockDone x frames = reached.completeBlock x next frames :=
    blockDone_completes hg hrec hf hheld hlen hfalls
  rw [hdone]
  refine ⟨fun hmark => congrArg Host.Outcome.next (completeBlock_marked (rec := next) hmark), fun hmark => ?_⟩
  intro bytes block becomes accepts
  have hblock : reached.classifyBlock next.line frames = block := by
    unfold State.classifyBlock State.tapBytes
    rfl
  have hbecomes : ∀ d, rec.detector.move s.tone block = (d, none) → becomes d := fun d hm => by
    exact congrArg Host.Outcome.next ((completeBlock_moves (s := reached) (rec := next) hmark (hblock ▸ hm)).1 rfl)
  have haccepts : ∀ d, rec.detector.move s.tone block = (.held d, some d) → accepts d := fun d hm => by
    exact congrArg Host.Outcome.next ((completeBlock_moves (s := reached) (rec := next) hmark (hblock ▸ hm)).2 d rfl)
  clear_value block
  refine ⟨fun hd => ⟨fun d hb => ?_, fun hb => ?_⟩, fun d n hd => ⟨fun hb hn => ?_, fun hb hn => ?_, fun e he hb => ?_, fun hb => ?_⟩,
    fun d hd => ⟨fun hb => ?_, fun hb hp => ?_, fun hb hp => ?_⟩, fun d k hd => ⟨fun hb => ?_, fun e he hb => ?_, fun hb hk => ?_, fun hb hk => ?_⟩⟩
  · exact hbecomes _ (by rw [hd, hb]; rfl)
  · exact hbecomes _ (by rw [hd, hb]; rfl)
  · exact haccepts _ (by simp [hd, hb, Detector.move, hn])
  · exact hbecomes _ (by simp [hd, hb, Detector.move, Nat.not_le.mpr hn])
  · exact hbecomes _ (by simp [hd, hb, Detector.move, he, Detector.afresh])
  · exact hbecomes _ (by rw [hd, hb]; rfl)
  · obtain ⟨e, he⟩ := Option.isSome_iff_exists.mp hb
    exact hbecomes _ (by rw [hd, he]; rfl)
  · exact hbecomes _ (by simp [hd, hb, Detector.move, hp])
  · exact hbecomes _ (by simp [hd, hb, Detector.move, Nat.not_le.mpr (Nat.lt_succ_of_le hp)])
  · exact hbecomes _ (by simp [hd, hb, Detector.move])
  · exact hbecomes _ (by simp [hd, hb, Detector.move, he, Detector.afresh])
  · exact hbecomes _ (by simp [hd, hb, Detector.move, hk])
  · exact hbecomes _ (by simp [hd, hb, Detector.move, Nat.not_le.mpr hk])

/-! ## The battery (R152 to R154) -/

section

variable {s : State}

theorem exec_batteryReading {now : Time} {volts : Nat} (hhigh : s.link.resetnLow = false) :
    exec (.batteryReading now volts) s = .next ((s.at now).readBattery volts) :=
  congrArg Host.Outcome.next (arrive_high hhigh now _)

theorem judgedState_eq (b : BatteryState) (index : Fin 8) (v : Nat) : judgedState b index v =
    if b = .normal then if v < 40 + 2 * index.val then .low else .normal
    else if 40 + 2 * index.val + 1 ≤ v then .normal else .low := by
  cases b <;> rfl

theorem deriveMode_same (h : scanModeOf s.battery.setting s.battery.state = s.battery.mode) : s.deriveMode = s := if_pos h

theorem deriveMode_changes (h : scanModeOf s.battery.setting s.battery.state ≠ s.battery.mode) : s.deriveMode =
    (({ s with battery := { s.battery with mode := scanModeOf s.battery.setting s.battery.state } } : State).reperiodAll).raiseDevice
      (.scanMode (scanModeOf s.battery.setting s.battery.state)) := if_neg h

theorem reperiodAll_eq (b : Battery) : ({ s with battery := b } : State).reperiodAll = { s with
    battery := b
    lines := Vector.ofFn fun l => { s.line l with lsu := (s.line l).lsu.reperiod (s.line l).hook.state b.mode s.partTime } } := rfl

/-- A reading is taken at every positive multiple of 1000 ms (R152). -/
theorem readBattery_taken (volts : Nat) (ht : s.partTime.toNat % 1000 = 0) (h0 : s.partTime ≠ 0#32) {read : State}
    (hread : read = { s with battery := { s.battery with
      reading := some (min volts 80), state := judgedState s.battery.state s.battery.index (min volts 80) } }) :
    s.readBattery volts = if judgedState s.battery.state s.battery.index (min volts 80) ≠ s.battery.state then
      (read.raiseDevice (.battery (min volts 80) (judgedState s.battery.state s.battery.index (min volts 80)))).deriveMode
      else read := by
  subst hread
  unfold State.readBattery
  rw [if_pos ⟨ht, h0⟩]
  simp only [decide_eq_true_eq]

end

/-- Settles O59: a reading is stored; a change of the judged state raises BATTERY, and a change of the mode SCAN_MODE after it. -/
theorem batteryReadingsAreJudged : Obligations.BatteryReadingsAreJudged := by
  intro s now volts hhigh hlaws v low b m read
  rw [exec_batteryReading hhigh]
  have hb : judgedState s.battery.state s.battery.index v = b := judgedState_eq _ _ _
  have hm : scanModeOf s.battery.setting b = m := scanModeOf_eq _ _
  refine ⟨fun hno => ?_, fun ht h0 => ?_⟩
  · refine congrArg Host.Outcome.next (if_neg fun hboth => ?_)
    exact hno.elim (fun h => h hboth.1) fun h => hboth.2 h
  have hstate : judgedState (s.at now).battery.state (s.at now).battery.index (min volts 80) = b := hb
  have htaken : (s.at now).readBattery volts =
      if b ≠ s.battery.state then (read.raiseDevice (.battery v b)).deriveMode else read := by
    have h := readBattery_taken (s := s.at now) volts ht h0 rfl
    rw [hstate] at h
    exact h
  refine ⟨fun hsame => ?_, fun hchange hmode => ?_, fun hchange hmode => ?_⟩
  · rw [htaken, if_neg (by simpa using hsame)]
  · rw [htaken, if_pos hchange, deriveMode_same]
    rw [raiseDevice_battery]
    exact hm.trans hmode
  · intro raised
    have hbattery : raised.battery = read.battery := raiseDevice_battery _ _
    have hlines : ∀ l, raised.line l = s.line l := fun l => raiseDevice_line _ _ _
    have htime : raised.partTime = now := raiseDevice_partTime _ _
    have hderived : scanModeOf raised.battery.setting raised.battery.state = m := by rw [hbattery]; exact hm
    have hdiffers : scanModeOf raised.battery.setting raised.battery.state ≠ raised.battery.mode := by
      rw [hderived, hbattery]
      exact hmode
    rw [htaken, if_pos hchange, deriveMode_changes hdiffers, hderived, reperiodAll_eq, hbattery, htime, funext hlines]

end Sys2Proof.Machine


/-! SUPPORT. A due sample as a dispatch by hook state, and the resting, learning and seizing samples as equations (R1, R4, R6, R12 to R21,
R27 to R31), with O51 to O54. -/

namespace Sys2Proof.Machine

section

variable {s : State} {now : Time} {l : Line} {i : Nat} {ov : Bool}

/-- The state with a sample of the line recorded and its OV indication counted (R1, R20). -/
def State.sampledAt (s : State) (now : Time) (l : Line) (i : Nat) (ov : Bool) : State :=
  (s.at now).setLine l { s.line l with lsu := (s.line l).lsu.sampled now i ov }

theorem exec_sample_high (hhigh : s.link.resetnLow = false) : exec (.sampleRecord now l i ov) s = .next ((s.at now).sample l i ov) :=
  congrArg Host.Outcome.next (arrive_high hhigh now _)

theorem evalOv_eq (u : Lsu) (now : Time) (i : Nat) (ov : Bool) :
    ({ u with lastSample := some ⟨min i 1200, ov, now⟩, nextSample := u.period.nextAfter now } : Lsu).evalOv ov =
      (u.sampled now i ov, u.completesRun ov) := by
  obtain ⟨period, next, last, run, active, base, seize, rel, learn, clamp, reported, settle⟩ := u
  have hrun : 3 ≤ run + 1 ↔ 2 ≤ run := by omega
  cases active <;> cases ov <;> by_cases h : 2 ≤ run <;> simp [Lsu.evalOv, Lsu.sampled, Lsu.completesRun, hrun, h]

/-- A due sample is recorded, and then reports its completed run or is taken as usable or set aside (R4). -/
theorem exec_sample (h : s.due now l) : exec (.sampleRecord now l i ov) s =
    .next (if (s.line l).lsu.completesRun ov then (s.sampledAt now l i ov).powerCross l
      else (s.sampledAt now l i ov).usableSample l (min i 1200)) := by
  rw [exec_sample_high h.resetnHigh]
  refine congrArg Host.Outcome.next ((if_pos h.isNext).trans ?_)
  have hrecord : (s.at now).recordSample l (min i 1200) ov = (s.at now).setLine l { s.line l with
      lsu := { (s.line l).lsu with lastSample := some ⟨min i 1200, ov, now⟩, nextSample := (s.line l).lsu.period.nextAfter now } } := rfl
  unfold State.takeSample
  rw [hrecord]
  dsimp only
  rw [line_setLine_self, evalOv_eq]
  unfold State.modLsu
  rw [line_setLine_self, setLine_setLine]
  rfl

@[simp] theorem sampledAt_line_self : (s.sampledAt now l i ov).line l = { s.line l with lsu := (s.line l).lsu.sampled now i ov } :=
  line_setLine_self _ _ _
@[simp] theorem sampledAt_partTime : (s.sampledAt now l i ov).partTime = now := rfl
@[simp] theorem sampledAt_battery : (s.sampledAt now l i ov).battery = s.battery := rfl
@[simp] theorem sampledAt_working : (s.sampledAt now l i ov).working l = (s.line l).prof.working := by
  rw [State.working, sampledAt_line_self]
@[simp] theorem sampledAt_setLine (r : LineRec) : (s.sampledAt now l i ov).setLine l r = (s.at now).setLine l r :=
  setLine_setLine _ _ _ _

theorem exec_notDue (hhigh : s.link.resetnLow = false) (hno : (s.line l).lsu.nextSample ≠ some now) :
    exec (.sampleRecord now l i ov) s = .next (s.at now) := by
  rw [exec_sample_high hhigh]
  exact congrArg Host.Outcome.next (if_neg hno)

/-- A due sample that completes no run, on a line that is clear, is handled by the hook state (R4). -/
theorem exec_usable (h : s.due now l) (hrun : (s.line l).lsu.completesRun ov = false) (hclear : (s.line l).clear) :
    exec (.sampleRecord now l i ov) s = .next ((s.sampledAt now l i ov).dispatchSample l (min i 1200)) := by
  have hoff : ((s.sampledAt now l i ov).line l).test.onTestBus = false := by rw [sampledAt_line_self]; exact hclear.offBus
  have hwindow : ((s.sampledAt now l i ov).line l).lsu.settleEnd = none := by rw [sampledAt_line_self]; exact hclear.noWindow
  rw [exec_sample h, if_neg (by simp [hrun])]
  simp only [State.usableSample, hoff, hwindow, State.isBefore, Bool.or_self, Bool.false_eq_true, if_false, Option.isSome_none]

theorem dispatch_learning (h : (s.line l).hook.state = .learning) : s.dispatchSample l i = s.learningSample l i := by
  simp only [State.dispatchSample, h]
theorem dispatch_idle (h : (s.line l).hook.state = .idle) : s.dispatchSample l i = s.restingSample l i := by
  simp only [State.dispatchSample, h]
theorem dispatch_seizing (h : (s.line l).hook.state = .seizing) : s.dispatchSample l i = s.seizingSample l i := by
  simp only [State.dispatchSample, h]
theorem dispatch_offHook (h : (s.line l).hook.state = .offHook) : s.dispatchSample l i = s.offHookSample l i := by
  simp only [State.dispatchSample, h]
theorem dispatch_onBreak (h : (s.line l).hook.state = .onBreak) : s.dispatchSample l i = s.breakSample l i := by
  simp only [State.dispatchSample, h]
theorem dispatch_quarantined (h : (s.line l).hook.state = .quarantined) : s.dispatchSample l i = s := by
  simp only [State.dispatchSample, h]

/-! ## Resting and learning samples (R12 to R17, R28) -/

theorem seize_eq : s.seize l = s.setLine l { s.line l with
    hook := { (s.line l).hook with state := .seizing, runStart := some s.partTime }
    lsu := { (s.line l).lsu with leakClamp := none, leakReported := false }.reperiod .seizing s.battery.mode s.partTime } := by
  simp only [State.seize, State.modHook, State.modLsu, State.reperiodLine, setLine_setLine, line_setLine_self, setLine_partTime,
    setLine_battery]

theorem joinSticky_eq (k : FaultSet) : s.joinSticky l k =
    if k &&& ~~~(s.line l).fault.sticky = 0#6
    then s.setLine l { s.line l with fault := { (s.line l).fault with sticky := (s.line l).fault.sticky ||| k } }
    else (s.setLine l { s.line l with fault := { (s.line l).fault with sticky := (s.line l).fault.sticky ||| k } }).raise l
      (.fault (k &&& ~~~(s.line l).fault.sticky)) := rfl

/-- One kind is new exactly where its bit is not yet set. -/
theorem newKind_lk (x : FaultSet) : 2#6 &&& ~~~x = if x.getLsbD 1 then 0#6 else 2#6 := by
  revert x
  decide

theorem newKind_px (x : FaultSet) : 1#6 &&& ~~~x = if x.getLsbD 0 then 0#6 else 1#6 := by
  revert x
  decide

theorem joinSticky_lk : s.joinSticky l FaultSet.lk =
    if (s.line l).fault.sticky.getLsbD 1
    then s.setLine l { s.line l with fault := { (s.line l).fault with sticky := (s.line l).fault.sticky ||| 2#6 } }
    else (s.setLine l { s.line l with fault := { (s.line l).fault with sticky := (s.line l).fault.sticky ||| 2#6 } }).raise l
      (.fault 2#6) := by
  have hnew : FaultSet.lk &&& ~~~(s.line l).fault.sticky = if (s.line l).fault.sticky.getLsbD 1 then 0#6 else 2#6 := newKind_lk _
  rw [joinSticky_eq, hnew]
  cases (s.line l).fault.sticky.getLsbD 1 <;> rfl

theorem presses_iff (u : Lsu) (p : Profile) (c : Nat) : u.presses p c = true ↔ u.baseline = 4096 * p.leakMax ∧ p.leakMax < c := by
  simp [Lsu.presses, baselineMax]

/-- A resting update that reports no alarm (R15). -/
theorem restingUpdate_judges {c : Nat} {p : Profile} {u : Lsu} (hp : s.working l = p) (hu : (s.line l).lsu.update p c p.trackShift = u)
    (h : (u.presses p c && u.alarmDue s.partTime) = false) :
    s.restingUpdate l c = s.setLine l { s.line l with lsu := u.judgeClamp p (u.presses p c) s.partTime } := by
  subst hp hu
  exact if_neg (by simp [h])

/-- A resting update at which a clamp held for its alarm limit is reported (R16, R133). -/
theorem restingUpdate_reports {c : Nat} {p : Profile} {u : Lsu} (hp : s.working l = p) (hu : (s.line l).lsu.update p c p.trackShift = u)
    (h : (u.presses p c && u.alarmDue s.partTime) = true) :
    s.restingUpdate l c = (s.setLine l { s.line l with lsu := { u with leakClamp := none, leakReported := true } }).leakageSuspicion l := by
  subst hp hu
  exact if_pos h

end

/-- Settles O53: the two ways of a resting sample, and the clamp's four. -/
theorem restingSamples : Obligations.RestingSamples := by
  intro s now l i ov hdue hrun hclear hst r p u c b rested becomes presses
  have hexec : exec (.sampleRecord now l i ov) s = .next ((s.sampledAt now l i ov).restingSample l c) := by
    rw [exec_usable hdue hrun hclear, dispatch_idle (by rw [sampledAt_line_self]; exact hst)]
  have hseize : ((s.sampledAt now l i ov).line l).lsu.tSeize = r.lsu.tSeize := by rw [sampledAt_line_self]; rfl
  refine ⟨fun hc => ?_, fun hc => ?_⟩
  · rw [hexec]
    unfold State.restingSample
    rw [hseize, if_pos hc, seize_eq, sampledAt_setLine, sampledAt_line_self]
    rfl
  have hrest : (s.sampledAt now l i ov).restingSample l c = (s.sampledAt now l i ov).restingUpdate l c :=
    if_neg (by rw [hseize]; omega)
  rw [hrest] at hexec
  have hupdate : ((s.sampledAt now l i ov).line l).lsu.update p c p.trackShift = rested := by rw [sampledAt_line_self]; rfl
  have hpresses : rested.presses p c = true ↔ presses := presses_iff rested p c
  have hjudge : (rested.presses p c && rested.alarmDue now) = false → ∀ lsu, rested.judgeClamp p (rested.presses p c) now = lsu →
      becomes lsu := fun hno lsu hlsu => by
    refine hexec.trans (congrArg Host.Outcome.next ?_)
    rw [restingUpdate_judges sampledAt_working hupdate hno, sampledAt_setLine, sampledAt_line_self]
    rw [← hlsu]
    rfl
  refine ⟨fun hno => ?_, fun hyes hnone => ?_, fun k hyes hk hlt => ?_, fun k hyes hk hle => ?_⟩
  · have hfalse : rested.presses p c = false := by simpa using hpresses.not.mpr hno
    exact hjudge (by simp [hfalse]) _ (by rw [hfalse]; rfl)
  · have htrue := hpresses.mpr hyes
    have hclamp : rested.leakClamp = none := hnone
    refine hjudge (by simp [Lsu.alarmDue, hclamp]) _ ?_
    simp only [Lsu.judgeClamp, htrue, hclamp, if_true]
    rfl
  · have htrue := hpresses.mpr hyes
    have hclamp : rested.leakClamp = some k := hk
    refine hjudge (by simp [Lsu.alarmDue, hclamp, hlt]) _ ?_
    simp only [Lsu.judgeClamp, htrue, hclamp, if_true]
  · have htrue := hpresses.mpr hyes
    have hclamp : rested.leakClamp = some k := hk
    intro v
    have hdue' : (rested.presses p c && rested.alarmDue now) = true := by simp [htrue, Lsu.alarmDue, hclamp, hle]
    rw [hexec, restingUpdate_reports sampledAt_working hupdate hdue', sampledAt_setLine, sampledAt_line_self]
    unfold State.leakageSuspicion
    rw [joinSticky_lk, line_setLine_self, setLine_setLine]

theorem endLearning_eq {s : State} {l : Line} : s.endLearning l = s.setLine l { s.line l with
    hook := { (s.line l).hook.clearCall with state := .idle }
    lsu := { (s.line l).lsu with learningEnd := none }.reperiod .idle s.battery.mode s.partTime } := by
  simp only [State.endLearning, State.modHook, State.modLsu, State.reperiodLine, setLine_setLine, line_setLine_self, setLine_partTime,
    setLine_battery]

/-- A sample of a line that rests, with its handling spelt out for a state whose line `l` has a record given (R14). -/
theorem restingSample_seizes {s : State} {l : Line} {c : Nat} (h : (s.line l).lsu.tSeize ≤ c) : s.restingSample l c = s.seize l := if_pos h

theorem restingSample_updates {s : State} {l : Line} {c : Nat} (h : c < (s.line l).lsu.tSeize) : s.restingSample l c = s.restingUpdate l c :=
  if_neg (Nat.not_le.mpr h)

/-- A line outside a call has nothing pending. -/
theorem not_pending {r : LineRec} (h : r.consistent) (hidle : r.hook.state.busy = false) :
    r.hook.pendingQuarantine = false ∧ r.hook.pendingProfile = false := by
  have hno := mt h.pending (by simp [hidle])
  simpa using hno

theorem not_clamped {r : LineRec} (h : r.consistent) (hidle : r.hook.state ≠ .idle) :
    r.lsu.leakClamp = none ∧ r.lsu.leakReported = false := by
  have hno := mt h.clamp hidle
  simpa using hno

/-- A LEARNING line as the end of learning leaves it, its LSU fields being `u` (R12, R27). -/
def LineRec.learned (r : LineRec) (u : Lsu) : LineRec := { r with
  hook := { r.hook.clearCall with state := .idle }
  lsu := { u with learningEnd := none } }

/-- The periods of LEARNING and IDLE agree, so the end of learning leaves the next sample time. -/
theorem endLearning_learned {s : State} {now : Time} {l : Line} {i : Nat} {ov : Bool}
    (hst : (s.line l).hook.state = .learning) (hp : (s.line l).lsu.period = periodOf (s.line l).hook.state s.battery.mode) :
    (s.sampledAt now l i ov).endLearning l = (s.at now).setLine l ((s.line l).learned ((s.line l).lsu.sampled now i ov)) := by
  have hperiod : periodOf .idle s.battery.mode = ({ (s.line l).lsu.sampled now i ov with learningEnd := none } : Lsu).period := by
    refine Eq.trans ?_ hp.symm
    rw [hst]
    cases s.battery.mode <;> rfl
  rw [endLearning_eq, sampledAt_setLine, sampledAt_line_self, sampledAt_battery, sampledAt_partTime]
  dsimp only
  rw [Lsu.reperiod, if_pos hperiod]
  rfl

section

variable {r : LineRec} {now : Time} {i : Nat} {ov : Bool}

theorem learned_seized (hq : r.hook.pendingQuarantine = false) (hp : r.hook.pendingProfile = false)
    (hc : r.lsu.leakClamp = none) (hr : r.lsu.leakReported = false) {m : ScanMode} {t : Time} :
    ({ r.learned (r.lsu.sampled now i ov) with
      hook := { (r.learned (r.lsu.sampled now i ov)).hook with state := .seizing, runStart := some t }
      lsu := { (r.learned (r.lsu.sampled now i ov)).lsu with leakClamp := none, leakReported := false }.reperiod .seizing m now } : LineRec) =
    { r with
      hook := ⟨r.hook.service, .seizing, some t, none, none, 0, false, false⟩
      lsu := { r.lsu.sampled now i ov with learningEnd := none }.reperiod .seizing m now } := by
  obtain ⟨lsu, hook, dial, pool, test, fault, prof, rep⟩ := r
  obtain ⟨service, state, run, brk, mk, pulses, quarantine, profile⟩ := hook
  obtain ⟨period, next, last, run, active, base, seize, rel, learn, clamp, reported, settle⟩ := lsu
  cases hq; cases hp; cases hc; cases hr
  rfl

theorem learned_judged {p : Profile} {c : Nat} (hq : r.hook.pendingQuarantine = false) (hp : r.hook.pendingProfile = false)
    (hc : r.lsu.leakClamp = none) (hr : r.lsu.leakReported = false) :
    ({ r.learned (r.lsu.sampled now i ov) with
      lsu := ((r.learned (r.lsu.sampled now i ov)).lsu.update p c p.trackShift).judgeClamp p
        (((r.learned (r.lsu.sampled now i ov)).lsu.update p c p.trackShift).presses p c) now } : LineRec) =
    { r with
      hook := ⟨r.hook.service, .idle, none, none, none, 0, false, false⟩
      lsu := { (r.lsu.sampled now i ov).withBaseline (updatedBaseline r.lsu.baseline c p.trackShift p.leakMax) p with
        learningEnd := none
        leakClamp := if updatedBaseline r.lsu.baseline c p.trackShift p.leakMax = 4096 * p.leakMax ∧ p.leakMax < c
          then some ⟨now, 1000 * p.leakAlarmTime⟩ else none } } := by
  obtain ⟨lsu, hook, dial, pool, test, fault, prof, rep⟩ := r
  obtain ⟨service, state, run, brk, mk, pulses, quarantine, profile⟩ := hook
  obtain ⟨period, next, last, run, active, base, seize, rel, learn, clamp, reported, settle⟩ := lsu
  cases hq; cases hp; cases hc; cases hr
  by_cases h : updatedBaseline base c p.trackShift p.leakMax = 4096 * p.leakMax ∧ p.leakMax < c
  · rw [(presses_iff _ _ _).mpr h]
    simp only [if_pos h]
    rfl
  · rw [Bool.eq_false_iff.mpr (mt (presses_iff _ _ _).mp h)]
    simp only [if_neg h]
    rfl

end

/-- Settles O52: a learning sample updates, and the one that ends learning rests. -/
theorem learningSamples : Obligations.LearningSamples := by
  intro s now l i ov e hdue hcon hperiods hrun hclear hst hend r p u c
  have hexec : exec (.sampleRecord now l i ov) s = .next ((s.sampledAt now l i ov).learningSample l c) := by
    rw [exec_usable hdue hrun hclear, dispatch_learning (by rw [sampledAt_line_self]; exact hst)]
  have hend' : ((s.sampledAt now l i ov).line l).lsu.learningEnd = some e := by rw [sampledAt_line_self]; exact hend
  have hbefore : (s.sampledAt now l i ov).isBefore Config.learningMs ((s.sampledAt now l i ov).line l).lsu.learningEnd = earlier 512 now e := by
    simp only [State.isBefore, hend']
    rfl
  have hupdates : earlier 512 now e = true → (s.sampledAt now l i ov).learningSample l c =
      (s.sampledAt now l i ov).modLsu l fun u => u.update ((s.sampledAt now l i ov).working l) c 2 := fun h =>
    if_pos (hbefore.trans h)
  have hends : earlier 512 now e = false → (s.sampledAt now l i ov).learningSample l c =
      ((s.sampledAt now l i ov).endLearning l).restingSample l c := fun h => if_neg (by rw [hbefore, h]; simp)
  have hlate : earlier 512 now e = false → exec (.sampleRecord now l i ov) s =
      .next (((s.at now).setLine l (r.learned u)).restingSample l c) := fun h => by
    rw [hexec, hends h, endLearning_learned hst (hperiods.period l)]
  have hline : ((s.at now).setLine l (r.learned u)).line l = r.learned u := line_setLine_self _ _ _
  have hpending : r.hook.pendingQuarantine = false ∧ r.hook.pendingProfile = false := not_pending hcon (by rw [hst]; rfl)
  have hclamp : r.lsu.leakClamp = none ∧ r.lsu.leakReported = false := not_clamped hcon (by rw [hst]; decide)
  refine ⟨fun h => ?_, fun h hlt => ?_, fun h hle => ?_⟩
  · rw [hexec, hupdates h]
    unfold State.modLsu
    rw [sampledAt_setLine, sampledAt_line_self, sampledAt_working]
    rfl
  · rw [hlate h, restingSample_updates (by rw [hline]; exact hlt)]
    have hnone : (((r.learned u).lsu.update p c p.trackShift).presses p c &&
        ((r.learned u).lsu.update p c p.trackShift).alarmDue now) = false := by
      have : ((r.learned u).lsu.update p c p.trackShift).leakClamp = none := hclamp.1
      simp [Lsu.alarmDue, this]
    rw [restingUpdate_judges (p := p) (by rw [State.working, hline]; rfl) (by rw [hline]) hnone, setLine_setLine, hline]
    refine congrArg Host.Outcome.next (congrArg ((s.at now).setLine l) ?_)
    exact learned_judged hpending.1 hpending.2 hclamp.1 hclamp.2
  · rw [hlate h, restingSample_seizes (by rw [hline]; exact hle), seize_eq, setLine_setLine, hline]
    refine congrArg Host.Outcome.next (congrArg ((s.at now).setLine l) ?_)
    exact learned_seized hpending.1 hpending.2 hclamp.1 hclamp.2

/-! ## Seizing samples (R29 to R31) -/

section

variable {s : State} {l : Line}

theorem returned_eq : (s.rethresholdLine l).reperiodLine l = s.setLine l ((s.line l).returned s.partTime s.battery.mode) := by
  simp only [State.rethresholdLine, State.reperiodLine, State.modLsu, setLine_setLine, line_setLine_self, setLine_partTime,
    setLine_battery, State.working]
  rfl

theorem returnToIdle_quarantines (h : (s.line l).hook.pendingQuarantine = true) : s.returnToIdle l =
    (s.setLine l { (s.line l).returned s.partTime s.battery.mode with
      hook := { (s.line l).hook with pendingQuarantine := false } }).enterQuarantine l := by
  have hq : ((s.setLine l ((s.line l).returned s.partTime s.battery.mode)).line l).hook.pendingQuarantine = true := by
    rw [line_setLine_self]; exact h
  unfold State.returnToIdle
  dsimp only
  rw [returned_eq, if_pos hq, State.modHook, setLine_setLine, line_setLine_self]
  rfl

theorem returnToIdle_honours (h : (s.line l).hook.pendingQuarantine = false) : s.returnToIdle l =
    (s.setLine l ((s.line l).returned s.partTime s.battery.mode)).honourProfile l := by
  have hq : ¬ ((s.setLine l ((s.line l).returned s.partTime s.battery.mode)).line l).hook.pendingQuarantine = true := by
    rw [line_setLine_self]; exact Bool.eq_false_iff.mp h
  unfold State.returnToIdle
  dsimp only
  rw [returned_eq, if_neg hq]

/-- A return to IDLE with nothing pending. -/
theorem returnToIdle_rests (hq : (s.line l).hook.pendingQuarantine = false) (hp : (s.line l).hook.pendingProfile = false) :
    s.returnToIdle l = s.setLine l ((s.line l).returned s.partTime s.battery.mode) := by
  rw [returnToIdle_honours hq, honourProfile_none _ _ (by rw [line_setLine_self]; exact hp)]

/-- A return to IDLE with a pending profile alone. -/
theorem returnToIdle_applies (hq : (s.line l).hook.pendingQuarantine = false) (hp : (s.line l).hook.pendingProfile = true) :
    s.returnToIdle l = (s.setLine l (({ (s.line l).returned s.partTime s.battery.mode with
      hook := { (s.line l).hook with pendingProfile := false } } : LineRec).applied (s.profile (s.line l).prof.number))).raise l
        .profileApplied := by
  have hp' : ((s.line l).returned s.partTime s.battery.mode).hook.pendingProfile = true := hp
  rw [returnToIdle_honours hq, honourProfile_pending _ _ (by rw [line_setLine_self]; exact hp), line_setLine_self, setLine_setLine,
    LineRec.honoured, if_pos hp', setLine_profile]
  rfl

end

/-- Settles O54: a seizing line stays, is declared off-hook, or falls back. -/
theorem seizingSamples : Obligations.SeizingSamples := by
  intro s now l i ov start hdue hrun hclear hst hstart r p u c back
  have hexec : exec (.sampleRecord now l i ov) s = .next ((s.sampledAt now l i ov).seizingSample l c) := by
    rw [exec_usable hdue hrun hclear, dispatch_seizing (by rw [sampledAt_line_self]; exact hst)]
  have hseize : ((s.sampledAt now l i ov).line l).lsu.tSeize = r.lsu.tSeize := by rw [sampledAt_line_self]; rfl
  have hsince : (s.sampledAt now l i ov).since ((s.sampledAt now l i ov).line l).hook.runStart = elapsed now start := by
    rw [sampledAt_line_self]
    simp only [hstart, State.since]
    rfl
  have hback : c < r.lsu.tSeize → exec (.sampleRecord now l i ov) s = .next
      (((s.at now).setLine l { r with lsu := u, hook := { r.hook with state := .idle, runStart := none } }).returnToIdle l) := fun h => by
    rw [hexec]
    unfold State.seizingSample
    rw [hseize, if_neg (Nat.not_le.mpr h), State.modHook, sampledAt_setLine, sampledAt_line_self]
  have hline : ((s.at now).setLine l { r with lsu := u, hook := { r.hook with state := .idle, runStart := none } }).line l =
      { r with lsu := u, hook := { r.hook with state := .idle, runStart := none } } := line_setLine_self _ _ _
  refine ⟨fun hc hlt => ?_, fun hc hle => ?_, fun hc hq => ⟨fun hp => ?_, fun hp => ?_⟩, fun hc hq => ?_⟩
  · rw [hexec]
    unfold State.seizingSample
    rw [hseize, if_pos hc, hsince, sampledAt_working, if_neg (Nat.not_le.mpr hlt)]
    rfl
  · have hauto : (((s.at now).setLine l { r with
        lsu := u, hook := { r.hook with state := .offHook, runStart := none, makeStart := none, pulseCount := 0 } }).raise l
          .offHook).working l = p := by
      rw [State.working, raise_line_self, line_setLine_self]
    rw [hexec]
    unfold State.seizingSample
    rw [hseize, if_pos hc, hsince, sampledAt_working, if_pos hle, State.declareOffHook, State.modHook, sampledAt_setLine,
      sampledAt_line_self, State.offHookNotice, hauto]
  · rw [hback hc, returnToIdle_rests (by rw [hline]; exact hq) (by rw [hline]; exact hp), setLine_setLine, hline]
    rfl
  · rw [hback hc, returnToIdle_applies (by rw [hline]; exact hq) (by rw [hline]; exact hp), setLine_setLine, hline]
    rfl
  · rw [hback hc, returnToIdle_quarantines (by rw [hline]; exact hq), setLine_setLine, hline]
    rfl

/-! ## Samples set aside, and the end of the settle window (R18, R19, R42, R80) -/

section

variable {s : State} {now : Time} {l : Line} {i : Nat} {ov : Bool}

/-- A line's record as the end of its settle window leaves it (R19, R42). -/
def LineRec.unsettled (r : LineRec) (now : Time) : LineRec :=
  { r with hook := r.hook.restart now, lsu := { r.lsu with settleEnd := none } }

/-- A receiver that is held no more (R80). -/
def Receiver.unheld (x : Receiver) : Receiver := { x with held := false }

theorem unheld_eq (x : Receiver) : (if x.held then { x with held := false } else x) = x.unheld := by
  obtain ⟨line, start, held, mark, detector⟩ := x
  cases held <;> rfl

theorem windowEnded_none (h : (s.line l).pool.receiver = none) :
    s.windowEnded now l = s.setLine l ((s.line l).unsettled now) := by
  cases hst : (s.line l).hook.state <;> simp only [State.windowEnded, h, LineRec.unsettled, HookRec.restart, hst]

theorem windowEnded_some {x : Rx} (h : (s.line l).pool.receiver = some x) :
    s.windowEnded now l = (s.setLine l ((s.line l).unsettled now)).setReceiver x ((s.receiver x).map Receiver.unheld) := by
  cases hst : (s.line l).hook.state <;> simp only [State.windowEnded, h, LineRec.unsettled, HookRec.restart, hst] <;> rfl

theorem windowEnded_line : (s.windowEnded now l).line l = (s.line l).unsettled now := by
  cases h : (s.line l).pool.receiver with
  | none => rw [windowEnded_none h, line_setLine_self]
  | some x => rw [windowEnded_some h, setReceiver_line, line_setLine_self]

theorem windowEnded_link : (s.windowEnded now l).link = s.link := by
  cases h : (s.line l).pool.receiver with
  | none => rw [windowEnded_none h]; rfl
  | some x => rw [windowEnded_some h]; rfl

theorem windowEnded_due (h : s.due now l) : (s.windowEnded now l).due now l :=
  ⟨by rw [windowEnded_link]; exact h.resetnHigh, by rw [windowEnded_line]; exact h.isNext⟩

/-- The window ends after the sample is recorded as it ends before. -/
theorem endWindow_sampledAt : (s.sampledAt now l i ov).endWindow l = (s.windowEnded now l).sampledAt now l i ov := by
  have hunheld : (fun x : Receiver => if x.held then { x with held := false } else x) = Receiver.unheld := funext unheld_eq
  have hleft : ((s.sampledAt now l i ov).modLsu l fun u => { u with settleEnd := none }).modHook l
      (fun h => h.restart (s.sampledAt now l i ov).partTime) = (s.at now).setLine l
        { (s.line l).unsettled now with lsu := ((s.line l).unsettled now).lsu.sampled now i ov } := by
    simp only [State.modLsu, State.modHook, setLine_setLine, line_setLine_self, sampledAt_line_self, sampledAt_setLine]
    rfl
  unfold State.endWindow State.resumeReceiver
  rw [hleft, hunheld]
  cases h : (s.line l).pool.receiver with
  | none =>
    rw [modHeldReceiver_none (by rw [line_setLine_self]; exact h), State.sampledAt, windowEnded_line, windowEnded_none h]
    exact (setLine_setLine (s.at now) l _ _).symm
  | some x =>
    rw [modHeldReceiver_some (by rw [line_setLine_self]; exact h), State.sampledAt, windowEnded_line, windowEnded_some h]
    exact congrArg (fun t : State => t.setReceiver x ((s.receiver x).map Receiver.unheld)) (setLine_setLine (s.at now) l _ _).symm

/-- The first usable sample after a test is handled as a sample of the line whose window has ended (R19). -/
theorem exec_endsWindow {e : Time} (h : s.due now l) (hrun : (s.line l).lsu.completesRun ov = false)
    (hoff : (s.line l).test.onTestBus = false) (hend : (s.line l).lsu.settleEnd = some e) (hlate : earlier 20 now e = false) :
    exec (.sampleRecord now l i ov) s = .next (((s.windowEnded now l).sampledAt now l i ov).dispatchSample l (min i 1200)) := by
  have hoff' : ((s.sampledAt now l i ov).line l).test.onTestBus = false := by rw [sampledAt_line_self]; exact hoff
  have hend' : ((s.sampledAt now l i ov).line l).lsu.settleEnd = some e := by rw [sampledAt_line_self]; exact hend
  have hafter : (s.sampledAt now l i ov).isBefore Config.settleWindowMs (some e) = false := hlate
  rw [exec_sample h, if_neg (by simp [hrun]), State.usableSample, hoff', hend', hafter, if_neg (by simp),
    if_pos (show (some e).isSome = true from rfl), endWindow_sampledAt]

/-- A sample on the test bus or inside the settle window is set aside (R18, R19). -/
theorem exec_setAside (h : s.due now l) (hrun : (s.line l).lsu.completesRun ov = false)
    (haside : (s.line l).test.onTestBus = true ∨ ∃ e, (s.line l).lsu.settleEnd = some e ∧ earlier 20 now e = true) :
    exec (.sampleRecord now l i ov) s = .next (s.sampledAt now l i ov) := by
  rw [exec_sample h, if_neg (by simp [hrun])]
  refine congrArg Host.Outcome.next (if_pos ?_)
  rw [sampledAt_line_self, Bool.or_eq_true]
  refine haside.imp id fun ⟨e, he, hin⟩ => ?_
  have hwindow : ((s.line l).lsu.sampled now i ov).settleEnd = some e := he
  rw [hwindow]
  exact hin

theorem windowEnded_sampledAt_none (h : (s.line l).pool.receiver = none) : (s.windowEnded now l).sampledAt now l i ov =
    (s.at now).setLine l { s.line l with
      lsu := { (s.line l).lsu.sampled now i ov with settleEnd := none }, hook := (s.line l).hook.restart now } := by
  rw [State.sampledAt, windowEnded_line, windowEnded_none h]
  exact setLine_setLine (s.at now) l _ _

theorem windowEnded_sampledAt_some {x : Rx} {rec : Receiver} (h : (s.line l).pool.receiver = some x) (hrec : s.receiver x = some rec) :
    (s.windowEnded now l).sampledAt now l i ov =
    ((s.at now).setLine l { s.line l with
      lsu := { (s.line l).lsu.sampled now i ov with settleEnd := none }, hook := (s.line l).hook.restart now }).setReceiver x
        (some { rec with held := false }) := by
  rw [State.sampledAt, windowEnded_line, windowEnded_some h, hrec]
  exact congrArg (fun t : State => t.setReceiver x (some rec.unheld)) (setLine_setLine (s.at now) l _ _)

/-- The durations of a valid record that a restarted timing falls short of. -/
theorem valid_durations {p : Profile} (h : p.valid) : 0 < p.seizeTime ∧ 0 < p.pulseMax ∧ 0 < p.releaseMin ∧ 0 < p.interdigit := by
  obtain ⟨hrules, -⟩ := h
  have hseize := (hrules (.range 10 200, p.seizeTime) (by simp [profileRules, Profile.toFields])).2
  have hpulse := (hrules (.range 40 150, p.pulseMax) (by simp [profileRules, Profile.toFields])).2
  have hrelease := (hrules (.range 200 2000, p.releaseMin) (by simp [profileRules, Profile.toFields])).2
  have hinter := (hrules (.range 100 800, p.interdigit) (by simp [profileRules, Profile.toFields])).2
  simp only [FieldRule.clamp, clampNat] at hseize hpulse hrelease hinter
  omega

theorem closeIf_not {due : Bool} (h : (s.line l).hook.pulseCount = 0 ∨ due = false) : s.closeIf l due = s := by
  unfold State.closeIf
  exact if_neg (by obtain h | h := h <;> simp [h])

theorem seizingSample_stays (hi : (s.line l).lsu.tSeize ≤ i)
    (hshort : s.since (s.line l).hook.runStart < (s.working l).seizeTime) : s.seizingSample l i = s := by
  rw [State.seizingSample, if_pos hi, if_neg (Nat.not_le.mpr hshort)]

theorem offHookSample_stays (hi : (s.line l).lsu.tRel ≤ i)
    (hshort : s.since (s.line l).hook.makeStart < (s.working l).interdigit) : s.offHookSample l i = s := by
  unfold State.offHookSample
  dsimp only
  rw [closeIf_not (.inr (by simp [hshort])), if_neg (Nat.not_lt.mpr hi)]

theorem breakSample_stays (hi : i < (s.line l).lsu.tSeize)
    (hrelease : s.since (s.line l).hook.breakStart < (s.working l).releaseMin)
    (hshort : (s.line l).hook.pulseCount = 0 ∨ s.since (s.line l).hook.breakStart < (s.working l).pulseMax) :
    s.breakSample l i = s := by
  unfold State.breakSample
  rw [if_neg (Nat.not_le.mpr hrelease), if_neg (Nat.not_le.mpr hi), closeIf_not (hshort.imp id fun h => by simp [h])]

/-- A timing that has just been restarted has run for no time. -/
theorem since_restarted (hnow : s.partTime = now) (o : Option Time) (h : ∀ t, o = some t → t = now) : s.since o = 0 := by
  unfold State.since
  cases o with
  | none => rfl
  | some t => exact (congrArg₂ elapsed hnow (h t rfl)).trans (elapsed_self now)

end

/-- Settles O51: what is set aside, and what ends the window. -/
theorem samplesAreSetAsideUntilTheWindowEnds : Obligations.SamplesAreSetAsideUntilTheWindowEnds := by
  refine ⟨fun s now l i ov => ⟨exec_notDue, fun hdue hrun hcase => ?_⟩, fun s now l i ov e hdue hrun hoff hend hlate => ?_⟩
  · obtain haside | haside | ⟨hclear, hst⟩ := hcase
    · exact exec_setAside hdue hrun (.inl haside)
    · exact exec_setAside hdue hrun (.inr haside)
    · rw [exec_usable hdue hrun hclear, dispatch_quarantined (by rw [sampledAt_line_self]; exact hst)]
      rfl
  have hexec := exec_endsWindow (i := i) hdue hrun hoff hend hlate
  obtain ⟨v, hv⟩ : ∃ v, v = (s.windowEnded now l).sampledAt now l i ov := ⟨_, rfl⟩
  rw [← hv] at hexec
  refine ⟨?_, fun hvalid _ => ?_⟩
  · have hrun' : ((s.windowEnded now l).line l).lsu.completesRun ov = false := by rw [windowEnded_line]; exact hrun
    rw [hexec, hv, exec_usable (windowEnded_due hdue) hrun' (by rw [windowEnded_line]; exact ⟨hoff, rfl⟩)]
  intro r h ended
  have hended : ∀ hook, h.restart now = hook → v.dispatchSample l (min i 1200) = v → ended hook := fun hook hhook hsame => by
    rw [hsame, hv] at hexec
    exact ⟨fun hnone => hexec.trans (congrArg Host.Outcome.next (hhook ▸ windowEnded_sampledAt_none hnone)),
      fun x rec hx hrec => hexec.trans (congrArg Host.Outcome.next (hhook ▸ windowEnded_sampledAt_some hx hrec))⟩
  have hline : v.line l = { r.unsettled now with lsu := (r.unsettled now).lsu.sampled now i ov } := by
    rw [hv, sampledAt_line_self, windowEnded_line]
  have hworking : v.working l = r.prof.working := by rw [State.working, hline]; rfl
  have hnow : v.partTime = now := by rw [hv]; rfl
  obtain ⟨hseizeTime, hpulseMax, hreleaseMin, hinterdigit⟩ := valid_durations hvalid
  have hzero : ∀ o : Option Time, (∀ t, o = some t → t = now) → v.since o = 0 := since_restarted hnow
  have hmake : ∀ t, h.makeStart.map (fun _ => now) = some t → t = now := fun t ht => by
    rw [Option.map_eq_some_iff] at ht
    exact ht.elim fun _ ha => ha.2.symm
  have hhook : (v.line l).hook = h.restart now := by rw [hline]; rfl
  have hseize : (v.line l).lsu.tSeize = r.lsu.tSeize := by rw [hline]; rfl
  have hrel : (v.line l).lsu.tRel = r.lsu.tRel := by rw [hline]; rfl
  refine ⟨fun hst hc => ?_, fun hst hc => ?_, fun hst hc => ?_, fun hst => ?_⟩
  · have hrestart : h.restart now = { h with runStart := some now } := by simp only [HookRec.restart, hst]
    rw [hrestart] at hhook
    refine hended _ hrestart ((dispatch_seizing (by rw [hhook]; exact hst)).trans (seizingSample_stays (by rw [hseize]; exact hc) ?_))
    rw [hworking, hhook, hzero _ fun t ht => (Option.some.inj ht).symm]
    exact hseizeTime
  · have hrestart : h.restart now = { h with makeStart := h.makeStart.map fun _ => now } := by simp only [HookRec.restart, hst]
    rw [hrestart] at hhook
    refine hended _ hrestart ((dispatch_offHook (by rw [hhook]; exact hst)).trans (offHookSample_stays (by rw [hrel]; exact hc) ?_))
    rw [hworking, hhook, hzero _ hmake]
    exact hinterdigit
  · have hrestart : h.restart now = { h with breakStart := some now, makeStart := h.makeStart.map fun _ => now } := by
      simp only [HookRec.restart, hst]
    rw [hrestart] at hhook
    have hlen : v.since (v.line l).hook.breakStart = 0 := by rw [hhook, hzero _ fun t ht => (Option.some.inj ht).symm]
    refine hended _ hrestart ((dispatch_onBreak (by rw [hhook]; exact hst)).trans
      (breakSample_stays (by rw [hseize]; exact hc) ?_ (.inr ?_)))
    · rw [hworking, hlen]
      exact hreleaseMin
    · rw [hworking, hlen]
      exact hpulseMax
  · have hrestart : h.restart now = h := by simp only [HookRec.restart, hst]
    exact hended _ hrestart (dispatch_quarantined (by rw [hhook, hrestart]; exact hst))

end Sys2Proof.Machine


/-! SUPPORT. The off-hook and break samples: the closure of a digit, the classes of a break, and the release (R32 to R38), with O55 and
O56. -/

namespace Sys2Proof.Machine

/-! ## An event and a change of its line's record -/

section

variable {s : State} {l : Line} {r : LineRec} {b : LineEvent}

/-- The transmitter's choice asks no line. -/
theorem txChoose_setLine : (s.setLine l r).txChoose = s.txChoose.setLine l r := by
  unfold State.txChoose
  rw [setLine_link, setLine_reporter]
  cases s.link.tx with
  | some f => rfl
  | none =>
    cases s.link.slot with
    | some p => rfl
    | none =>
      cases s.link.busyPending with
      | true => rfl
      | false => cases s.reporter.prio with
        | cons e rest => rfl
        | nil => cases s.reporter.norm <;> rfl

theorem report_setLine (c : EventClass) (e : Event) : (s.setLine l r).report c e = (s.report c e).setLine l r :=
  txChoose_setLine (s := { s with reporter := s.reporter.enqueue c e })

/-- A line's record with a kind latched (R160). -/
def LineRec.latching (r : LineRec) (b : LineEvent) : LineRec :=
  { r with rep := { r.rep with latched := r.rep.latched ||| kindBit b.kind } }

/-- Raising an event of a line asks the line's report record alone: the rest of the line's record may change before or after. -/
theorem raise_setLine (h : r.rep = (s.line l).rep) : (s.setLine l r).raise l b = (s.raise l b).setLine l (r.latching b) := by
  have hlatch : ∀ t : State, (t.modRep l fun r => { r with latched := r.latched ||| kindBit b.kind }) = t.setLine l ((t.line l).latching b) :=
    fun _ => rfl
  have hstamp : (s.setLine l r).stamp = s.stamp := rfl
  have hclass : (s.setLine l r).lineClass b.kind = s.lineClass b.kind := rfl
  unfold State.raise
  rw [hlatch, hlatch, hstamp, hclass, line_setLine_self, setLine_setLine, h]
  dsimp only
  split
  · rw [report_setLine, report_setLine, setLine_setLine]
  · rw [setLine_setLine]

/-- Raising an event and then replacing the line's record: what the record was but for its report part does not matter. -/
theorem raise_setLine_setLine {r' : LineRec} (h : r.rep = r'.rep) (x : LineRec) :
    ((s.setLine l r).raise l b).setLine l x = ((s.setLine l r').raise l b).setLine l x := by
  have hto : s.setLine l r = (s.setLine l r').setLine l r := (setLine_setLine _ _ _ _).symm
  rw [hto, raise_setLine (by rw [line_setLine_self]; exact h), setLine_setLine]

end

section

variable {s u : State} {l : Line} {i : Nat}

theorem lsu_of_calls (h : u.calls = s.calls) (m : Line) : (u.line m).lsu = (s.line m).lsu := congrArg Prod.fst (congrFun h m)

theorem prof_of_calls (h : u.calls = s.calls) (m : Line) : (u.line m).prof = (s.line m).prof :=
  congrArg (fun x => x.2.1) (congrFun h m)

/-- The line's record with no pulse digit in progress. -/
def LineRec.unpulsed (r : LineRec) : LineRec := { r with hook := { r.hook with pulseCount := 0 } }

theorem pulseKey_eq {n : Nat} {k : Key} (h : (n = k.val ∧ 1 ≤ n ∧ n ≤ 9) ∨ (n = 10 ∧ k = 0)) : pulseKey n = some k := by
  obtain ⟨hk, h1, h9⟩ | ⟨h10, hk⟩ := h
  · rw [pulseKey, if_neg (by omega), dif_pos (by omega)]
    exact congrArg some (Fin.ext hk)
  · rw [pulseKey, if_pos h10, hk]

theorem pulseKey_none {n : Nat} (h : 10 < n) : pulseKey n = none := by
  rw [pulseKey, if_neg (by omega), dif_neg (by omega)]

theorem closeDigit_key {k : Key} (h : pulseKey (s.line l).hook.pulseCount = some k) :
    s.closeDigit l = (s.setLine l (s.line l).unpulsed).collectDigit l k .pulse := by
  simp only [State.closeDigit, h]
  rfl

theorem closeDigit_error (h : pulseKey (s.line l).hook.pulseCount = none) :
    s.closeDigit l = (s.setLine l (s.line l).unpulsed).raise l .digitError := by
  simp only [State.closeDigit, h]
  rfl

theorem closeIf_closes {due : Bool} (hn : 0 < (s.line l).hook.pulseCount) (hd : due = true) : s.closeIf l due = s.closeDigit l :=
  if_pos (by simp [hn, hd])

/-- A closure that is due closes the digit in progress, if there is one (R34). -/
theorem closeIf_digitClosed {due : Bool} (hd : due = true) : s.closeIf l due = s.digitClosed l := by
  unfold State.digitClosed
  dsimp only
  by_cases h0 : (s.line l).hook.pulseCount = 0
  · rw [if_pos h0, closeIf_not (.inl h0)]
  rw [if_neg h0, closeIf_closes (Nat.pos_of_ne_zero h0) hd]
  by_cases h10 : (s.line l).hook.pulseCount ≤ 10
  · rw [if_pos h10]
    refine closeDigit_key (pulseKey_eq ?_)
    by_cases h : (s.line l).hook.pulseCount = 10
    · exact .inr ⟨h, by rw [h]; rfl⟩
    · refine .inl ⟨?_, by omega, by omega⟩
      simp only [Fin.ofNat]
      omega
  · rw [if_neg h10]
    exact closeDigit_error (pulseKey_none (by omega))

theorem setLine_unpulsed_calls : (s.setLine l (s.line l).unpulsed).calls = s.calls := setLine_calls _ _ _ rfl rfl rfl rfl

theorem digitClosed_calls : (s.digitClosed l).calls = s.calls := by
  unfold State.digitClosed
  dsimp only
  split
  · rfl
  · split
    · rw [collectDigit_calls]
      exact setLine_unpulsed_calls
    · rw [raise_calls]
      exact setLine_unpulsed_calls

theorem digitClosed_kept : (s.digitClosed l).kept = s.kept := by
  rw [← closeIf_digitClosed rfl]
  simp

/-! ## Off-hook samples (R32) -/

/-- An off-hook sample after its interdigit check has led to `u`. -/
theorem offHookSample_after
    (hu : s.closeIf l ((s.line l).hook.makeStart.isSome && decide ((s.working l).interdigit ≤ s.since (s.line l).hook.makeStart)) = u)
    (hcalls : u.calls = s.calls) (hnow : u.partTime = s.partTime) : s.offHookSample l i =
      if i < (s.line l).lsu.tRel
      then u.setLine l { u.line l with hook := { (u.line l).hook with state := .onBreak, breakStart := some s.partTime } } else u := by
  unfold State.offHookSample
  dsimp only
  have hrel : (u.line l).lsu.tRel = (s.line l).lsu.tRel := congrArg Lsu.tRel (lsu_of_calls hcalls l)
  rw [hu, hrel, hnow]
  rfl

/-! ## Break samples (R33 to R37) -/

theorem breakSample_releases (h : (s.working l).releaseMin ≤ s.since (s.line l).hook.breakStart) :
    s.breakSample l i = s.release l (s.since (s.line l).hook.breakStart) := if_pos h

theorem breakSample_continues (hshort : s.since (s.line l).hook.breakStart < (s.working l).releaseMin)
    (hi : i < (s.line l).lsu.tSeize) :
    s.breakSample l i = s.closeIf l (decide ((s.working l).pulseMax ≤ s.since (s.line l).hook.breakStart)) := by
  unfold State.breakSample
  rw [if_neg (Nat.not_le.mpr hshort), if_neg (Nat.not_le.mpr hi)]

theorem breakSample_makes (hshort : s.since (s.line l).hook.breakStart < (s.working l).releaseMin)
    (hi : (s.line l).lsu.tSeize ≤ i) : s.breakSample l i = s.make l (s.since (s.line l).hook.breakStart) := by
  unfold State.breakSample
  rw [if_neg (Nat.not_le.mpr hshort), if_pos hi]

/-- A line's record after its make, before the break is classed (R35). -/
def LineRec.made (r : LineRec) : LineRec := { r with hook := { r.hook with state := .offHook, breakStart := none } }

/-- A make after its closure has led to `u`. -/
theorem make_after {len : Nat} (hu : s.closeIf l (decide ((s.working l).pulseMax < len)) = u) :
    s.make l len = (u.setLine l (u.line l).made).classifyBreak l len := by
  unfold State.make
  rw [hu]
  rfl

theorem make_closes {len : Nat} (h : (s.working l).pulseMax < len) :
    s.make l len = ((s.digitClosed l).setLine l ((s.digitClosed l).line l).made).classifyBreak l len :=
  make_after (closeIf_digitClosed (by simp [h]))

theorem make_short {len : Nat} (h : len ≤ (s.working l).pulseMax) :
    s.make l len = (s.setLine l (s.line l).made).classifyBreak l len :=
  make_after (closeIf_not (.inr (by simp [h])))

theorem classifyBreak_hit {len : Nat} (h : len < (s.working l).hitMax) : s.classifyBreak l len = s := if_pos h

theorem classifyBreak_pulse {len : Nat} (hhit : (s.working l).hitMax ≤ len) (h : len ≤ (s.working l).pulseMax) :
    s.classifyBreak l len = s.pulseBreak l := (if_neg (Nat.not_lt.mpr hhit)).trans (if_pos h)

theorem classifyBreak_invalid {len : Nat} (hhit : (s.working l).hitMax ≤ len) (hpulse : (s.working l).pulseMax < len)
    (h : len < (s.working l).flashMin) : s.classifyBreak l len = s.markMake l :=
  (if_neg (Nat.not_lt.mpr hhit)).trans ((if_neg (Nat.not_le.mpr hpulse)).trans (if_pos h))

theorem classifyBreak_flash {len : Nat} (hhit : (s.working l).hitMax ≤ len) (hpulse : (s.working l).pulseMax < len)
    (h : (s.working l).flashMin ≤ len) : s.classifyBreak l len = ((s.markMake l).raise l .flash).collectFlash l :=
  (if_neg (Nat.not_lt.mpr hhit)).trans ((if_neg (Nat.not_le.mpr hpulse)).trans (if_neg (Nat.not_lt.mpr h)))

/-- A line's pulse count after a pulse break: pulses are counted, up to 11, while collection is active and neither the working
parameters nor the dial mode say TONE (R36). -/
def LineRec.pulsesAfter (r : LineRec) (p : Profile) : Nat :=
  if r.dial.collection ≠ .inactive ∧ p.dialModes ≠ .tone ∧ r.dial.mode ≠ .tone
  then min 11 (r.hook.pulseCount + 1) else r.hook.pulseCount

theorem pulseBreak_made : (s.setLine l (s.line l).made).pulseBreak l = s.setLine l { s.line l with
    hook := { (s.line l).hook with
      state := .offHook, breakStart := none, makeStart := some s.partTime, pulseCount := (s.line l).pulsesAfter (s.working l) } } := by
  have hcount : ((if (s.setLine l (s.line l).made).countsPulses l then min 11 ((s.line l).hook.pulseCount + 1)
      else (s.line l).hook.pulseCount) : Nat) = (s.line l).pulsesAfter (s.working l) := by
    refine if_congr ?_ rfl rfl
    simp [State.countsPulses, State.working, active_iff, and_assoc, LineRec.made]
  rw [State.pulseBreak, State.modHook, setLine_setLine, line_setLine_self, ← hcount]
  rfl

end

/-- Settles O55: the interdigit check before the break check, and the four classes of a break. -/
theorem offHookAndBreakSamples : Obligations.OffHookAndBreakSamples := by
  refine ⟨fun s now l i ov hdue hrun hclear hst => ?_, fun s now l i ov start hdue hrun hclear hst hstart => ?_⟩
  · intro r p c n v broken closed due
    have hexec : exec (.sampleRecord now l i ov) s = .next (v.offHookSample l c) := by
      rw [exec_usable hdue hrun hclear, dispatch_offHook (by rw [sampledAt_line_self]; exact hst)]
      rfl
    have hline : v.line l = { r with lsu := r.lsu.sampled now i ov } := line_setLine_self _ _ _
    have hworking : v.working l = p := by rw [State.working, hline]
    have hhook : (v.line l).hook = r.hook := by rw [hline]
    have hsince : ∀ m, v.since (some m) = elapsed now m := fun m => rfl
    have hafter : ∀ u, v.closeIf l (r.hook.makeStart.isSome && decide (p.interdigit ≤ v.since r.hook.makeStart)) = u →
        u.calls = v.calls → u.partTime = v.partTime → exec (.sampleRecord now l i ov) s = .next (broken u) := fun u hu hcalls hnow => by
      rw [hexec, offHookSample_after (by rw [hhook, hworking]; exact hu) hcalls hnow, hline]
      rfl
    have hclosed : v.setLine l (v.line l).unpulsed = closed := by
      rw [LineRec.unpulsed, hhook]
    have hcalls : closed.calls = v.calls := hclosed ▸ setLine_unpulsed_calls
    have hdigit : due → v.closeIf l (r.hook.makeStart.isSome && decide (p.interdigit ≤ v.since r.hook.makeStart)) = v.closeDigit l := by
      rintro ⟨hn, m, hm, hle⟩
      refine closeIf_closes (by rw [hhook]; exact hn) ?_
      rw [hm, hsince]
      simp [hle]
    refine ⟨fun hno => hafter _ (closeIf_not ?_) rfl rfl, fun hyes k hk => ?_, fun hyes h11 => ?_⟩
    · rw [hhook]
      rcases hm : r.hook.makeStart with _ | m
      · exact .inr rfl
      · by_cases hn : 0 < n
        · refine .inr ?_
          rw [hsince]
          have : ¬ p.interdigit ≤ elapsed now m := fun hle => hno ⟨hn, m, hm, hle⟩
          simp [this]
        · exact .inl (Nat.eq_zero_of_not_pos hn)
    · have hkey : pulseKey (v.line l).hook.pulseCount = some k := by rw [hhook]; exact pulseKey_eq hk
      exact hafter _ ((hdigit hyes).trans ((closeDigit_key hkey).trans (by rw [hclosed]))) (by rw [collectDigit_calls, hcalls])
        ((partTime_of_kept (collectDigit_kept closed l k .pulse)).trans rfl)
    · have hkey : pulseKey (v.line l).hook.pulseCount = none := by rw [hhook]; exact pulseKey_none (by omega)
      exact hafter _ ((hdigit hyes).trans ((closeDigit_error hkey).trans (by rw [hclosed]))) (by rw [raise_calls, hcalls])
        (by rw [raise_partTime]; rfl)
  · intro r h p c len v hooked counted hhit hpulse hrelease
    have hexec : exec (.sampleRecord now l i ov) s = .next (v.breakSample l c) := by
      rw [exec_usable hdue hrun hclear, dispatch_onBreak (by rw [sampledAt_line_self]; exact hst)]
      rfl
    have hline : v.line l = { r with lsu := r.lsu.sampled now i ov } := line_setLine_self _ _ _
    have hworking : v.working l = p := by rw [State.working, hline]
    have hhook : (v.line l).hook = h := by rw [hline]
    have hdial : (v.line l).dial = r.dial := by rw [hline]
    have hseize : (v.line l).lsu.tSeize = r.lsu.tSeize := by rw [hline]; rfl
    have hlen : v.since (v.line l).hook.breakStart = len := by
      rw [hhook, hstart]
      rfl
    have hshort : v.since (v.line l).hook.breakStart < (v.working l).releaseMin := by rw [hlen, hworking]; exact hrelease
    refine ⟨fun hc => ?_, fun hc => ?_⟩
    · have hcont := breakSample_continues hshort (by rw [hseize]; exact hc : c < (v.line l).lsu.tSeize)
      rw [hlen, hworking] at hcont
      rw [hexec, hcont]
      have hunpulsed : v.setLine l (v.line l).unpulsed = hooked { h with pulseCount := 0 } := by
        rw [LineRec.unpulsed, hhook]
      refine ⟨fun hcase => ?_, fun hle k hk => ?_, fun hle h11 => ?_⟩
      · exact congrArg Host.Outcome.next (closeIf_not (hcase.imp (fun h0 => by rw [hhook]; exact h0) fun hlt => by simp [hlt]))
      · have hn : 0 < (v.line l).hook.pulseCount := by rw [hhook]; omega
        rw [closeIf_closes hn (by simp [hle]), closeDigit_key (by rw [hhook]; exact pulseKey_eq hk), hunpulsed]
      · have hn : 0 < (v.line l).hook.pulseCount := by rw [hhook]; omega
        rw [closeIf_closes hn (by simp [hle]), closeDigit_error (by rw [hhook]; exact pulseKey_none (by omega)), hunpulsed]
    · have hmake := breakSample_makes hshort (by rw [hseize]; exact hc : (v.line l).lsu.tSeize ≤ c)
      rw [hlen] at hmake
      rw [hexec, hmake]
      have hmade : ∀ t : State, (t.setLine l (t.line l).made).line l = (t.line l).made := fun t => line_setLine_self _ _ _
      have hparams : ∀ t : State, t.calls = v.calls → (t.setLine l (t.line l).made).working l = p := fun t ht => by
        rw [State.working, hmade]
        exact (congrArg ProfLine.working (prof_of_calls ht l)).trans hworking
      have hvmade : v.setLine l (v.line l).made = hooked { h with state := .offHook, breakStart := none } := by
        rw [LineRec.made, hhook]
      refine ⟨fun hlt => ?_, fun hle hpl => ?_, fun hlong => ?_⟩
      · rw [make_short (by rw [hworking]; omega), classifyBreak_hit (by rw [hparams v rfl]; exact hlt), hvmade]
      · have hcounted : (v.line l).pulsesAfter (v.working l) = counted := by rw [LineRec.pulsesAfter, hdial, hworking, hhook]
        rw [make_short (by rw [hworking]; exact hpl), classifyBreak_pulse (by rw [hparams v rfl]; exact hle)
          (by rw [hparams v rfl]; exact hpl), pulseBreak_made, hcounted, hhook]
        rfl
      · intro closed made
        have hmark : (closed.setLine l (closed.line l).made).markMake l = made := by
          rw [State.markMake, State.modHook, setLine_setLine, hmade, setLine_partTime, partTime_of_kept digitClosed_kept]
          rfl
        have hclose := make_closes (s := v) (l := l) (len := len) (by rw [hworking]; exact hlong)
        refine ⟨fun hlt => ?_, fun hle => ?_⟩
        · rw [hclose, classifyBreak_invalid (by rw [hparams _ digitClosed_calls]; omega) (by rw [hparams _ digitClosed_calls]; exact hlong)
            (by rw [hparams _ digitClosed_calls]; exact hlt), hmark]
        · rw [hclose, classifyBreak_flash (by rw [hparams _ digitClosed_calls]; omega) (by rw [hparams _ digitClosed_calls]; exact hlong)
            (by rw [hparams _ digitClosed_calls]; exact hle), hmark]

/-! ## Entry to quarantine of a line that collects nothing (R129) -/

section

variable {s : State} {l : Line}

/-- A line that neither collects nor holds a receiver or place. -/
structure LineRec.Uncollected (r : LineRec) : Prop where
  inactive : r.dial.collection = .inactive
  noReceiver : r.pool.receiver = none
  noPlace : r.pool.waiting = false

theorem endCollection_uncollected (h : (s.line l).Uncollected) : s.endCollection l none = s := by
  rw [endCollection_inactive (by rw [h.inactive]; rfl), giveUpReceiver_nothing h.noReceiver h.noPlace]

theorem enterQuarantine_uncollected (h : (s.line l).Uncollected) {t : State}
    (ht : ((s.raise l .quarantined).setLine l (((s.line l).isolated s.partTime s.battery.mode).latching .quarantined)).honourProfile l = t) :
    s.enterQuarantine l = t.setLine l ((t.line l).awaitingRetest s.partTime) := by
  have hiso : (s.isolate l).raise l .quarantined =
      (s.raise l .quarantined).setLine l (((s.line l).isolated s.partTime s.battery.mode).latching .quarantined) := by
    rw [isolate_eq]
    exact raise_setLine rfl
  have htime : t.partTime = s.partTime := by rw [← ht, partTime_of_kept (honourProfile_kept _ _), setLine_partTime, raise_partTime]
  have hun : (((s.raise l .quarantined).setLine l (((s.line l).isolated s.partTime s.battery.mode).latching .quarantined)).line l).Uncollected := by
    rw [line_setLine_self]
    exact ⟨h.inactive, h.noReceiver, h.noPlace⟩
  unfold State.enterQuarantine
  dsimp only
  rw [hiso, endCollection_uncollected hun, ht, setRetestDue_eq, htime]

/-- With no profile pending, QUARANTINED is the one event. -/
theorem enterQuarantine_plain (h : (s.line l).Uncollected) (hp : (s.line l).hook.pendingProfile = false) : s.enterQuarantine l =
    (s.raise l .quarantined).setLine l
      ((((s.line l).isolated s.partTime s.battery.mode).latching .quarantined).awaitingRetest s.partTime) := by
  rw [enterQuarantine_uncollected h (honourProfile_none _ _ (by rw [line_setLine_self]; exact hp)), setLine_setLine, line_setLine_self]

/-- With a profile pending, PROFILE_APPLIED follows QUARANTINED. -/
theorem enterQuarantine_applies (h : (s.line l).Uncollected) (hp : (s.line l).hook.pendingProfile = true) {t : State}
    (ht : ((s.raise l .quarantined).setLine l ((((s.line l).isolated s.partTime s.battery.mode).latching .quarantined).honoured
      (s.profile (s.line l).prof.number))).raise l .profileApplied = t) :
    s.enterQuarantine l = t.setLine l ((t.line l).awaitingRetest s.partTime) := by
  refine enterQuarantine_uncollected h ?_
  rw [honourProfile_pending _ _ (by rw [line_setLine_self]; exact hp), setLine_setLine, line_setLine_self, setLine_profile,
    profile_of_kept (raise_kept s l .quarantined)]
  exact ht

end

/-! ## Release (R38) -/

/-- A line's record as its call's collector may leave it: its collection record, its pulse count, and the pool's and the reporter's
parts may have changed. -/
def LineRec.Collects (r r' : LineRec) : Prop :=
  ∃ d n p q, r' = { r with dial := d, hook := { r.hook with pulseCount := n }, pool := p, rep := q }

section

variable {s u : State} {l : Line}

theorem LineRec.Collects.refl (r : LineRec) : r.Collects r := ⟨r.dial, r.hook.pulseCount, r.pool, r.rep, rfl⟩

theorem LineRec.Collects.trans {r r' r'' : LineRec} (h : r.Collects r') (h' : r'.Collects r'') : r.Collects r'' := by
  obtain ⟨d, n, p, q, rfl⟩ := h
  obtain ⟨d', n', p', q', rfl⟩ := h'
  exact ⟨d', n', p', q', rfl⟩

theorem raise_collects (b : LineEvent) : (s.line l).Collects ((s.raise l b).line l) := by
  rw [raise_line_self]
  exact ⟨_, _, _, _, rfl⟩

theorem endCollection_collects (e : Option LineEvent) : (s.line l).Collects ((s.endCollection l e).line l) := by
  have hended : ∀ p q, (s.line l).Collects ((s.line l).ended.withParts p q) := fun p q => by
    unfold LineRec.ended
    split
    · exact ⟨_, _, _, _, rfl⟩
    · exact ⟨_, (s.line l).hook.pulseCount, _, _, rfl⟩
  obtain ⟨p, q, hp⟩ := endCollection_none_line_self s l
  cases ha : (s.line l).dial.collection.active with
  | false =>
    rw [endCollection_inactive ha, giveUpReceiver_line]
    exact ⟨_, (s.line l).hook.pulseCount, _, _, rfl⟩
  | true =>
    cases e with
    | none => exact hp ▸ hended p q
    | some b =>
      rw [endCollection_event ha]
      exact (hp ▸ hended p q : (s.line l).Collects ((s.endCollection l none).line l)).trans (raise_collects b)

theorem bufferFull_collects : (s.line l).Collects ((s.bufferFull l).line l) := by
  refine LineRec.Collects.trans ?_ (endCollection_collects _)
  rw [line_modDial_self]
  exact ⟨_, (s.line l).hook.pulseCount, (s.line l).pool, (s.line l).rep, rfl⟩

theorem collectDigit_collects (k : Key) (m : Method) : (s.line l).Collects ((s.collectDigit l k m).line l) := by
  unfold State.collectDigit
  dsimp only
  split
  · next hcan =>
    split
    · obtain ⟨p, q, hp⟩ := takeDigit_line_self s l k (Bool.and_eq_true_iff.mp hcan).2
      rw [hp]
      exact ⟨_, _, _, _, rfl⟩
    · exact bufferFull_collects
  · exact .refl _

theorem digitClosed_collects : (s.line l).Collects ((s.digitClosed l).line l) := by
  have hunpulsed : (s.line l).Collects ((s.setLine l (s.line l).unpulsed).line l) := by
    rw [line_setLine_self]
    exact ⟨_, _, (s.line l).pool, (s.line l).rep, rfl⟩
  unfold State.digitClosed
  dsimp only
  split
  · exact .refl _
  · split
    · exact hunpulsed.trans (collectDigit_collects _ _)
    · exact hunpulsed.trans (raise_collects _)

theorem breakSample_releases_digitClosed {i : Nat} {start : Time} (hstart : (s.line l).hook.breakStart = some start)
    (hrelease : (s.working l).releaseMin ≤ elapsed s.partTime start) (hlong : (s.working l).pulseMax < elapsed s.partTime start)
    (hu : ((s.digitClosed l).raise l .onHook).endCollection l none = u) : s.breakSample l i =
      (u.setLine l { u.line l with
        hook := { (u.line l).hook with state := .idle, breakStart := none, makeStart := none, pulseCount := 0 } }).returnToIdle l := by
  have hlen : s.since (s.line l).hook.breakStart = elapsed s.partTime start := by rw [hstart]; rfl
  rw [breakSample_releases (by rw [hlen]; exact hrelease), hlen]
  unfold State.release
  rw [closeIf_digitClosed (by simp [hlong])]
  dsimp only
  rw [hu]
  rfl

end

/-- What every single change of a record keeps is kept as a sample is recorded. -/
theorem sampledAt_lines {P : Vector Profile 8 → ScanMode → LineRec → Prop} (h : LineClosed P) {s : State} {now : Time} {l : Line} {i : Nat}
    {ov : Bool} (hs : Lines P s) : Lines P (s.sampledAt now l i ov) := by
  have hrec := h.set (s := s.at now) (l := l) hs (.sampled now (s.line l).lsu.lastSample)
  refine h.apart hrec ?_
  have hset : s.sampledAt now l i ov = State.setLine _ l { s.line l with lsu := (s.line l).lsu.sampled now i ov } :=
    (setLine_setLine (s.at now) l { s.line l with lsu := { (s.line l).lsu with
      nextSample := (s.line l).lsu.period.nextAfter now, lastSample := (s.line l).lsu.lastSample } } _).symm
  rw [hset]
  exact setLine_core _ _ (by rw [line_setLine_self]; rfl)

/-- The periods of IDLE and QUARANTINED agree. -/
theorem periodOf_idle_quarantined (m : ScanMode) : periodOf .quarantined m = periodOf .idle m := by cases m <;> rfl

theorem reperiod_period (u : Lsu) (st : HookState) (m : ScanMode) (now : Time) : (u.reperiod st m now).period = periodOf st m := by
  unfold Lsu.reperiod
  split
  · next h => exact h.symm
  · rfl

/-- An IDLE line with no learning period and no leak clamp is isolated without a change of its LSU fields. -/
theorem isolated_idle {r : LineRec} {u : Lsu} {m : ScanMode} {now : Time} (hu : r.lsu = u.reperiod .idle m now)
    (hl : u.learningEnd = none) (hc : u.leakClamp = none) (hr : u.leakReported = false) :
    r.isolated now m = { r with hook := { r.hook.clearCall with state := .quarantined, pendingQuarantine := false } } := by
  have hsame : ({ r.lsu with learningEnd := none, leakClamp := none, leakReported := false } : Lsu) = r.lsu := by
    obtain ⟨period, next, last, run, active, base, seize, rel, learn, clamp, reported, settle⟩ := u
    cases hl; cases hc; cases hr
    rw [hu, Lsu.reperiod]
    split <;> rfl
  rw [LineRec.isolated, hsame, Lsu.reperiod, if_pos (by rw [hu, reperiod_period, periodOf_idle_quarantined])]

/-- An entry to quarantine of an IDLE line that collects nothing, the line's record being `back` but for what is pending: QUARANTINED, then
the application of a pending profile with PROFILE_APPLIED, then the retest (R129). -/
theorem enterQuarantine_idle {u : State} {l : Line} {back : LineRec} {pending : Bool} {base : Lsu} (hun : back.Uncollected)
    {n : ProfNo} {v : Profile} (hn : back.prof.number = n) (hv : u.profile n = v)
    (hlsu : back.lsu = base.reperiod .idle u.battery.mode u.partTime) (hl : base.learningEnd = none)
    (hc : base.leakClamp = none) (hr : base.leakReported = false) {service : Service}
    (hhook : back.hook = ⟨service, .idle, none, none, none, 0, false, false⟩) {isolated applied : State}
    (hisolated : isolated = (u.setLine l { back with hook := { back.hook with state := .quarantined } }).raise l .quarantined)
    (happlied : applied = if pending
      then (isolated.setLine l ((isolated.line l).applied v)).raise l .profileApplied else isolated) :
    (u.setLine l { back with hook := { back.hook with pendingProfile := pending } }).enterQuarantine l =
      applied.setLine l ((applied.line l).awaitingRetest u.partTime) := by
  subst hn hv
  have hiso : ({ back with hook := { back.hook with pendingProfile := pending } } : LineRec).isolated u.partTime u.battery.mode =
      { back with hook := { back.hook with state := .quarantined, pendingProfile := pending } } := by
    refine (isolated_idle (r := { back with hook := { back.hook with pendingProfile := pending } }) (u := base) hlsu hl hc hr).trans ?_
    dsimp only
    rw [hhook]
    rfl
  have hline : (u.setLine l { back with hook := { back.hook with pendingProfile := pending } }).line l =
      { back with hook := { back.hook with pendingProfile := pending } } := line_setLine_self _ _ _
  have hisoline : isolated.line l = ({ back with hook := { back.hook with state := .quarantined } } : LineRec).latching .quarantined := by
    rw [hisolated, raise_line_self, line_setLine_self]
    rfl
  have hset : ∀ x, ((u.setLine l { back with hook := { back.hook with pendingProfile := pending } }).raise l .quarantined).setLine l x =
      isolated.setLine l x := fun x => by
    rw [hisolated]
    exact raise_setLine_setLine (r := { back with hook := { back.hook with pendingProfile := pending } })
      (r' := { back with hook := { back.hook with state := .quarantined } }) rfl x
  cases pending with
  | false =>
    have happ : applied = isolated := happlied
    rw [enterQuarantine_plain (by rw [hline]; exact ⟨hun.inactive, hun.noReceiver, hun.noPlace⟩) (by rw [hline]), hline, setLine_partTime,
      setLine_battery, hiso, hset, happ, hisoline, hhook]
  | true =>
    have happ : applied = (isolated.setLine l ((isolated.line l).applied (u.profile back.prof.number))).raise l .profileApplied := happlied
    refine (enterQuarantine_applies (by rw [hline]; exact ⟨hun.inactive, hun.noReceiver, hun.noPlace⟩) (by rw [hline]) (t := applied) ?_).trans
      (by rw [setLine_partTime])
    rw [hline, setLine_partTime, setLine_battery, hiso, hset, happ, hisoline, LineRec.honoured]
    rw [if_pos (by rfl), hhook]
    rfl

/-- Settles O56: the digit closed, ON_HOOK, the end of collection, and what is pending. -/
theorem releaseReturnsToIdle : Obligations.ReleaseReturnsToIdle := by
  intro s now l i ov start hdue hcalls hpool hrun hclear hst hstart hrelease hlong r closed raised
  obtain ⟨v, hv⟩ : ∃ v, v = s.sampledAt now l i ov := ⟨_, rfl⟩
  have hvline : v.line l = { r with lsu := r.lsu.sampled now i ov } := by rw [hv]; exact sampledAt_line_self
  have hvcalls : Lines (fun _ _ r => r.consistent) v := hv ▸ sampledAt_lines consistent_closed hcalls
  have hvpool : PoolLaws v := by
    rw [hv]
    exact (hpool.congr (t := s.at now) rfl).congr (setLine_seats _ _ rfl)
  have hclosedEq : v.digitClosed l = closed := by rw [hv]; rfl
  have hclose : v.closeIf l true = closed := (closeIf_digitClosed rfl).trans hclosedEq
  have hraisedPool : PoolLaws raised := (hclose ▸ poolLaws_closed.closeIf (b := none) true hvpool : PoolLaws closed).congr (raise_seats _ _ _)
  have hraisedCon : (raised.line l).consistent :=
    consistent_closed.apart (hclose ▸ consistent_closed.closeIf true hvcalls) (raise_core closed l .onHook) l
  obtain ⟨u, hu⟩ : ∃ u, u = raised.endCollection l none := ⟨_, rfl⟩
  have hended : CollectionEnded raised u l := hu ▸ endCollection_ended_of_consistent hraisedPool hraisedCon
  have hcalls' : u.calls = v.calls := by
    rw [hu, endCollection_calls, raise_calls, ← hclosedEq, digitClosed_calls]
  have hkept : u.kept = v.kept := by
    rw [hu, endCollection_kept, raise_kept, ← hclosedEq, digitClosed_kept]
  have hnow : u.partTime = now := (partTime_of_kept hkept).trans (by rw [hv]; rfl)
  have hbattery : u.battery = s.battery := (battery_of_kept hkept).trans (by rw [hv]; rfl)
  have hprofile : u.profile r.prof.number = s.profile r.prof.number := (profile_of_kept hkept _).trans (by rw [hv]; rfl)
  have hraisedEq : raised = (v.digitClosed l).raise l .onHook := by rw [hclosedEq]
  obtain ⟨d, n, p, q, hraised⟩ : (v.line l).Collects (raised.line l) := by
    rw [hraisedEq]
    exact digitClosed_collects.trans (raise_collects _)
  have hx : u.line l = { r with
      lsu := r.lsu.sampled now i ov
      hook := { r.hook with pulseCount := 0 }
      dial := { d with collection := .inactive, firstDeadline := none, endDeadline := none }
      pool := ⟨p.slot, none, false⟩
      rep := q } := by rw [hended.line, hraised, hvline]
  refine ⟨u, hended, ?_⟩
  clear_value raised closed
  intro back w
  have hcon : r.consistent := hcalls l
  have hrun' : r.hook.runStart = none := Option.not_isSome_iff_eq_none.mp (mt hcon.runStart.mp (by rw [hst]; decide))
  have hlearning : r.lsu.learningEnd = none := Option.not_isSome_iff_eq_none.mp (mt hcon.learning.mp (by rw [hst]; decide))
  obtain ⟨hclamp, hreported⟩ := not_clamped hcon (by rw [hst]; decide)
  obtain ⟨left, hleft⟩ : ∃ left : LineRec, left = { u.line l with
      hook := ⟨r.hook.service, .idle, none, none, none, 0, r.hook.pendingQuarantine, r.hook.pendingProfile⟩ } := ⟨_, rfl⟩
  have hexec : exec (.sampleRecord now l i ov) s = .next ((u.setLine l left).returnToIdle l) := by
    have hvnow : v.partTime = now := by rw [hv]; rfl
    have hvworking : v.working l = r.prof.working := by rw [State.working, hvline]
    have hhook : ({ (u.line l).hook with state := .idle, breakStart := none, makeStart := none, pulseCount := 0 } : HookRec) =
        ⟨r.hook.service, .idle, none, none, none, 0, r.hook.pendingQuarantine, r.hook.pendingProfile⟩ := by rw [hx, ← hrun']
    have hrel := breakSample_releases_digitClosed (s := v) (i := min i 1200) (start := start) (by rw [hvline]; exact hstart)
      (by rw [hvworking, hvnow]; exact hrelease) (by rw [hvworking, hvnow]; exact hlong) (u := u) (by rw [← hraisedEq]; exact hu.symm)
    rw [exec_usable hdue hrun hclear, dispatch_onBreak (by rw [sampledAt_line_self]; exact hst), ← hv, hrel, hhook, hleft]
  have hline : (u.setLine l left).line l = left := line_setLine_self _ _ _
  have hnumber : left.prof.number = r.prof.number := by rw [hleft, hx]
  have hreturned : left.returned now s.battery.mode = { back with hook := left.hook } := by
    have hthresholds : left.lsu.rethreshold left.prof.working = (u.line l).lsu.withBaseline r.lsu.baseline r.prof.working := by
      rw [hleft, hx]
      rfl
    rw [LineRec.returned, hthresholds, hleft]
  refine ⟨fun hq hp => ?_, fun hq hp => ?_, fun hq => ?_⟩
  · rw [hexec, returnToIdle_rests (by rw [hline, hleft]; exact hq) (by rw [hline, hleft]; exact hp), setLine_setLine, hline,
      setLine_partTime, setLine_battery, hnow, hbattery, hreturned, hleft, hq, hp]
  · rw [hexec, returnToIdle_applies (by rw [hline, hleft]; exact hq) (by rw [hline, hleft]; exact hp), setLine_setLine, hline,
      setLine_partTime, setLine_battery, hnow, hbattery, hreturned, setLine_profile, hnumber, hprofile, hleft, hq]
  · intro isolated applied p
    rw [hexec, returnToIdle_quarantines (by rw [hline, hleft]; exact hq), setLine_setLine, hline,
      setLine_partTime, setLine_battery, hnow, hbattery, hreturned]
    have hisolatedFault : (isolated.line l).fault = r.fault := by
      refine (raise_line_fault _ l l _).trans ?_
      rw [line_setLine_self]
      exact (congrArg LineRec.fault hx).trans rfl
    have happliedFault : (applied.line l).fault = r.fault := by
      cases hp : r.hook.pendingProfile with
      | false =>
        have happ : applied = isolated := if_neg (by rw [hp]; decide)
        rw [happ, hisolatedFault]
      | true =>
        have happ : applied = (isolated.setLine l ((isolated.line l).applied w)).raise l .profileApplied := if_pos hp
        rw [happ, raise_line_fault, line_setLine_self, applied_eq]
        exact hisolatedFault
    have hfault : ∀ n, ((applied.line l).awaitingRetest n) = { applied.line l with fault := { r.fault with
        clearCount := 0, retestDue := some (n + BitVec.ofNat 32 (1000 * p.retestInterval)) } } := fun n => by
      rw [LineRec.awaitingRetest, happliedFault]
      rfl
    have hbase : ({ back with hook := { left.hook with pendingQuarantine := false } } : LineRec) =
        { back with hook := { back.hook with pendingProfile := r.hook.pendingProfile } } := by rw [hleft]
    rw [hbase]
    refine congrArg Host.Outcome.next ((enterQuarantine_idle (back := back) (v := w) (n := r.prof.number)
      (base := (u.line l).lsu.withBaseline r.lsu.baseline r.prof.working) (isolated := isolated) (applied := applied)
      ⟨?_, ?_, ?_⟩ ?_ hprofile ?_ ?_ ?_ ?_ rfl rfl rfl).trans ?_)
    · exact (congrArg (fun y : LineRec => y.dial.collection) hx).trans rfl
    · exact (congrArg (fun y : LineRec => y.pool.receiver) hx).trans rfl
    · exact (congrArg (fun y : LineRec => y.pool.waiting) hx).trans rfl
    · exact (congrArg (fun y : LineRec => y.prof.number) hx).trans rfl
    · rw [hbattery, hnow]
    · exact (congrArg (fun y : LineRec => y.lsu.learningEnd) hx).trans hlearning
    · exact (congrArg (fun y : LineRec => y.lsu.leakClamp) hx).trans hclamp
    · exact (congrArg (fun y : LineRec => y.lsu.leakReported) hx).trans hreported
    · rw [hfault, hnow]

end Sys2Proof.Machine


/-! SUPPORT. The Fault Supervisor: acknowledgement, release and the retest; verdicts formed and acted on; and a line taken out of service
(R46, R47, R125 to R130, R134, R135), with O19, O46 and O47. -/

namespace Sys2Proof.Machine

/-! ## Acknowledgement, release and the retest (R130, R134, R135) -/

section

variable {s : State} {l : Line}

theorem faultSetOf_eq_none {k : Byte} (h : 64 ≤ k.toNat) : faultSetOf k = none := by
  rw [faultSetOf, if_neg (by omega)]

theorem faultSetOf_setWidth (kinds : FaultSet) : faultSetOf (kinds.setWidth 8) = some kinds := by
  revert kinds
  decide

theorem runAckFaults_eq (kinds : FaultSet) : runAckFaults (lineByte l) (kinds.setWidth 8) s =
    (s.setLine l { s.line l with fault := { (s.line l).fault with sticky := (s.line l).fault.sticky &&& ~~~kinds } },
      ⟨0x14#8, .ok, [((s.line l).fault.sticky &&& ~~~kinds).setWidth 8]⟩) := by
  rw [runAckFaults, onLine_lineByte, faultSetOf_setWidth]
  rfl

theorem leaveQuarantine_eq : s.leaveQuarantine l = s.setLine l ((s.line l).unretested.learning s.partTime s.battery.mode) := by
  rw [State.leaveQuarantine, enterLearning_eq, State.modFault, setLine_setLine, line_setLine_self]
  rfl

theorem runReleaseQuarantine_eq : runReleaseQuarantine (lineByte l) s =
    if (s.line l).hook.state ≠ .quarantined then s.refuse 0x15#8 .notQuarantined
    else if (s.line l).lsu.ovActive then s.refuse 0x15#8 .stillAlarmed else (s.leaveQuarantine l).accept 0x15#8 [] := by
  rw [runReleaseQuarantine, onLine_lineByte]

end

/-- Settles O47: ACK_FAULTS, RELEASE_QUARANTINE and the retest, each case of theirs. -/
theorem ackReleaseAndRetest : Obligations.AckReleaseAndRetest := by
  refine ⟨fun s now b k h hbad => ⟨?_, fun hb => ?_⟩, fun s now l kinds h => ?_, fun s now l h => ⟨fun hst => ?_, fun hst hov => ?_, fun hst hov => ?_⟩,
    fun s now l hhigh => ?_⟩
  · refine command_unchanged h (onLine_refused (hbad.imp id fun hk l => ?_))
    rw [faultSetOf_eq_none hk]
  · exact command_unchanged h (onLine_badLine _ _ hb _)
  · exact command_makes h (runAckFaults_eq kinds) rfl
  · exact command_unchanged h (runReleaseQuarantine_eq.trans (if_pos hst))
  · exact command_unchanged h (runReleaseQuarantine_eq.trans ((if_neg (not_not.mpr hst)).trans (if_pos hov)))
  · refine command_makes h (runReleaseQuarantine_eq.trans ((if_neg (not_not.mpr hst)).trans
      ((if_neg (Bool.eq_false_iff.mp hov)).trans ?_))) rfl
    rw [leaveQuarantine_eq]
    rfl
  · intro due afresh
    have hexec : exec (.retestTimerExpiry now l) s = .next ((s.at now).retestExpiry l) :=
      congrArg Host.Outcome.next (arrive_high hhigh now _)
    refine ⟨fun hno => ?_, fun hst hdue => ⟨fun hskip => ?_, fun hov hsus => ?_⟩⟩
    · exact hexec.trans (congrArg Host.Outcome.next (if_neg fun hyes => hno.elim (absurd hyes.1) (absurd hyes.2)))
    · exact hexec.trans (congrArg Host.Outcome.next ((if_pos ⟨hst, hdue⟩).trans (congrArg (State.setRetestDue · l) (if_pos hskip))))
    · refine hexec.trans (congrArg Host.Outcome.next ((if_pos ⟨hst, hdue⟩).trans ((congrArg (State.setRetestDue · l) (if_neg ?_)).trans ?_)))
      · rintro (h | h)
        · rw [show (s.line l).lsu.ovActive = true from h] at hov
          cases hov
        · exact hsus h
      · have hnow : ((s.at now).fileAuto l).partTime = now := partTime_of_kept (fileAuto_kept _ _)
        have hworking : ((s.at now).fileAuto l).working l = (s.line l).prof.working :=
          congrArg (fun c => (c.2.2 l).prof.working) (fileAuto_core (s.at now) l)
        rw [State.setRetestDue, State.deadlineIn, hnow, hworking]
        rfl

/-! ## Verdicts (R125 to R128) -/

/-- The kinds of a verdict, each at its bit. -/
theorem verdict_bits (a b c d : Bool) (x : FaultSet) (hx : x = (if a then FaultSet.fv else 0#6) ||| (if b then FaultSet.lt else 0#6) |||
    (if c then FaultSet.lr else 0#6) ||| (if d then FaultSet.ll else 0#6)) :
    (x.getLsbD 0 = false ∧ x.getLsbD 1 = false) ∧ x.getLsbD 2 = a ∧ x.getLsbD 3 = b ∧ x.getLsbD 4 = c ∧ x.getLsbD 5 = d := by
  subst hx
  revert a b c d
  decide

theorem judgeBelow_iff (v : Option Nat) (limit : Nat) : judgeBelow v limit = true ↔ ∃ x, v = some x ∧ x < limit := by
  cases v <;> simp [judgeBelow]

/-- FV asks both wires of DCV, and ACV (R125). -/
theorem judgeFv_iff (v : TestValues) (p : Profile) : judgeFv v p = true ↔
    (∃ tip ring : Int, v.dcv = some (tip, ring) ∧ ((p.fvDcLimit : Int) < |tip| ∨ (p.fvDcLimit : Int) < |ring|)) ∨
    (∃ x, v.acv = some x ∧ p.fvAcLimit < x) := by
  have habs : ∀ (n : Nat) (x : Int), n < x.natAbs ↔ (n : Int) < |x| := fun n x => by rw [← Int.natCast_natAbs]; omega
  obtain ⟨_ | ⟨tip, ring⟩, acv, irt, irr, rtr⟩ := v <;> cases acv <;> simp [judgeFv, habs]

section

variable {s : State} {l : Line} {v : FaultSet}

theorem joinSticky_line : ∃ q, (s.joinSticky l v).line l =
    { s.line l with fault := { (s.line l).fault with sticky := (s.line l).fault.sticky ||| v }, rep := q } := by
  rw [joinSticky_eq]
  split
  · exact ⟨_, line_setLine_self _ _ _⟩
  · rw [raise_line_self, line_setLine_self]
    exact ⟨_, rfl⟩

theorem joinSticky_zero : s.joinSticky l 0#6 = s := by
  rw [joinSticky_eq, if_pos (BitVec.zero_and), BitVec.or_zero]
  exact setLine_line s l

theorem takeVerdict_counts (h : (s.line l).hook.state = .quarantined) : s.takeVerdict l v = (s.joinSticky l v).countVerdict l v := by
  obtain ⟨q, hq⟩ := joinSticky_line (s := s) (l := l) (v := v)
  have hst : ((s.joinSticky l v).line l).hook.state = .quarantined := by rw [hq]; exact h
  simp only [State.takeVerdict, hst]

theorem takeVerdict_acts (h : (s.line l).hook.state ≠ .quarantined) : s.takeVerdict l v = (s.joinSticky l v).actOnVerdict l v := by
  obtain ⟨q, hq⟩ := joinSticky_line (s := s) (l := l) (v := v)
  have hst : ((s.joinSticky l v).line l).hook.state = (s.line l).hook.state := by rw [hq]
  cases hs : (s.line l).hook.state with
  | quarantined => exact absurd hs h
  | outOfService | learning | idle | seizing | offHook | onBreak => simp only [State.takeVerdict, hst, hs]

/-- A verdict that is CLEAR, on a line whose profile does not quarantine, or out of service (R127). -/
theorem actOnVerdict_nothing (h : v = 0#6 ∨ (s.line l).prof.working.quarantineOnFault = false ∨ (s.line l).hook.state = .outOfService) :
    s.actOnVerdict l v = s := by
  unfold State.actOnVerdict
  obtain hv | hq | hout := h
  · exact if_pos (by simp [hv])
  · exact if_pos (by simp [State.working, hq])
  · simp only [hout, ite_self]

theorem actOnVerdict_pends (hv : v ≠ 0#6) (hq : (s.line l).prof.working.quarantineOnFault = true) (hb : (s.line l).hook.state.busy = true) :
    s.actOnVerdict l v = s.modHook l fun h => { h with pendingQuarantine := true } := by
  unfold State.actOnVerdict
  rw [if_neg (by simp [hv, State.working, hq])]
  cases hs : (s.line l).hook.state with
  | seizing | offHook | onBreak => rfl
  | outOfService | learning | idle | quarantined =>
    rw [hs] at hb
    cases hb

theorem actOnVerdict_quarantines (hv : v ≠ 0#6) (hq : (s.line l).prof.working.quarantineOnFault = true)
    (hs : (s.line l).hook.state = .learning ∨ (s.line l).hook.state = .idle) : s.actOnVerdict l v = s.enterQuarantine l := by
  unfold State.actOnVerdict
  rw [if_neg (by simp [hv, State.working, hq])]
  obtain hs | hs := hs <;> simp only [hs]

end

/-- The record of a line isolated with nothing pending, that awaits its retest (R43, R129). -/
theorem isolated_unpending {r : LineRec} (hp : r.hook.pendingProfile = false) {f : FaultRec} (hf : r.fault = f) {now : Time} {mode : ScanMode} :
    (((r.isolated now mode).latching .quarantined).awaitingRetest now) = { r with
      hook := ⟨r.hook.service, .quarantined, none, none, none, 0, false, false⟩
      lsu := { r.lsu with learningEnd := none, leakClamp := none, leakReported := false }.reperiod .quarantined mode now
      rep := { r.rep with latched := r.rep.latched ||| kindBit LineEvent.quarantined.kind }
      fault := ⟨f.sticky, 0, some (now + BitVec.ofNat 32 (1000 * r.prof.working.retestInterval)), f.owed⟩ } := by
  subst hf
  obtain ⟨lsu, ⟨service, state, run, brk, mk, pulses, quarantine, profile⟩, dial, pool, test, fault, prof, rep⟩ := r
  cases hp
  rfl

/-- Settles O46: the bits of a verdict, and its cases by kind and hook state. -/
theorem verdictsAreFormedAndActedOn : Obligations.VerdictsAreFormedAndActedOn := by
  refine ⟨fun v p => ?_, fun s l v hcalls => ?_⟩
  · obtain ⟨hnone, hfv, hlt, hlr, hll⟩ := verdict_bits (judgeFv v p) (judgeBelow v.irt p.irLimit) (judgeBelow v.irr p.irLimit)
      (judgeBelow v.rtr p.lowLoopLimit) (verdictOf v p) rfl
    exact ⟨hnone, by rw [hfv, judgeFv_iff], by rw [hlt, judgeBelow_iff], by rw [hlr, judgeBelow_iff], by rw [hll, judgeBelow_iff]⟩
  intro r p new sticky noted joined t
  have hjoined : s.joinSticky l v = joined := joinSticky_eq v
  obtain ⟨q, hline⟩ : ∃ q, joined.line l = { r with fault := { r.fault with sticky := sticky }, rep := q } := hjoined ▸ joinSticky_line
  have hcon : r.consistent := hcalls l
  have hacts : r.hook.state ≠ .quarantined → t = joined.actOnVerdict l v := fun h => (takeVerdict_acts h).trans (by rw [hjoined])
  have hcounts : r.hook.state = .quarantined → t = joined.countVerdict l v := fun h => (takeVerdict_counts h).trans (by rw [hjoined])
  have hhook : (joined.line l).hook = r.hook := by rw [hline]
  have hfault : (joined.line l).fault = { r.fault with sticky := sticky } := by rw [hline]
  have hkept : joined.kept = s.kept := hjoined ▸ joinSticky_kept s l v
  have hnow : joined.partTime = s.partTime := partTime_of_kept hkept
  have hbattery : joined.battery = s.battery := battery_of_kept hkept
  have hsame : v = 0#6 → joined = s := fun hv => hjoined.symm.trans (hv ▸ joinSticky_zero)
  refine ⟨fun hst hno => ?_, fun hv hq hb => ?_, fun hv hq hst hx hw => ?_, fun hst hv => ?_, fun hst hv hlt => ?_, fun hst hv hle => ?_⟩
  · rw [hacts hst, actOnVerdict_nothing]
    rw [hline]
    exact hno
  · have hst : r.hook.state ≠ .quarantined := fun h => by
      rw [h] at hb
      cases hb
    rw [hacts hst, actOnVerdict_pends hv (by rw [hline]; exact hq) (by rw [hline]; exact hb), State.modHook, hhook]
  · have hst' : r.hook.state ≠ .quarantined := by obtain h | h := hst <;> rw [h] <;> decide
    have hbusy : r.hook.state.busy = false := by obtain h | h := hst <;> rw [h] <;> rfl
    have hun : (joined.line l).Uncollected := by
      rw [hline]
      refine ⟨by_contra fun ha => ?_, hx, hw⟩
      obtain h | h := hcon.collects ha
      · rw [h] at hbusy
        cases hbusy
      · rw [h] at hbusy
        cases hbusy
    obtain ⟨hpq, hpp⟩ := not_pending hcon hbusy
    rw [hacts hst', actOnVerdict_quarantines hv (by rw [hline]; exact hq) (by rw [hline]; exact hst),
      enterQuarantine_plain hun (by rw [hline]; exact hpp), hnow, hbattery]
    dsimp only
    rw [raise_line_self]
    refine congrArg ((joined.raise l .quarantined).setLine l) ?_
    rw [hline]
    exact isolated_unpending (r := { r with fault := { r.fault with sticky := sticky }, rep := q }) hpp rfl
  · rw [hcounts hst, State.countVerdict, if_neg hv, State.modFault, hfault]
  · rw [hcounts hst, State.countVerdict, if_pos hv, hsame hv]
    exact if_neg (Nat.not_le.mpr hlt)
  · rw [hcounts hst, State.countVerdict, if_pos hv, hsame hv]
    exact (if_pos hle).trans (congrArg (State.raise · l .faultCleared) leaveQuarantine_eq)

/-! ## A line taken out of service (R46) -/

section

variable {s : State} {l : Line}

/-- A line's record as its service is set to OUT, before its collection ends. -/
def LineRec.off (r : LineRec) : LineRec := { r with
  hook := { r.hook.clearCall with service := .serviceOut, state := .outOfService, pendingQuarantine := false }
  lsu := r.lsu.outOfService }

/-- The record of a line taken out of service with the record `v` of the table pending or not (R46, R147). -/
def LineRec.outRecord (r : LineRec) (v : Profile) : LineRec := { r with
  hook := ⟨.serviceOut, .outOfService, none, none, none, 0, false, false⟩
  lsu := { r.lsu with
    period := .notSampled, nextSample := none, ovRun := 0, ovActive := false, learningEnd := none, leakClamp := none
    leakReported := false
    baseline := if r.hook.pendingProfile then min r.lsu.baseline (4096 * v.leakMax) else r.lsu.baseline }
  dial := { r.dial with collection := .inactive, firstDeadline := none, endDeadline := none }
  pool := ⟨r.pool.slot, none, false⟩
  fault := { r.fault with retestDue := none, clearCount := 0 }
  prof := ⟨r.prof.number, if r.hook.pendingProfile then v else r.prof.working⟩
  rep := ⟨r.rep.mask, if r.hook.pendingProfile then r.rep.latched ||| 0x8000#16 else r.rep.latched⟩ }

/-- The collection of a line set to OUT is over, whether it was active or not. -/
theorem off_ended {r : LineRec} (hr : r.consistent) : r.off.ended = r.off.collectionOver := by
  by_cases ha : r.dial.collection = .inactive
  · have hover := collectionOver_inactive hr ha
    have hno : ¬ r.off.dial.collection.active = true := fun h => (active_iff _).mp h ha
    rw [LineRec.ended, if_neg hno]
    obtain ⟨lsu, hook, dial, pool, test, fault, prof, rep⟩ := r
    simp only [LineRec.collectionOver, LineRec.mk.injEq] at hover
    simp only [LineRec.collectionOver, LineRec.off, LineRec.mk.injEq, true_and, and_true]
    obtain ⟨-, -, hdial, -⟩ := hover
    exact ⟨rfl, hdial.symm⟩
  · exact if_pos ((active_iff _).mpr ha)

/-- SET_SERVICE OUT before a pending profile is seen to. -/
def State.takenOff (s : State) (l : Line) : State :=
  let e := (s.setLine l (s.line l).off).endCollection l none
  if (s.line l).hook.state = .quarantined then e.setLine l (e.line l).unretested else e

theorem takeOut_eq : s.takeOut l = (s.takenOff l).honourProfile l := by
  have hoff : (s.modHook l fun h => { h.clearCall with service := .serviceOut, state := .outOfService, pendingQuarantine := false }).modLsu l
      Lsu.outOfService = s.setLine l (s.line l).off := by
    simp only [State.modHook, State.modLsu, setLine_setLine, line_setLine_self]
    rfl
  unfold State.takeOut State.takenOff
  dsimp only
  rw [hoff]
  by_cases h : (s.line l).hook.state = .quarantined
  · rw [if_pos h, if_pos (by simp [h])]
    rfl
  · rw [if_neg h, if_neg (by simp [h])]

theorem off_placeGivenUp (h : PoolLaws s) :
    PlaceGivenUp s ((s.setLine l (s.line l).off).endCollection l none) l (s.line l).off.ended := by
  have hline : (s.setLine l (s.line l).off).line l = (s.line l).off := line_setLine_self _ _ _
  cases ha : (s.line l).dial.collection.active with
  | true =>
    have hended : (s.line l).off.ended = (s.line l).off.collectionOver := if_pos ha
    rw [endCollection_active (by rw [hline]; exact ha), hline, setLine_setLine, hended]
    exact giveUpReceiver_placeGivenUp h rfl
  | false =>
    have hended : (s.line l).off.ended = (s.line l).off := if_neg (Bool.eq_false_iff.mp ha)
    rw [endCollection_inactive (by rw [hline]; exact ha), hended]
    exact giveUpReceiver_placeGivenUp h rfl

/-- A consistent line with its retest and CLEAR count gone holds none of them: only a QUARANTINED line had them (R124, R136). -/
theorem unretested_eq {r : LineRec} (hr : r.consistent) (h : r.hook.state ≠ .quarantined) :
    r.fault = { r.fault with retestDue := none, clearCount := 0 } := by
  have hdue : r.fault.retestDue = none := Option.not_isSome_iff_eq_none.mp (mt hr.retest.mp h)
  have hcount : r.fault.clearCount = 0 := Nat.eq_zero_of_not_pos (mt hr.clears h)
  obtain ⟨lsu, hook, dial, pool, test, ⟨sticky, count, due, owed⟩, prof, rep⟩ := r
  cases hdue
  cases hcount
  rfl

theorem takenOff_line (h : PoolLaws s) (hr : (s.line l).consistent) : (s.takenOff l).line l =
    ({ (s.line l).off.collectionOver with pool := ⟨(s.line l).pool.slot, none, false⟩ } : LineRec).unretested := by
  have hline := (off_placeGivenUp h (l := l)).line
  rw [off_ended hr] at hline
  unfold State.takenOff
  dsimp only
  by_cases hq : (s.line l).hook.state = .quarantined
  · rw [if_pos hq, line_setLine_self, hline]
  · rw [if_neg hq, hline, LineRec.unretested]
    have hfault := unretested_eq hr hq
    generalize s.line l = r at hfault ⊢
    obtain ⟨lsu, hook, dial, pool, test, fault, prof, rep⟩ := r
    simp only [LineRec.off, LineRec.collectionOver, LineRec.mk.injEq, true_and, and_true]
    exact hfault

theorem takenOff_rest (h : PoolLaws s) : s.takenOff l = { s with lines := (s.takenOff l).lines, pool := (s.takenOff l).pool } := by
  have hrest := (off_placeGivenUp h (l := l)).rest
  unfold State.takenOff
  dsimp only
  split
  · rw [hrest]
    rfl
  · exact hrest

/-- What becomes of the pool and the other lines is what an end of collection makes of them (R63). -/
theorem takenOff_others (h : PoolLaws s) (hr : (s.line l).consistent) : (s.takenOff l).pool = (s.endCollection l none).pool ∧
    ∀ m, m ≠ l → (s.takenOff l).line m = (s.endCollection l none).line m := by
  have hended : PlaceGivenUp s (s.endCollection l none) l (s.line l).collectionOver := by
    obtain ⟨h1, h2, h3, h4, h5⟩ := endCollection_ended_of_consistent h hr
    exact ⟨h1, h2, h3, h4, h5⟩
  obtain ⟨hpool, hne⟩ := (off_placeGivenUp h (l := l)).agree hended
  unfold State.takenOff
  dsimp only
  split
  · exact ⟨hpool, fun m hm => (line_setLine_ne _ _ _ hm).trans (hne m hm)⟩
  · exact ⟨hpool, hne⟩

theorem takenOff_pendingProfile (h : PoolLaws s) (hr : (s.line l).consistent) :
    ((s.takenOff l).line l).hook.pendingProfile = (s.line l).hook.pendingProfile := by
  rw [takenOff_line h hr]
  rfl

theorem takeOut_unpending (h : PoolLaws s) (hr : (s.line l).consistent) (hp : (s.line l).hook.pendingProfile = false) :
    s.takeOut l = s.takenOff l := by
  rw [takeOut_eq, honourProfile_none _ _ (by rw [takenOff_pendingProfile h hr, hp])]

theorem takeOut_pending (h : PoolLaws s) (hr : (s.line l).consistent) (hp : (s.line l).hook.pendingProfile = true) :
    s.takeOut l = ((s.takenOff l).setLine l (((s.takenOff l).line l).honoured (s.profile (s.line l).prof.number))).raise l
      .profileApplied := by
  have hnumber : ((s.takenOff l).line l).prof.number = (s.line l).prof.number := by rw [takenOff_line h hr]; rfl
  have hprofile : ∀ n, (s.takenOff l).profile n = s.profile n := fun n => by rw [takenOff_rest h]; rfl
  rw [takeOut_eq, honourProfile_pending _ _ (by rw [takenOff_pendingProfile h hr, hp]), hnumber, hprofile]

/-- What SET_SERVICE OUT does with a line in service (R46). -/
theorem takeOut_line (h : PoolLaws s) (hr : (s.line l).consistent) :
    (s.takeOut l).line l = (s.line l).outRecord (s.profile (s.line l).prof.number) := by
  cases hp : (s.line l).hook.pendingProfile with
  | false =>
    rw [takeOut_unpending h hr hp, takenOff_line h hr]
    unfold LineRec.outRecord
    generalize s.line l = r at hp ⊢
    obtain ⟨lsu, ⟨service, state, run, brk, mk, pulses, quarantine, profile⟩, dial, pool, test, fault, prof, rep⟩ := r
    cases hp
    rfl
  | true =>
    rw [takeOut_pending h hr hp, raise_line_self, line_setLine_self, takenOff_line h hr]
    unfold LineRec.outRecord
    generalize s.line l = r at hp ⊢
    obtain ⟨lsu, ⟨service, state, run, brk, mk, pulses, quarantine, profile⟩, dial, pool, test, fault, prof, rep⟩ := r
    cases hp
    rfl

theorem takeOut_others (h : PoolLaws s) (hr : (s.line l).consistent) : (s.takeOut l).pool = (s.endCollection l none).pool ∧
    ∀ m, m ≠ l → (s.takeOut l).line m = (s.endCollection l none).line m := by
  obtain ⟨hpool, hne⟩ := takenOff_others h hr
  cases hp : (s.line l).hook.pendingProfile with
  | false =>
    rw [takeOut_unpending h hr hp]
    exact ⟨hpool, hne⟩
  | true =>
    rw [takeOut_pending h hr hp]
    exact ⟨(raise_pool _ _ _).trans hpool, fun m hm => (raise_line_ne _ _ _ hm).trans ((line_setLine_ne _ _ _ hm).trans (hne m hm))⟩

theorem takeOut_rest (h : PoolLaws s) (hr : (s.line l).consistent) : s.takeOut l = { s with
    lines := (s.takeOut l).lines, pool := (s.takeOut l).pool, reporter := (s.takeOut l).reporter, link := (s.takeOut l).link } := by
  cases hp : (s.line l).hook.pendingProfile with
  | false =>
    rw [takeOut_unpending h hr hp, takenOff_rest h]
  | true =>
    rw [takeOut_pending h hr hp, raise_rest]
    have hrest := takenOff_rest h (l := l)
    generalize s.takenOff l = u at hrest ⊢
    rw [hrest]
    rfl

theorem runSetServiceOut_in (hst : (s.line l).hook.state ≠ .outOfService) :
    runSetServiceOut (lineByte l) s = (s.takeOut l, ⟨0x07#8, .ok, []⟩) := by
  rw [runSetServiceOut, onLine_lineByte, if_neg hst]
  rfl

theorem runSetServiceOut_out (hst : (s.line l).hook.state = .outOfService) : runSetServiceOut (lineByte l) s = (s, ⟨0x07#8, .ok, []⟩) := by
  rw [runSetServiceOut, onLine_lineByte, if_pos hst]
  rfl

theorem runSetServiceIn_in (hst : (s.line l).hook.state ≠ .outOfService) : runSetServiceIn (lineByte l) s = (s, ⟨0x07#8, .ok, []⟩) := by
  rw [runSetServiceIn, onLine_lineByte, if_neg hst]
  rfl

theorem runSetServiceIn_out (hst : (s.line l).hook.state = .outOfService) : runSetServiceIn (lineByte l) s =
    (s.setLine l ({ s.line l with hook := { (s.line l).hook with service := .serviceIn } }.learning s.partTime s.battery.mode),
      ⟨0x07#8, .ok, []⟩) := by
  rw [runSetServiceIn, onLine_lineByte, if_pos hst, enterLearning_eq, State.modHook, setLine_setLine, line_setLine_self]
  rfl

/-- Of two states, the second is the first with the line taken out of service, whatever was sent and drawn meanwhile. -/
structure TakenOut (s t : State) (l : Line) : Prop where
  rest : t = { s with lines := t.lines, pool := t.pool, reporter := t.reporter, link := t.link, freeCount := t.freeCount }
  line : t.line l = (s.line l).outRecord (s.profile (s.line l).prof.number)
  pool : t.pool = (s.endCollection l none).pool
  others : ∀ m, m ≠ l → t.line m = (s.endCollection l none).line m

theorem TakenOut.answered {t : State} (h : TakenOut s t l) (n : Nat) (r : Reply) : TakenOut s (({ t with freeCount := n } : State).answer r) l := by
  rw [answer_eq]
  obtain ⟨hrest, hline, hpool, hne⟩ := h
  exact ⟨by rw [hrest], hline, hpool, hne⟩

theorem TakenOut.relinked {t : State} (h : TakenOut s t l) (k : Link) : TakenOut s { t with link := k } l := by
  obtain ⟨hrest, hline, hpool, hne⟩ := h
  exact ⟨by rw [hrest], hline, hpool, hne⟩

theorem takeOut_takenOut (h : PoolLaws s) (hr : (s.line l).consistent) (k : Link) : TakenOut s (({ s with link := k } : State).takeOut l) l := by
  have hpool : PoolLaws ({ s with link := k } : State) := h.congr rfl
  have hothers := takeOut_others hpool (l := l) hr
  rw [endCollection_none_link] at hothers
  obtain ⟨hp, hne⟩ := hothers
  refine ⟨?_, takeOut_line hpool hr, hp, hne⟩
  have hrest := takeOut_rest hpool (l := l) hr
  generalize State.takeOut _ l = t at hrest ⊢
  rw [hrest]

/-- The execution of SET_SERVICE OUT takes the line out in whatever order its event and its reply are drawn. -/
theorem execute_takesOut (h : PoolLaws s) (hr : (s.line l).consistent) (hst : (s.line l).hook.state ≠ .outOfService) (k : Link) :
    TakenOut s (({ s with link := k } : State).execute (runSetServiceOut (lineByte l))) l ∧
      (({ s with link := k } : State).execute (runSetServiceOut (lineByte l))).link.gives ⟨0x07#8, .ok, []⟩ := by
  have hrun : ∀ k : Link, runSetServiceOut (lineByte l) { s with link := k } = (({ s with link := k } : State).takeOut l, ⟨0x07#8, .ok, []⟩) :=
    fun k => runSetServiceOut_in hst
  obtain ⟨n, hn⟩ | ⟨-, n, hn⟩ := execute_cases { s with link := k } (runSetServiceOut (lineByte l))
  · rw [hn, hrun]
    exact ⟨(takeOut_takenOut h hr k).answered _ _, answer_gives _ _⟩
  · have hkept : (({ s with link := k } : State).modLink fun k => { k with tx := some .busy }) =
        ({ s with link := { k with tx := some .busy } } : State) := rfl
    rw [hkept, hrun] at hn
    rw [hn]
    exact ⟨((takeOut_takenOut h hr _).relinked _).answered _ _, answer_gives _ _⟩

end

/-- Settles O19: OUT, its refusal and its two cases; IN, its refusal and its two cases. -/
theorem setServiceTakesLinesOutAndIn : Obligations.SetServiceTakesLinesOutAndIn := by
  refine ⟨fun s now b h hb => command_unchanged h (onLine_badLine _ _ hb _), fun s now l h hst => command_unchanged h (runSetServiceOut_out hst),
    fun s now l h hcalls hpool hst => ?_, fun s now b h hb => command_unchanged h (onLine_badLine _ _ hb _),
    fun s now l h => ⟨fun hst => command_unchanged h (runSetServiceIn_in hst), fun hst => command_makes h (runSetServiceIn_out hst) rfl⟩⟩
  intro r
  have hpool' : PoolLaws (s.at now) := hpool.congr rfl
  obtain ⟨hout, hgives⟩ := execute_takesOut hpool' (l := l) (hcalls l) hst { s.link with rx := .hunting }
  have hexec : exec (.setServiceOut now (lineByte l)) s =
      .next (({ s.at now with link := { s.link with rx := .hunting } } : State).execute (runSetServiceOut (lineByte l))) :=
    congrArg Host.Outcome.next ((arrive_high h.resetnHigh now _).trans (goodFrame_ready (at_ready h now) _))
  have hline := hout.line
  refine ⟨_, hexec, hgives, hout.rest, ?_, ?_, ?_, ?_, ?_, ?_, ?_, ?_, ?_, ?_, fun hp => ?_⟩
  · exact congrArg LineRec.hook hline
  · exact congrArg LineRec.lsu hline
  · exact congrArg LineRec.dial hline
  · exact congrArg LineRec.pool hline
  · exact (congrArg LineRec.test hline).trans rfl
  · exact congrArg LineRec.fault hline
  · exact congrArg LineRec.prof hline
  · exact (congrArg (fun y : LineRec => y.rep.mask) hline).trans rfl
  · exact congrArg (fun y : LineRec => y.rep.latched) hline
  · exact ⟨_, endCollection_ended_of_consistent hpool' (hcalls l), hout.pool, hout.others⟩
  · have hrest : (s.hunting now).takeOut l = _ := (takeOut_unpending (s := s.hunting now) (hpool.congr rfl) (hcalls l) hp).trans
      (takenOff_rest (hpool.congr rfl))
    have hquiet := command_quiet (run := runSetServiceOut (lineByte l)) h (runSetServiceOut_in (s := s.hunting now) hst)
      ((congrArg State.link hrest).trans rfl)
    have hsame := Host.Outcome.next.inj (hexec.symm.trans hquiet)
    rw [hsame]
    exact ⟨(congrArg State.reporter hrest).trans rfl, rfl⟩

end Sys2Proof.Machine


/-! SUPPORT. The commands and timers of the Line Test Engine, from its choice of work: where an AUTO request goes, the sweep timer, and
TEST_LINE (R102 to R104, R111, R112), with O37, O38 and O41. -/

namespace Sys2Proof.Machine

/-! ## Owed lines (R104) -/

section

variable {s : State} {l : Line}

theorem lowestOwed_none (h : s.noneOwed) : s.lowestOwed = none := by
  refine List.find?_eq_none.mpr fun m _ => ?_
  simp [h m]

theorem lowestOwed_least (h : (s.line l).fault.owed = true) (hmin : ∀ m, m < l → (s.line m).fault.owed = false) : s.lowestOwed = some l :=
  find?_finRange h hmin

theorem fileOwed_none (h : s.noneOwed) : s.fileOwed = s := by simp only [State.fileOwed, lowestOwed_none h]

theorem fileOwed_least (h : (s.line l).fault.owed = true) (hmin : ∀ m, m < l → (s.line m).fault.owed = false) :
    s.fileOwed = (s.setLine l { s.line l with fault := { (s.line l).fault with owed := false } }).placeAuto l := by
  simp only [State.fileOwed, lowestOwed_least h hmin]
  rfl

theorem serveOwed_none (h : s.noneOwed) : s.serveOwed = s := by rw [State.serveOwed, fileOwed_none h, ite_self]

/-- With no owed line the head of the queue leaves and nothing takes its place (R107). -/
theorem popped_none (h : s.noneOwed) (rest : List TestReq) : s.popped rest = s.modEngine fun e => { e with queue := rest } :=
  serveOwed_none (s := s.modEngine fun e => { e with queue := rest }) h

end

/-! ## AUTO requests (R103) -/

section

variable {s : State} {l : Line} {q : TestReq}

/-- A line's one entry is the one found. -/
theorem find?_entry {queue : List TestReq} (hone : (queue.map fun q => q.line).Nodup) (hq : q ∈ queue) :
    (queue.find? fun x => x.line == q.line) = some q := by
  cases hf : queue.find? fun x => x.line == q.line with
  | none => exact absurd (List.find?_eq_none.mp hf q hq) (by simp)
  | some x =>
    have hx : x.line = q.line := by simpa using List.find?_some hf
    rw [List.inj_on_of_nodup_map hone (List.mem_of_find?_eq_some hf) hq hx]

theorem find?_noEntry {queue : List TestReq} (h : ∀ q ∈ queue, q.line ≠ l) : (queue.find? fun x => x.line == l) = none :=
  List.find?_eq_none.mpr fun x hx => by simpa using h x hx

theorem placeAuto_suspended (h : s.engine.state = .suspended) : s.placeAuto l = s := if_pos h

theorem placeAuto_auto (hs : s.engine.state ≠ .suspended) (hf : (s.engine.queue.find? fun x => x.line == l) = some q) (ha : q.auto = true) :
    s.placeAuto l = { s with engine := { s.engine with
      queue := s.engine.queue.map fun x => if x.line = l then { x with steps := 0b11111#5 } else x } } := by
  have hfull : ∀ set : StepSet, set ||| StepSet.full = 0b11111#5 := by decide
  simp only [State.placeAuto, if_neg hs, hf, ha, if_true, hfull]
  rfl

theorem placeAuto_host (hs : s.engine.state ≠ .suspended) (hf : (s.engine.queue.find? fun x => x.line == l) = some q) (ha : q.auto = false) :
    s.placeAuto l = { s with engine := { s.engine with
      queue := placeAutoEntry (s.engine.queue.filter fun x => x.line != l) { q with auto := true, steps := 0b11111#5 } } } := by
  simp only [State.placeAuto, if_neg hs, hf, ha]
  rfl

theorem placeAuto_new (hs : s.engine.state ≠ .suspended) (hf : (s.engine.queue.find? fun x => x.line == l) = none) (hroom : s.engine.queue.length < 8) :
    s.placeAuto l = { s with engine := { s.engine with queue := placeAutoEntry s.engine.queue ⟨l, 0b11111#5, true, false, false⟩ } } := by
  simp only [State.placeAuto, if_neg hs, hf]
  exact if_neg (Nat.not_le.mpr hroom)

theorem placeAuto_full (hs : s.engine.state ≠ .suspended) (hf : (s.engine.queue.find? fun x => x.line == l) = none) (hfull : s.engine.queue.length = 8) :
    s.placeAuto l = s.setLine l { s.line l with fault := { (s.line l).fault with owed := true } } := by
  simp only [State.placeAuto, if_neg hs, hf]
  exact if_pos (Nat.le_of_eq hfull.symm)

theorem placeAuto_state : (s.placeAuto l).engine.state = s.engine.state := by
  obtain ⟨q, hq⟩ := placeAuto_engine l (s := s)
  rw [hq]

theorem fileAuto_busy (hs : s.engine.state ≠ .idle) : s.fileAuto l = s.placeAuto l := by
  unfold State.fileAuto
  exact if_neg (by rw [placeAuto_state]; exact hs)

theorem onBus_withEngine (e : Engine) : ({ s with engine := e } : State).onBus l = { s.onBus l with engine := e } :=
  onBus_modEngine s l fun _ => e

/-- A HOST entry that becomes an AUTO one leaves its place for that behind the last AUTO entry (R103). -/
theorem placeAutoEntry_split {autos hosts : List TestReq} {r : TestReq} (hautos : ∀ x ∈ autos, x.auto = true)
    (hhosts : ∀ x ∈ hosts, x.auto = false) (hone : ((autos ++ hosts).map fun x => x.line).Nodup) (hq : q ∈ hosts) :
    placeAutoEntry ((autos ++ hosts).filter fun x => x.line != q.line) r =
      autos ++ [r] ++ hosts.filter fun x => x.line != q.line := by
  have hne : ∀ x ∈ autos, (x.line != q.line) = true := fun x hx => by
    rw [List.map_append, List.nodup_append] at hone
    obtain ⟨-, -, hdisjoint⟩ := hone
    simpa using hdisjoint x.line (List.mem_map_of_mem hx) q.line (List.mem_map_of_mem hq)
  rw [List.filter_append, List.filter_eq_self.mpr hne, placeAutoEntry,
    insertAfterLast_split (p := fun x : TestReq => x.auto) r hautos fun x hx => hhosts x (List.mem_of_mem_filter hx), List.append_assoc]
  rfl

/-- An engine with one entry and no owed line takes the entry, if it is eligible (R107). -/
theorem chooseWork_one (hp : s.engine.suspendPending = false) (ho : s.noneOwed) (hq : s.engine.queue = [q])
    (he : (s.line q.line).hook.state.busy = false ∨ q.force = true) :
    s.chooseWork = { s.onBus q.line with engine := { s.engine with
      queue := [], state := .running, running := some (q.begun s.partTime) } } := by
  rw [chooseWork_head s hp hq, popped_eligible, if_pos ((eligible_iff s _ _).mpr he), runEntry_eq, popped_none ho, onBus_modEngine]
  rfl

/-- An engine with one entry, of a busy line and not reported, drops it and is IDLE where nothing else is to be done (R107). -/
theorem chooseWork_dropsOne (hp : s.engine.suspendPending = false) (ho : s.noneOwed) (hq : s.engine.queue = [q])
    (hb : (s.line q.line).hook.state.busy = true) (hf : q.force = false) (hr : q.hostReport = false) (hh : s.engine.heldSweep = none)
    (hd : s.engine.sweepDue = false) : s.chooseWork = { s with engine := { s.engine with queue := [], state := .idle } } := by
  have hno : ¬ s.eligible q.line q.force = true := by simp [State.eligible, hb, hf]
  rw [chooseWork_head s hp hq, popped_eligible, if_neg hno, popped_none ho, State.dropTest, hr]
  refine (chooseWork_none (s.modEngine fun e => { e with queue := [] }) hp rfl hh).trans ?_
  exact if_neg (by simp [State.modEngine, hd])

/-- The fields of an IDLE engine that nothing waits for. -/
theorem idle_restored {e : Engine} (h : EngineConsistent e) (hs : e.state = .idle) : ({ e with queue := [], state := .idle } : Engine) = e := by
  obtain ⟨-, -, hq, -⟩ := h.idle hs
  rw [← hq, ← hs]

/-- An IDLE engine with an eligible request before it begins its test at once (R102, R103, R107). -/
theorem idle_begins (h : EngineConsistent s.engine) (hs : s.engine.state = .idle) (ho : s.noneOwed)
    (he : (s.line q.line).hook.state.busy = false ∨ q.force = true) :
    ({ s with engine := { s.engine with queue := [q] } } : State).chooseWork = { s.onBus q.line with engine := { s.engine with
      state := .running, running := some (q.begun s.partTime) } } := by
  obtain ⟨-, -, -, -, hpend⟩ := h.idle hs
  refine (chooseWork_one (s := { s with engine := { s.engine with queue := [q] } }) hpend ho rfl he).trans ?_
  rw [onBus_withEngine]
  exact congrArg (fun x : Engine => { s.onBus q.line with engine := { x with
    state := .running, running := some (q.begun s.partTime) } }) (idle_restored h hs)

theorem fileAuto_idle (h : EngineConsistent s.engine) (hs : s.engine.state = .idle) : s.fileAuto l =
    ({ s with engine := { s.engine with queue := [⟨l, 0b11111#5, true, false, false⟩] } } : State).chooseWork := by
  obtain ⟨-, -, hq, -⟩ := h.idle hs
  have hplace := placeAuto_new (s := s) (l := l) (by rw [hs]; decide) (by rw [hq]; rfl) (by rw [hq]; decide)
  rw [hq] at hplace
  unfold State.fileAuto
  dsimp only
  rw [if_pos (by rw [placeAuto_state, hs]), hplace]
  rfl

end

/-- Settles O38: each place of an AUTO request, and the owed line that is served. -/
theorem autoRequestsAreFiled : Obligations.AutoRequestsAreFiled := by
  refine ⟨fun s l => ?_, fun s hs => ⟨serveOwed_none, fun l ho hmin => (if_neg hs).trans (fileOwed_least ho hmin)⟩⟩
  intro e
  refine ⟨fun hs => ?_, fun hs hcon ho => ?_, fun hs hlaw => ?_⟩
  · rw [fileAuto_busy (by rw [hs]; decide), placeAuto_suspended hs]
  · obtain ⟨hrun, hheld, hqueue, hdue, hpend⟩ := hcon.idle hs
    have hrestored := idle_restored hcon hs
    rw [fileAuto_idle hcon hs]
    refine ⟨fun hfree => ?_, fun hbusy => ?_⟩
    · have hfirst : StepSet.first 0b11111#5 = some .dcv := by decide
      rw [idle_begins hcon hs ho (.inl hfree), TestReq.begun, hfirst]
      rfl
    · refine (chooseWork_dropsOne (s := { s with engine := { e with queue := [⟨l, 0b11111#5, true, false, false⟩] } }) hpend ho rfl hbusy rfl
        rfl hheld hdue).trans ?_
      exact congrArg (fun x : Engine => { s with engine := x }) hrestored
  · have hidle : e.state ≠ .idle := by obtain h | h := hs <;> rw [h] <;> decide
    have hsus : e.state ≠ .suspended := by obtain h | h := hs <;> rw [h] <;> decide
    rw [fileAuto_busy hidle]
    refine ⟨fun q hq hl ha => ?_, fun autos hosts hsplit hautos hhosts => ⟨fun q hq hl => ?_, fun hno hroom => ?_⟩, fun hno hfull => ?_⟩
    · subst hl
      exact placeAuto_auto hsus (find?_entry hlaw.onePerLine hq) ha
    · subst hl
      have hq' : q ∈ e.queue := hsplit ▸ List.mem_append_right autos hq
      rw [placeAuto_host hsus (find?_entry hlaw.onePerLine hq') (hhosts q hq), hsplit,
        placeAutoEntry_split hautos hhosts (hsplit ▸ hlaw.onePerLine) hq]
    · refine (placeAuto_new hsus (find?_noEntry hno) hroom).trans ?_
      rw [hsplit, placeAutoEntry, insertAfterLast_split (p := fun x : TestReq => x.auto) _ hautos hhosts, List.append_assoc]
      rfl
    · exact placeAuto_full hsus (find?_noEntry hno) hfull

/-! ## The sweep timer (R111, R112) -/

/-- Settles O41: the timer's deadline on a busy engine, and on an IDLE one with the next line IDLE or not. -/
theorem sweepTimerStartsTheSweep : Obligations.SweepTimerStartsTheSweep := by
  intro s now hhigh hcon e l
  have hexec : exec (.sweepTimerExpiry now) s = .next (s.at now).sweepExpiry := congrArg Host.Outcome.next (arrive_high hhigh now _)
  obtain ⟨u, hu⟩ : ∃ u : State, u = { s.at now with engine := { e with sweepTimer := .stopped, sweepDue := true } } := ⟨_, rfl⟩
  have hidle : e.sweepTimer = .running now → e.state = .idle → exec (.sweepTimerExpiry now) s = .next u.startSweep := fun hdue hs => by
    obtain ⟨hrun, hheld, hqueue, -, hpend⟩ := hcon.idle hs
    have hchoose : u.chooseWork = u.startSweep :=
      (chooseWork_none u (by rw [hu]; exact hpend) (by rw [hu]; exact hqueue) (by rw [hu]; exact hheld)).trans (if_pos (by rw [hu]))
    rw [hexec, ← hchoose, hu]
    exact congrArg Host.Outcome.next ((if_pos hdue).trans (if_pos hs))
  have hline : ∀ m, u.line m = s.line m := fun m => by rw [hu]; rfl
  have hcursor : u.engine.cursor + 1 = l := by rw [hu]
  have hdue' : e.state = .idle → ({ e with state := .idle, sweepDue := false } : Engine) = e := fun hs => by
    obtain ⟨-, -, -, hdue, -⟩ := hcon.idle hs
    rw [← hdue, ← hs]
  refine ⟨fun hno => ?_, fun hdue hs => ?_, fun hdue hs hi => ?_, fun hdue hs hi hon => ?_⟩
  · exact hexec.trans (congrArg Host.Outcome.next (if_neg hno))
  · exact hexec.trans (congrArg Host.Outcome.next ((if_pos hdue).trans (if_neg hs)))
  · rw [hidle hdue hs, startSweep_idle u (by rw [hcursor, hline]; exact hi), hcursor, hu, onBus_withEngine]
    exact congrArg (fun x : Engine => Host.Outcome.next { (s.at now).onBus l with engine := { x with
      state := .stepping, cursor := l, sweepTimer := .stopped
      running := some ⟨l, .sweep, e.sweepSteps, ⟨none, none, none, none, none⟩, e.sweepSteps.first,
        some (.settle, now + 20#32), false, false, false, false⟩ } }) (hdue' hs)
  · have htimer : ({ e with sweepTimer := .stopped, sweepDue := true } : Engine).timerFrom now =
        .running (now + BitVec.ofNat 32 (1000 * e.sweepInterval)) := if_pos hon
    rw [hidle hdue hs, startSweep_skips u (by rw [hcursor, hline]; exact hi), hcursor, hu]
    refine (congrArg (fun x : SweepTimer => Host.Outcome.next { s.at now with engine := { e with
      state := .idle, sweepDue := false, cursor := l, sweepTimer := x } }) htimer).trans ?_
    exact congrArg (fun x : Engine => Host.Outcome.next { s.at now with engine := { x with
      cursor := l, sweepTimer := .running (now + BitVec.ofNat 32 (1000 * e.sweepInterval)) } }) (hdue' hs)

/-! ## TEST_LINE (R102) -/

section

variable {s : State} {l : Line} {set : StepSet} {force : Bool}

theorem stepSetOf_setWidth (set : StepSet) : stepSetOf (set.setWidth 8) = some set := by
  revert set
  decide

theorem runTestLine_eq (h : set ≠ 0#5) : runTestLine (lineByte l) (set.setWidth 8) (if force then 1#8 else 0#8) s = s.requestTest l set force := by
  rw [runTestLine, onLine_lineByte, stepSetOf_setWidth, choiceOf_choice]
  exact if_neg h

/-- A TEST_LINE with an operand outside its set is refused (R171). -/
theorem runTestLine_refused {b steps f : Byte} (h : 32 ≤ b.toNat ∨ steps = 0#8 ∨ 32 ≤ steps.toNat ∨ 2 ≤ f.toNat) :
    runTestLine b steps f s = s.refuse 0x10#8 .badArgument := by
  refine onLine_refused (h.imp id fun h l => ?_)
  obtain h | h | h := h
  · have hset : stepSetOf steps = some 0#5 := by rw [h]; rfl
    rw [hset]
    cases choiceOf f <;> rfl
  · have hset : stepSetOf steps = none := if_neg (by omega)
    rw [hset]
  · have hchoice : choiceOf f = none := choiceOf_eq_none h
    rw [hchoice]
    cases stepSetOf steps <;> rfl

theorem requestTest_suspended (hs : s.engine.state = .suspended) : s.requestTest l set force = s.refuse 0x10#8 .suspended := if_pos hs

theorem requestTest_busy (hs : s.engine.state ≠ .suspended) (hf : ¬ ((s.line l).hook.state.busy = false ∨ force = true)) :
    s.requestTest l set force = s.refuse 0x10#8 .lineBusy := by
  obtain ⟨hb, hforce⟩ := not_or.mp hf
  exact (if_neg hs).trans (if_pos (by simp [hforce, Bool.eq_true_of_not_eq_false hb]))

theorem requestTest_free (hs : s.engine.state ≠ .suspended) (hf : (s.line l).hook.state.busy = false ∨ force = true) :
    s.requestTest l set force = if s.engine.queued l then
        (s.modEngine fun e => { e with queue := e.queue.map (mergeHost l set force) }).accept 0x10#8 []
      else if 8 ≤ s.engine.queue.length then s.refuse 0x10#8 .queueFull else (s.fileHost l set force).accept 0x10#8 [] :=
  (if_neg hs).trans (if_neg (by obtain h | h := hf <;> simp [h]))

theorem queued_iff (e : Engine) : e.queued l = true ↔ ∃ q ∈ e.queue, q.line = l := by simp [Engine.queued]

theorem requestTest_entered (hs : s.engine.state ≠ .suspended) (hf : (s.line l).hook.state.busy = false ∨ force = true)
    (hq : ∃ q ∈ s.engine.queue, q.line = l) : s.requestTest l set force =
      (s.modEngine fun e => { e with queue := e.queue.map (mergeHost l set force) }, ⟨0x10#8, .ok, []⟩) :=
  (requestTest_free hs hf).trans (if_pos ((queued_iff _).mpr hq))

theorem requestTest_full (hs : s.engine.state ≠ .suspended) (hf : (s.line l).hook.state.busy = false ∨ force = true)
    (hq : ¬ ∃ q ∈ s.engine.queue, q.line = l) (hfull : 8 ≤ s.engine.queue.length) :
    s.requestTest l set force = s.refuse 0x10#8 .queueFull :=
  (requestTest_free hs hf).trans ((if_neg (mt (queued_iff _).mp hq)).trans (if_pos hfull))

theorem requestTest_files (hs : s.engine.state ≠ .suspended) (hf : (s.line l).hook.state.busy = false ∨ force = true)
    (hq : ¬ ∃ q ∈ s.engine.queue, q.line = l) (hroom : s.engine.queue.length < 8) :
    s.requestTest l set force = (s.fileHost l set force, ⟨0x10#8, .ok, []⟩) :=
  (requestTest_free hs hf).trans ((if_neg (mt (queued_iff _).mp hq)).trans (if_neg (Nat.not_le.mpr hroom)))

theorem fileHost_busy (hs : s.engine.state ≠ .idle) : s.fileHost l set force =
    { s with engine := { s.engine with queue := s.engine.queue ++ [⟨l, set, false, true, force⟩] } } := if_neg hs

theorem fileHost_idle (h : EngineConsistent s.engine) (hs : s.engine.state = .idle) (ho : s.noneOwed)
    (hf : (s.line l).hook.state.busy = false ∨ force = true) : s.fileHost l set force = { s.onBus l with engine := { s.engine with
      state := .running, running := some ((⟨l, set, false, true, force⟩ : TestReq).begun s.partTime) } } := by
  obtain ⟨-, -, hq, -⟩ := h.idle hs
  rw [← idle_begins h hs ho (q := ⟨l, set, false, true, force⟩) hf]
  unfold State.fileHost
  dsimp only
  rw [State.modEngine, hq]
  exact if_pos hs

theorem onBus_hunting (now : Time) : (s.hunting now).onBus l = (s.onBus l).hunting now := by
  unfold State.onBus
  dsimp only
  rw [hunting_line]
  cases (s.line l).pool.receiver <;> rfl

theorem onBus_link : (s.onBus l).link = s.link := by
  unfold State.onBus
  dsimp only
  cases (s.line l).pool.receiver <;> rfl

end

/-- Settles O37: the refusals of TEST_LINE in their order, and where an accepted request goes. -/
theorem testLineIsQueuedOrBegun : Obligations.TestLineIsQueuedOrBegun := by
  refine ⟨fun s now b steps force h hbad => command_unchanged h (runTestLine_refused hbad), fun s now l set force h hset => ?_,
    fun s now l set force h hset hcon ho hs hf => ?_⟩
  · intro e c free entered
    have hrun : ∀ {u r}, (s.hunting now).requestTest l set force = (u, r) →
        runTestLine (lineByte l) (set.setWidth 8) (if force then 1#8 else 0#8) (s.hunting now) = (u, r) :=
      fun hu => (runTestLine_eq hset).trans hu
    refine ⟨fun hs => ?_, fun hs hf => ?_, fun hs hf hq => ?_, fun hs hf hq hfull => ?_, fun hs hf hq hroom => ?_⟩
    · exact command_unchanged h (hrun (requestTest_suspended hs))
    · exact command_unchanged h (hrun (requestTest_busy hs hf))
    · exact command_makes (t := { s with engine := _ }) h (hrun (requestTest_entered hs hf hq)) rfl
    · exact command_unchanged h (hrun (requestTest_full hs hf hq hfull))
    · have hidle : e.state ≠ .idle := by obtain h | h := hs <;> rw [h] <;> decide
      have hsus : e.state ≠ .suspended := by obtain h | h := hs <;> rw [h] <;> decide
      have hfiles := hrun (requestTest_files (s := s.hunting now) hsus hf hq hroom)
      rw [fileHost_busy (s := s.hunting now) hidle] at hfiles
      exact command_makes (t := { s with engine := { e with queue := e.queue ++ [⟨l, set, false, true, force⟩] } }) h hfiles rfl
  · obtain ⟨-, -, hqueue, -⟩ := hcon.idle hs
    have hrun := (runTestLine_eq (s := s.hunting now) (l := l) (force := force) hset).trans
      (requestTest_files (by rw [hunting_engine, hs]; decide) hf (by rw [hunting_engine, hqueue]; simp) (by rw [hunting_engine, hqueue]; decide))
    rw [fileHost_idle (s := s.hunting now) hcon hs ho hf, onBus_hunting] at hrun
    exact command_makes (t := { s.onBus l with engine := _ }) h hrun onBus_link

end Sys2Proof.Machine


/-! SUPPORT. How a test ends: held, yielded, DONE or ABORTED; and ABORT_TEST and RESUME_TESTS (R108, R109, R113, R116 to R120), with O39,
O40 and O43. -/

namespace Sys2Proof.Machine

/-! ## A verdict and the line's test record -/

section

variable {s : State} {l : Line}

theorem quarantined_test (r : LineRec) (v : Profile) (now : Time) (m : ScanMode) : (r.quarantined v now m).test = r.test := by
  have hended : ∀ y : LineRec, y.ended.test = y.test := fun y => by unfold LineRec.ended; split <;> rfl
  have hhonoured : ∀ y : LineRec, (y.honoured v).test = y.test := fun y => by
    unfold LineRec.honoured
    split
    · rw [applied_eq]
    · rfl
  exact (hhonoured _).trans (hended _)

theorem enterQuarantine_test : ((s.enterQuarantine l).line l).test = (s.line l).test := by
  obtain ⟨p, q, h⟩ := enterQuarantine_line_self s l
  rw [h]
  exact quarantined_test _ _ _ _

theorem countVerdict_test (v : FaultSet) : ((s.countVerdict l v).line l).test = (s.line l).test := by
  unfold State.countVerdict
  repeat' split
  · rw [raise_line_test, leaveQuarantine_eq, line_setLine_self]
    rfl
  · exact line_modFault_test _ _ _ _
  · exact line_modFault_test _ _ _ _

theorem actOnVerdict_test (v : FaultSet) : ((s.actOnVerdict l v).line l).test = (s.line l).test := by
  by_cases hv : v = 0#6
  · rw [actOnVerdict_nothing (.inl hv)]
  cases hq : (s.line l).prof.working.quarantineOnFault with
  | false => rw [actOnVerdict_nothing (.inr (.inl hq))]
  | true =>
    cases hs : (s.line l).hook.state with
    | outOfService => rw [actOnVerdict_nothing (.inr (.inr hs))]
    | learning => rw [actOnVerdict_quarantines hv hq (.inl hs), enterQuarantine_test]
    | idle => rw [actOnVerdict_quarantines hv hq (.inr hs), enterQuarantine_test]
    | quarantined => simp only [State.actOnVerdict, hs, ite_self]
    | seizing | offHook | onBreak => rw [actOnVerdict_pends hv hq (by rw [hs]; rfl), line_modHook_test]

theorem takeVerdict_test (v : FaultSet) : ((s.takeVerdict l v).line l).test = (s.line l).test := by
  obtain ⟨q, hq⟩ := joinSticky_line (s := s) (l := l) (v := v)
  have hjoined : ((s.joinSticky l v).line l).test = (s.line l).test := by rw [hq]
  by_cases h : (s.line l).hook.state = .quarantined
  · rw [takeVerdict_counts h, countVerdict_test, hjoined]
  · rw [takeVerdict_acts h, actOnVerdict_test, hjoined]

end

/-! ## The completion of a phase (R108, R113) -/

section

variable {s : State} {c : TestCtx}

/-- The arrival that completes the phase in flight (R100). -/
theorem exec_completes {now : Time} {i : Instr} {values : TestValues} (hhigh : s.link.resetnLow = false) (hc : s.engine.running = some c)
    (h : c.completes now i values) :
    exec i s = .next ((s.at now).phaseDone { c with values := values } (decide (c.phase ≠ some (.settle, now)))) := by
  obtain ⟨hp, rfl, rfl⟩ | ⟨q, a, b, hp, rfl, rfl⟩ := h
  · rw [exec_settle hhigh, settleDone_due (s.at now) hc hp, decide_eq_false (not_not.mpr hp)]
  · rw [exec_step hhigh, stepDone_due (s.at now) hc hp, decide_eq_true (by rw [hp]; simp)]

theorem phaseDone_aborts (w : Bool) (hs : s.engine.state = .running ∨ s.engine.state = .stepping) (ha : c.abortRequested = true) :
    s.phaseDone c w = s.endAborted c := by
  unfold State.phaseDone
  obtain h | h := hs
  · simp only [h]
    exact if_pos ha
  · simp only [h]
    exact if_pos ha

theorem phaseDone_ends (w : Bool) (hs : s.engine.state = .running ∨ s.engine.state = .stepping) (ha : c.abortRequested = false)
    (hn : c.next = none) : s.phaseDone c w = s.endDone c := by
  unfold State.phaseDone
  obtain h | h := hs
  · simp only [h, State.runningPhaseDone, ha, hn, Bool.false_eq_true, if_false]
  · simp only [h, State.steppingPhaseDone, ha, hn, Bool.false_eq_true, if_false]

theorem phaseDone_holds (w : Bool) {p : Step} (hs : s.engine.state = .running) (ha : c.abortRequested = false) (hn : c.next = some p)
    (hp : s.engine.suspendPending = true) : s.phaseDone c w =
      ((s.disconnect c.line).modEngine fun e => { e with running := some { c with phase := none } }).enterSuspended := by
  simp only [State.phaseDone, hs, State.runningPhaseDone, ha, hn, hp, Bool.false_eq_true, if_false, if_true]

theorem phaseDone_holdsSweep (w : Bool) {p : Step} (hs : s.engine.state = .stepping) (ha : c.abortRequested = false) (hn : c.next = some p)
    (hp : s.engine.suspendPending = true) : s.phaseDone c w = (s.holdSweep c).enterSuspended := by
  simp only [State.phaseDone, hs, State.steppingPhaseDone, ha, hn, hp, Bool.false_eq_true, if_false, if_true]

theorem phaseDone_yields {p : Step} (hs : s.engine.state = .stepping) (ha : c.abortRequested = false) (hn : c.next = some p)
    (hp : s.engine.suspendPending = false) (hq : s.engine.queue ≠ []) : s.phaseDone c true = (s.holdSweep c).chooseWork := by
  simp only [State.phaseDone, hs, State.steppingPhaseDone, ha, hn, hp, Bool.false_eq_true, if_false, Bool.true_and]
  exact if_pos (by simpa using hq)

theorem holdSweep_eq : s.holdSweep c = { s.offBus s.partTime c.line with engine := { s.engine with
    running := none, heldSweep := some ⟨c.line, c.steps, c.values, c.next⟩ } } := by
  rw [State.holdSweep, disconnect_eq]
  rfl

/-! ## The end of a test (R109) -/

/-- The engine with its running test ended at `now` (R109 step 6). -/
def Engine.freed (e : Engine) (c : TestCtx) (now : Time) : Engine :=
  { e with running := none, sweepTimer := if c.origin = .sweep then e.timerFrom now else e.sweepTimer }

theorem clearRunning_eq : s.clearRunning c = { s with engine := s.engine.freed c s.partTime } := by
  unfold State.clearRunning State.modEngine Engine.freed
  dsimp only
  rw [startTimer_eq]
  split <;> rfl

/-- The engine's choice once a test has ended, with a suspension request that waits behind it (R106, R116). -/
def State.chosenAfter (s : State) (c : TestCtx) : State := s.chooseWork.afterCross c

theorem endDone_told {t : State} (ht : (s.disconnect c.line).finishDone c = t) (he : t.engine = s.engine) (hn : t.partTime = s.partTime) :
    s.endDone c = ({ t with engine := s.engine.freed c s.partTime } : State).chosenAfter c := by
  rw [State.endDone, ht, clearRunning_eq, he, hn]
  rfl

theorem endAborted_told {t : State} (ht : (s.disconnect c.line).finishAborted c = t) (he : t.engine = s.engine) (hn : t.partTime = s.partTime) :
    s.endAborted c = ({ t with engine := s.engine.freed c s.partTime } : State).chosenAfter c := by
  rw [State.endAborted, ht, clearRunning_eq, he, hn]
  rfl

/-- With nothing to do the engine is IDLE (R106). -/
theorem chooseWork_rests {e : Engine} (hq : e.queue = []) (hh : e.heldSweep = none) (hd : e.sweepDue = false)
    (hp : e.suspendPending = false) : ({ s with engine := e } : State).chooseWork = { s with engine := { e with state := .idle } } :=
  (chooseWork_none { s with engine := e } hp hq hh).trans (if_neg (by simp [hd]))

/-- With nothing else to do the engine is IDLE, or SUSPENDED after a request that waited (R106, R116). -/
theorem chosenAfter_rests {e : Engine} (hq : e.queue = []) (hh : e.heldSweep = none) (hd : e.sweepDue = false)
    (hp : e.suspendPending = false) : ({ s with engine := e } : State).chosenAfter c = { s with engine :=
      if c.crossed then { e with state := .suspended, sweepTimer := e.sweepTimer.paused s.partTime } else { e with state := .idle } } := by
  have hidle : State.chooseWork { s with engine := e } = { s with engine := { e with state := .idle } } := chooseWork_rests hq hh hd hp
  rw [State.chosenAfter, hidle, State.afterCross]
  cases hx : c.crossed with
  | false => rfl
  | true =>
    have hrequest : State.requestSuspension { s with engine := { e with state := .idle } } c.line =
        State.enterSuspended { s with engine := { e with state := .idle } } := rfl
    rw [if_pos rfl, if_pos rfl, hrequest, enterSuspended_eq]
    exact congrArg (fun b => { s with engine := { e with
      state := .suspended, suspendPending := b, sweepTimer := e.sweepTimer.paused s.partTime } }) hp.symm

/-! ## A line taken off the bus -/

variable {l m : Line} {now : Time}

theorem offBus_line_self : (s.offBus now l).line l = { s.line l with
    test := { (s.line l).test with onTestBus := false, relayClosed := false }
    lsu := { (s.line l).lsu with settleEnd := some (now + 20#32) } } := line_setLine_self _ _ _

theorem offBus_line_ne (h : m ≠ l) : (s.offBus now l).line m = s.line m := line_setLine_ne _ _ _ h

theorem offBus_hook : ((s.offBus now l).line m).hook = (s.line m).hook := by
  by_cases h : m = l
  · rw [h, offBus_line_self]
  · rw [offBus_line_ne h]

theorem offBus_noneOwed (h : s.noneOwed) : (s.offBus now l).noneOwed := fun m => by
  by_cases hm : m = l
  · rw [hm, offBus_line_self]
    exact h l
  · rw [offBus_line_ne hm]
    exact h m

/-- A record is stored for a line off the bus (R109). -/
theorem storeResult_off {r : ResultRec} (hon : (s.line r.line).test.onTestBus = false) (hrelay : (s.line r.line).test.relayClosed = false) :
    s.storeResult r = s.setLine r.line { s.line r.line with test := ⟨false, false, some r⟩ } := by
  rw [State.storeResult, State.modTest, hon, hrelay]

end

/-- Settles O43: a phase that ends a stay on the bus, each way it may. -/
theorem testsAreHeldYieldAndEnd : Obligations.TestsAreHeldYieldAndEnd := by
  intro s now c i values hhigh hrun hcomp e l off
  have hexec := exec_completes hhigh hrun hcomp
  have hoff : (s.at now).disconnect l = off := disconnect_eq _ _
  have hoffTime : off.partTime = now := rfl
  have hoffEngine : off.engine = e := rfl
  refine ⟨fun p ha hn => ?_, fun hs => ?_⟩
  · intro held
    have hheld : (s.at now).holdSweep { c with values := values } = { off with engine := held } := by
      refine holdSweep_eq.trans ?_
      rw [show ({ c with values := values } : TestCtx).next = some p from hn]
      rfl
    refine ⟨fun hs hp => ?_, fun hs hp => ?_, fun hs hp hstep => ?_⟩
    · rw [hexec, phaseDone_holds (s := s.at now) (c := { c with values := values }) _ hs ha hn hp, enterSuspended_eq]
      exact congrArg (fun u : State => Host.Outcome.next { u with engine := { e with
        state := .suspended, suspendPending := false, sweepTimer := e.sweepTimer.paused now
        running := some { c with values := values, phase := none } } }) hoff
    · rw [hexec, phaseDone_holdsSweep (s := s.at now) (c := { c with values := values }) _ hs ha hn hp, hheld, enterSuspended_eq]
      rfl
    · have hyields : e.queue ≠ [] → exec i s = .next { off with engine := held }.chooseWork := fun hq => by
        rw [hexec, decide_eq_true hstep, phaseDone_yields (s := s.at now) (c := { c with values := values }) hs ha hn hp hq, hheld]
      refine ⟨hyields, fun ho r rest hq hr => ?_⟩
      have hnone : ({ off with engine := held } : State).noneOwed := offBus_noneOwed (s := s.at now) ho
      have heligible : State.eligible { off with engine := held } r.line r.force = true := by
        rw [eligible_iff]
        refine hr.imp (fun hb => ?_) id
        rw [← hb]
        exact congrArg HookState.busy (congrArg HookRec.state (offBus_hook (s := s.at now)))
      rw [hyields (by rw [hq]; simp), chooseWork_head { off with engine := held } hp hq, popped_eligible, if_pos heligible, popped_none hnone,
        runEntry_eq, onBus_modEngine, onBus_withEngine]
      rfl
  · intro free chosen rested
    have hchosen : ∀ u : State, chosen u = u.chosenAfter { c with values := values } := fun u => rfl
    refine ⟨fun ha hn => ?_, fun ha => ?_⟩
    · intro record judged stored told
      have hworking : off.working l = (s.line l).prof.working := by rw [State.working, offBus_line_self]; rfl
      have htest : (judged.line l).test = { (s.line l).test with onTestBus := false, relayClosed := false } := by
        rw [takeVerdict_test, offBus_line_self]
        rfl
      rw [hexec, phaseDone_ends (s := s.at now) (c := { c with values := values }) _ hs ha hn]
      have htold : State.finishDone ((s.at now).disconnect c.line) { c with values := values } = told := by
        rw [hoff, State.finishDone, hworking]
        have hstored : judged.storeResult record = stored := storeResult_off (by rw [htest]) (by rw [htest])
        exact congrArg (fun u : State => if c.hostReport then u.raise l (.testDone record) else u) hstored
      have hstoredTime : stored.partTime = now := (partTime_of_kept (takeVerdict_kept off l _)).trans hoffTime
      have hstoredEngine : stored.engine = e := (takeVerdict_engine off l _).trans hoffEngine
      have htoldTime : told.partTime = now :=
        (apply_ite State.partTime _ _ _).trans (by rw [raise_partTime, ite_self, hstoredTime])
      have htoldEngine : told.engine = e :=
        (apply_ite State.engine _ _ _).trans (by rw [raise_engine, ite_self, hstoredEngine])
      have hdone := endDone_told (s := s.at now) (c := { c with values := values }) htold htoldEngine htoldTime
      clear_value told
      refine ⟨congrArg Host.Outcome.next hdone, fun hq hh hd hp => ?_⟩
      refine congrArg Host.Outcome.next (hdone.trans ((chosenAfter_rests (s := told)
        (e := e.freed { c with values := values } now) hq hh hd hp).trans ?_))
      rw [htoldTime]
      rfl
    · intro record told
      rw [hexec, phaseDone_aborts (s := s.at now) (c := { c with values := values }) _ hs ha]
      have htold : State.finishAborted ((s.at now).disconnect c.line) { c with values := values } = told := by
        rw [hoff, State.finishAborted]
        have hline : off.line l = _ := offBus_line_self
        have hstored : off.storeResult record = off.setLine l { off.line l with test := ⟨false, false, some record⟩ } :=
          storeResult_off (by rw [hline]) (by rw [hline])
        exact congrArg (fun u : State => u.raise l (.testAborted record)) hstored
      have htoldTime : told.partTime = now := (raise_partTime _ _ _).trans hoffTime
      have htoldEngine : told.engine = e := (raise_engine _ _ _).trans hoffEngine
      have hdone := endAborted_told (s := s.at now) (c := { c with values := values }) htold htoldEngine htoldTime
      clear_value told
      refine ⟨congrArg Host.Outcome.next hdone, fun hq hh hd hp => ?_⟩
      refine congrArg Host.Outcome.next (hdone.trans ((chosenAfter_rests (s := told)
        (e := e.freed { c with values := values } now) hq hh hd hp).trans ?_))
      rw [htoldTime]
      rfl

/-! ## RESUME_TESTS (R120) -/

section

variable {s : State} {c : TestCtx} {l : Line}

theorem runResumeTests_notSuspended (h : s.engine.state ≠ .suspended) : runResumeTests s = s.refuse 0x12#8 .notSuspended := if_pos h

theorem runResumeTests_alarmed (h : s.engine.state = .suspended) (ha : ∃ m, (s.line m).lsu.ovActive = true) :
    runResumeTests s = s.refuse 0x12#8 .stillAlarmed := by
  obtain ⟨m, hm⟩ := ha
  exact (if_neg (not_not.mpr h)).trans (if_pos (List.any_eq_true.mpr ⟨m, mem_allLines m, hm⟩))

theorem runResumeTests_accepted (h : s.engine.state = .suspended) (ha : ∀ m, (s.line m).lsu.ovActive = false) :
    runResumeTests s = (s.resumeTesting, ⟨0x12#8, .ok, []⟩) := by
  refine (if_neg (not_not.mpr h)).trans ((if_neg fun hany => ?_).trans rfl)
  obtain ⟨m, -, hm⟩ := List.any_eq_true.mp hany
  rw [ha m] at hm
  cases hm

/-- A timer with a remaining time runs on (R111): it has one only while the sweep is enabled, not due and not held. -/
theorem resumeTimer_eq {e : Engine} (hl : SweepTimerLaw e) (now : Time) :
    e.resumeTimer now = { e with sweepTimer := e.sweepTimer.resumed now } := by
  unfold Engine.resumeTimer SweepTimer.resumed
  cases ht : e.sweepTimer with
  | stopped | running d => simp only [← ht]
  | remaining ms =>
    obtain ⟨hon, -, hsweep, hdue⟩ := hl.remains.mp ⟨ms, ht⟩
    have hheld : e.heldSweep = none := Option.not_isSome_iff_eq_none.mp fun h => hsweep (.inl h)
    exact if_pos (by simp [hon, hheld, hdue])

theorem fileOwedLoop_none (h : s.noneOwed) (n : Nat) : State.fileOwedLoop n s = s := by
  cases n with
  | zero => rfl
  | succ n => exact if_neg (by simp [lowestOwed_none h])

theorem fileOwedLoop_one (hroom : s.engine.queue.length < 8) (ho : (s.line l).fault.owed = true)
    (hmin : ∀ m, m < l → (s.line m).fault.owed = false) (hrest : s.fileOwed.noneOwed) (n : Nat) :
    State.fileOwedLoop (n + 1) s = s.fileOwed :=
  (if_pos (by simp [lowestOwed_least ho hmin, Config.testQueueCap, hroom])).trans (fileOwedLoop_none hrest n)

/-- The engine as RESUME_TESTS finds it IDLE, its timer running on. -/
def State.resumed (s : State) : State :=
  { s with engine := { s.engine with state := .idle, sweepTimer := s.engine.sweepTimer.resumed s.partTime } }

theorem resumeTesting_eq (hl : SweepTimerLaw s.engine) : s.resumeTesting = (State.fileOwedLoop 32 s.resumed).resumeHeld := by
  unfold State.resumeTesting State.modEngine
  dsimp only
  rw [resumeTimer_eq hl]
  rfl

theorem resumeHeld_resumes (hc : s.engine.running = some c) (he : (s.line c.line).hook.state.busy = false ∨ c.force = true) :
    s.resumeHeld = { s.onBus c.line with engine := { s.engine with state := .running, running := some (c.settling s.partTime) } } := by
  simp only [State.resumeHeld, hc, if_pos ((eligible_iff s _ _).mpr he), beginTest_eq]

theorem resumeHeld_none (hc : s.engine.running = none) : s.resumeHeld = s.chooseWork := by simp only [State.resumeHeld, hc]

theorem resumeHeld_drops (hc : s.engine.running = some c) (hb : (s.line c.line).hook.state.busy = true) (hf : c.force = false) :
    s.resumeHeld = ((s.dropTest c.line c.hostReport).modEngine fun e => { e with running := none }).chooseWork := by
  have he : s.eligible c.line c.force = false := by simp [State.eligible, hb, hf]
  simp only [State.resumeHeld, hc, he, Bool.false_eq_true, if_false]

/-- With no owed line a held test of an eligible line resumes (R120 step 3). -/
theorem resumeTesting_resumes (hl : SweepTimerLaw s.engine) (ho : s.noneOwed) (hc : s.engine.running = some c)
    (he : (s.line c.line).hook.state.busy = false ∨ c.force = true) : s.resumeTesting = { s.onBus c.line with engine := { s.engine with
      state := .running, running := some (c.settling s.partTime), sweepTimer := s.engine.sweepTimer.resumed s.partTime } } := by
  rw [resumeTesting_eq hl, fileOwedLoop_none (s := s.resumed) ho, resumeHeld_resumes (s := s.resumed) hc he, State.resumed, onBus_withEngine]

/-- With nothing to do the engine is IDLE (R120 step 4). -/
theorem resumeTesting_rests (hl : SweepTimerLaw s.engine) (ho : s.noneOwed) (hc : s.engine.running = none) (hq : s.engine.queue = [])
    (hh : s.engine.heldSweep = none) (hd : s.engine.sweepDue = false) (hp : s.engine.suspendPending = false) :
    s.resumeTesting = s.resumed := by
  rw [resumeTesting_eq hl, fileOwedLoop_none (s := s.resumed) ho, resumeHeld_none (s := s.resumed) hc]
  exact (chooseWork_none s.resumed hp hq hh).trans (if_neg (by rw [State.resumed]; simp [hd]))

/-- The one owed line beside an empty queue is filed there (R104). -/
theorem fileOwed_alone (hs : s.engine.state ≠ .suspended) (hq : s.engine.queue = []) (ho : (s.line l).fault.owed = true)
    (hmin : ∀ m, m < l → (s.line m).fault.owed = false) : s.fileOwed =
      { s.setLine l { s.line l with fault := { (s.line l).fault with owed := false } } with
        engine := { s.engine with queue := [⟨l, 0b11111#5, true, false, false⟩] } } := by
  rw [fileOwed_least ho hmin]
  obtain ⟨u, hu⟩ : ∃ u : State, u = s.setLine l { s.line l with fault := { (s.line l).fault with owed := false } } := ⟨_, rfl⟩
  have hengine : u.engine = s.engine := by rw [hu]; rfl
  have hqueue : u.engine.queue = [] := by rw [hengine, hq]
  rw [← hu, placeAuto_new (by rw [hengine]; exact hs) (by rw [hqueue]; rfl) (by rw [hqueue]; decide), hqueue, hengine]
  rfl

/-- One owed line is filed and its test begun (R120 step 2). -/
theorem resumeTesting_serves (hl : SweepTimerLaw s.engine) (ho : (s.line l).fault.owed = true)
    (hone : ∀ k, k ≠ l → (s.line k).fault.owed = false) (hc : s.engine.running = none) (hq : s.engine.queue = [])
    (hp : s.engine.suspendPending = false) (hb : (s.line l).hook.state.busy = false) :
    s.resumeTesting = { (s.setLine l { s.line l with fault := { (s.line l).fault with owed := false } }).onBus l with
      engine := { s.engine with
        state := .running, sweepTimer := s.engine.sweepTimer.resumed s.partTime
        running := some ⟨l, .auto, 0b11111#5, ⟨none, none, none, none, none⟩, some .dcv, some (.settle, s.partTime + 20#32),
          false, false, false, false⟩ } } := by
  obtain ⟨u, hu⟩ : ∃ u : State, u = s.setLine l { s.line l with fault := { (s.line l).fault with owed := false } } := ⟨_, rfl⟩
  have hnone : u.noneOwed := fun m => by
    by_cases hm : m = l
    · rw [hm, hu, line_setLine_self]
    · rw [hu, line_setLine_ne _ _ _ hm]
      exact hone m hm
  have hmin : ∀ m, m < l → (s.line m).fault.owed = false := fun m hm => hone m (ne_of_lt hm)
  obtain ⟨w, hw⟩ : ∃ w : State, w = { u with engine := { s.resumed.engine with queue := [⟨l, 0b11111#5, true, false, false⟩] } } := ⟨_, rfl⟩
  have hfiled : s.resumed.fileOwed = w := by
    rw [fileOwed_alone (s := s.resumed) (fun h => by cases h) hq ho hmin, hw, hu]
    rfl
  have hwtime : w.partTime = s.partTime := by
    rw [hw, hu]
    rfl
  have hwnone : w.noneOwed := by rw [hw]; exact hnone
  have hwline : (w.line l).hook.state.busy = false := by
    rw [hw, hu]
    refine (congrArg (fun r : LineRec => r.hook.state.busy) (line_setLine_self s l _)).trans hb
  have hfirst : StepSet.first 0b11111#5 = some .dcv := by decide
  have hlength : s.resumed.engine.queue.length < 8 := lt_of_eq_of_lt (congrArg List.length hq) (by decide)
  rw [resumeTesting_eq hl, fileOwedLoop_one hlength ho hmin (by rw [hfiled]; exact hwnone) 31, hfiled,
    resumeHeld_none (by rw [hw]; exact hc), chooseWork_one (q := ⟨l, 0b11111#5, true, false, false⟩) (by rw [hw]; exact hp) hwnone
    (by rw [hw]) (.inl hwline), hwtime, hw, onBus_withEngine, TestReq.begun, hfirst, ← hu]
  have hrestored : ({ s.engine with queue := [] } : Engine) = s.engine := by rw [← hq]
  exact congrArg (fun x : Engine => { u.onBus l with engine := { x with
    state := .running, sweepTimer := s.engine.sweepTimer.resumed s.partTime
    running := some ⟨l, .auto, 0b11111#5, ⟨none, none, none, none, none⟩, some .dcv, some (.settle, s.partTime + 20#32),
      false, false, false, false⟩ } }) hrestored

/-- The transmitter's choice asks nothing of the engine. -/
theorem txChoose_withEngine (e : Engine) : ({ s with engine := e } : State).txChoose = { s.txChoose with engine := e } := by
  unfold State.txChoose
  dsimp only
  cases s.link.tx with
  | some f => rfl
  | none =>
    cases s.link.slot with
    | some p => rfl
    | none =>
      cases s.link.busyPending with
      | true => rfl
      | false => cases s.reporter.prio with
        | cons e rest => rfl
        | nil => cases s.reporter.norm <;> rfl

theorem raise_withEngine (e : Engine) (b : LineEvent) : ({ s with engine := e } : State).raise l b = { s.raise l b with engine := e } := by
  have hreport : ∀ (t : State) (k : EventClass) (x : Event), ({ t with engine := e } : State).report k x = { t.report k x with engine := e } :=
    fun t k x => txChoose_withEngine (s := { t with reporter := t.reporter.enqueue k x }) e
  have hlatch : State.modRep { s with engine := e } l (fun r => { r with latched := r.latched ||| kindBit b.kind }) =
      { s.modRep l (fun r => { r with latched := r.latched ||| kindBit b.kind }) with engine := e } := rfl
  have hline : ({ s with engine := e } : State).line l = s.line l := rfl
  unfold State.raise
  dsimp only
  rw [hlatch, hreport, hline]
  split
  · rfl
  · rfl

/-- A held test of a busy line, not forced, is dropped, and with nothing else to do the engine is IDLE (R120). -/
theorem resumeTesting_drops (hl : SweepTimerLaw s.engine) (ho : s.noneOwed) (hc : s.engine.running = some c)
    (hb : (s.line c.line).hook.state.busy = true) (hf : c.force = false) (hq : s.engine.queue = []) (hh : s.engine.heldSweep = none)
    (hd : s.engine.sweepDue = false) (hp : s.engine.suspendPending = false) :
    s.resumeTesting = { s.dropTest c.line c.hostReport with engine := { s.engine with
      state := .idle, running := none, sweepTimer := s.engine.sweepTimer.resumed s.partTime } } := by
  have hdrop : ∀ e : Engine, State.dropTest { s with engine := e } c.line c.hostReport = { s.dropTest c.line c.hostReport with engine := e } :=
    fun e => by
      unfold State.dropTest
      split
      · exact raise_withEngine e _
      · rfl
  rw [resumeTesting_eq hl, fileOwedLoop_none (s := s.resumed) ho, resumeHeld_drops (s := s.resumed) hc hb hf, State.resumed, hdrop]
  exact chooseWork_rests (s := s.dropTest c.line c.hostReport) (e := { s.engine with
    state := .idle, running := none, sweepTimer := s.engine.sweepTimer.resumed s.partTime }) hq hh hd hp

/-- Of two states, the second is the first with the held test `c` dropped and the engine IDLE, whatever was sent and drawn meanwhile. -/
structure HeldTestDropped (s t : State) (c : TestCtx) : Prop where
  rest : t = { s with
    lines := t.lines, reporter := t.reporter, link := t.link, freeCount := t.freeCount
    engine := { s.engine with state := .idle, running := none, sweepTimer := s.engine.sweepTimer.resumed s.partTime } }
  line : t.line c.line = { s.line c.line with rep := { (s.line c.line).rep with
    latched := if c.hostReport then (s.line c.line).rep.latched ||| 0x0200#16 else (s.line c.line).rep.latched } }
  others : ∀ m, m ≠ c.line → t.line m = s.line m

theorem HeldTestDropped.answered {t : State} (h : HeldTestDropped s t c) (n : Nat) (r : Reply) :
    HeldTestDropped s (({ t with freeCount := n } : State).answer r) c := by
  rw [answer_eq]
  obtain ⟨hrest, hline, hne⟩ := h
  exact ⟨by rw [hrest], hline, hne⟩

theorem HeldTestDropped.relinked {t : State} (h : HeldTestDropped s t c) (k : Link) : HeldTestDropped s { t with link := k } c := by
  obtain ⟨hrest, hline, hne⟩ := h
  exact ⟨by rw [hrest], hline, hne⟩

theorem dropTest_heldTestDropped (k : Link) : HeldTestDropped s { State.dropTest { s with link := k } c.line c.hostReport with
    engine := { s.engine with state := .idle, running := none, sweepTimer := s.engine.sweepTimer.resumed s.partTime } } c := by
  unfold State.dropTest
  cases hr : c.hostReport with
  | false =>
    refine ⟨rfl, ?_, fun m _ => rfl⟩
    rw [hr]
    rfl
  | true =>
    rw [if_pos rfl]
    refine ⟨?_, ?_, fun m hm => raise_line_ne { s with link := k } c.line .testDropped hm⟩
    · rw [raise_rest]
      rfl
    · rw [hr]
      exact raise_line_self { s with link := k } c.line .testDropped

/-- The execution of RESUME_TESTS that drops a held test, in whatever order its event and its reply are drawn. -/
theorem execute_dropsHeld (hl : SweepTimerLaw s.engine) (ho : s.noneOwed) (hc : s.engine.running = some c)
    (hb : (s.line c.line).hook.state.busy = true) (hf : c.force = false) (hq : s.engine.queue = []) (hh : s.engine.heldSweep = none)
    (hd : s.engine.sweepDue = false) (hp : s.engine.suspendPending = false) (hs : s.engine.state = .suspended)
    (hquiet : ∀ m, (s.line m).lsu.ovActive = false) (k : Link) :
    HeldTestDropped s (({ s with link := k } : State).execute runResumeTests) c ∧
      (({ s with link := k } : State).execute runResumeTests).link.gives ⟨0x12#8, .ok, []⟩ := by
  have hrun : ∀ k : Link, runResumeTests { s with link := k } = ({ State.dropTest { s with link := k } c.line c.hostReport with
      engine := { s.engine with state := .idle, running := none, sweepTimer := s.engine.sweepTimer.resumed s.partTime } },
        ⟨0x12#8, .ok, []⟩) := fun k =>
    (runResumeTests_accepted (s := { s with link := k }) hs hquiet).trans
      (congrArg (fun t : State => (t, (⟨0x12#8, .ok, []⟩ : Reply))) (resumeTesting_drops (s := { s with link := k }) hl ho hc hb hf hq hh hd hp))
  obtain ⟨n, hn⟩ | ⟨-, n, hn⟩ := execute_cases { s with link := k } runResumeTests
  · rw [hn, hrun]
    exact ⟨(dropTest_heldTestDropped k).answered _ _, answer_gives _ _⟩
  · have hkept : (({ s with link := k } : State).modLink fun k => { k with tx := some .busy }) =
        ({ s with link := { k with tx := some .busy } } : State) := rfl
    rw [hkept, hrun] at hn
    rw [hn]
    exact ⟨((dropTest_heldTestDropped _).relinked _).answered _ _, answer_gives _ _⟩

end

/-- Settles O40: the refusals of RESUME_TESTS, and what an accepted one resumes, serves, drops or leaves. -/
theorem resumeTestsLeavesSuspended : Obligations.ResumeTestsLeavesSuspended := by
  intro s now h e ok timer
  refine ⟨fun hs => command_unchanged h (runResumeTests_notSuspended hs), fun hs ha => command_unchanged h (runResumeTests_alarmed hs ha),
    fun hs ha hcon hlaw => ?_⟩
  obtain ⟨hheld, hpend⟩ := hcon.suspended hs
  have hrun := runResumeTests_accepted (s := s.hunting now) hs ha
  refine ⟨fun c ho hc he => ?_, fun ho hc hq hh hd => ?_, fun m ho hone hc hq hb => ?_, fun c ho hc hb hf hq hh hd => ?_⟩
  · rw [resumeTesting_resumes (s := s.hunting now) hlaw ho hc he, onBus_hunting] at hrun
    exact command_makes (t := { s.onBus c.line with engine := { e with
      state := .running, running := some (c.settling now), sweepTimer := timer } }) h hrun onBus_link
  · rw [resumeTesting_rests (s := s.hunting now) hlaw ho hc hq hh hd hpend] at hrun
    exact command_makes (t := { s with engine := { e with state := .idle, sweepTimer := timer } }) h hrun rfl
  · have hset : ∀ r, (s.hunting now).setLine m r = (s.setLine m r).hunting now := fun r => rfl
    rw [resumeTesting_serves (s := s.hunting now) hlaw ho hone hc hq hpend hb, hset, onBus_hunting] at hrun
    exact command_makes (t := { (s.setLine m { s.line m with fault := { (s.line m).fault with owed := false } }).onBus
          m with engine := { e with
            state := .running, sweepTimer := timer
            running := some ⟨m, .auto, 0b11111#5, ⟨none, none, none, none, none⟩, some .dcv, some (.settle, now + 20#32),
              false, false, false, false⟩ } }) h hrun onBus_link
  · obtain ⟨⟨hrest, hline, hne⟩, hgives⟩ := execute_dropsHeld (s := s.at now) hlaw ho hc hb hf hq hh hd hpend hs ha { s.link with rx := .hunting }
    exact ⟨_, congrArg Host.Outcome.next ((arrive_high h.resetnHigh now _).trans (goodFrame_ready (at_ready h now) _)), hgives, hrest, hline, hne⟩

end Sys2Proof.Machine


/-! SUPPORT. ABORT_TEST: its three actions as changes of the engine, with the one that ends a held test (R117), and O39. -/

namespace Sys2Proof.Machine

/-! ## The three actions (R117) -/

/-- The engine with a line's queue entry and held sweep aborted at `now`: the sweep timer starts anew, or while SUSPENDED has a full
remaining time (R111). -/
def Engine.aborted (e : Engine) (l : Line) (now : Time) : Engine := { e with
  queue := e.queue.filter fun q => q.line != l
  heldSweep := e.heldSweep.filter fun h => h.line != l
  sweepTimer := if (e.heldSweep.any fun h => h.line == l) = true then
      if e.sweepEnabled then
        if e.state = .suspended then .remaining (1000 * e.sweepInterval)
        else .running (now + BitVec.ofNat 32 (1000 * e.sweepInterval))
      else .stopped
    else e.sweepTimer }

/-- The record of a test that ends ABORTED (R109, R110). -/
def TestCtx.abortedRecord (c : TestCtx) : ResultRec := ⟨c.line, c.origin, c.steps, c.values, .aborted, none⟩

/-- A line's record with that of its ABORTED test stored (R109). -/
def LineRec.storing (r : LineRec) (c : TestCtx) : LineRec := { r with test := { r.test with lastResult := some c.abortedRecord } }

section

variable {s : State} {l : Line} {c : TestCtx}

theorem abortQueued_eq (ho : s.noneOwed) : s.abortQueued l =
    ({ s with engine := { s.engine with queue := s.engine.queue.filter fun q => q.line != l } }, s.engine.queued l) := by
  unfold State.abortQueued
  cases hq : s.engine.queued l with
  | true =>
    rw [if_pos rfl]
    refine congrArg (·, true) ?_
    exact serveOwed_none (s := s.modEngine fun e => { e with queue := e.queue.filter fun q => q.line != l }) ho
  | false =>
    have hno : ¬ ∃ q ∈ s.engine.queue, q.line = l := fun h => by
      rw [(queued_iff _).mpr h] at hq
      cases hq
    have hfilter : (s.engine.queue.filter fun q => q.line != l) = s.engine.queue :=
      List.filter_eq_self.mpr fun q hmem => by simpa using fun h => hno ⟨q, hmem, h⟩
    rw [if_neg (by simp), hfilter]

theorem abortHeldSweep_eq : s.abortHeldSweep l =
    ({ s with engine := { s.engine with
        heldSweep := s.engine.heldSweep.filter fun h => h.line != l
        sweepTimer := (s.engine.aborted l s.partTime).sweepTimer } }, s.engine.heldSweep.any fun h => h.line == l) := by
  unfold State.abortHeldSweep Engine.aborted
  cases hc : s.engine.heldSweep with
  | none =>
    simp only [Option.filter_none, Option.any_none, Bool.false_eq_true, if_false]
    rw [← hc]
  | some h =>
    by_cases hl : h.line = l
    · have hbeq : (h.line == l) = true := beq_iff_eq.mpr hl
      have hbne : (h.line != l) = false := by simp [hl]
      simp only [if_pos hl, Option.any_some, hbeq, if_true, Option.filter, hbne, Bool.false_eq_true, if_false]
      unfold State.modEngine Engine.fullRemaining Engine.startTimer Engine.intervalMs laterBy
      cases he : s.engine.sweepEnabled <;> by_cases hs : s.engine.state = .suspended <;> simp [he, hs]
    · have hbeq : (h.line == l) = false := by simp [hl]
      have hbne : (h.line != l) = true := by simp [hl]
      simp only [if_neg hl, Option.any_some, hbeq, Option.filter, hbne, Bool.false_eq_true, if_false, if_true]
      rw [← hc]

/-- A test in flight on the line is marked; no test of another line is touched. -/
theorem abortRunning_marks (h : ∀ c, s.engine.running = some c → c.line = l → c.phase.isSome = true) : s.abortRunning l =
    ({ s with engine := { s.engine with
        running := s.engine.running.map fun c => if c.line = l then { c with abortRequested := true } else c } },
      s.engine.running.any fun c => c.line == l) := by
  unfold State.abortRunning
  cases hr : s.engine.running with
  | none =>
    simp only [Option.map_none, Option.any_none]
    rw [← hr]
  | some c =>
    by_cases hl : c.line = l
    · have hflight : c.phase.isSome = true := h c hr hl
      simp only [if_pos hl, hflight, if_true, Option.map_some, Option.any_some, beq_iff_eq.mpr hl]
      rfl
    · simp only [if_neg hl, Option.map_some, Option.any_some]
      rw [← hr, beq_eq_false_iff_ne.mpr hl]

/-- A test held by suspension on the line ends ABORTED at once. -/
theorem abortRunning_ends (hr : s.engine.running = some c) (hl : c.line = l) (hp : c.phase = none) : s.abortRunning l =
    ({ s.finishAborted c with engine := { s.engine with running := none } }, true) := by
  unfold State.abortRunning
  rw [hr]
  simp only [if_pos hl, hp, Option.isSome_none, Bool.false_eq_true, if_false, State.modEngine, finishAborted_engine]

/-- The three actions together, given the first. -/
theorem abortTests_eq {t : State} {o : Option TestCtx} {b : Bool}
    (hrun : s.abortRunning l = ({ t with engine := { s.engine with running := o } }, b)) (ho : t.noneOwed) :
    s.abortTests l = ({ t with engine := { s.engine.aborted l t.partTime with running := o } },
      b || s.engine.queued l || s.engine.heldSweep.any fun h => h.line == l) := by
  have hqueue : ({ t with engine := { s.engine with running := o } } : State).abortQueued l =
      ({ t with engine := { s.engine with running := o, queue := s.engine.queue.filter fun q => q.line != l } },
        s.engine.queued l) := abortQueued_eq (s := { t with engine := { s.engine with running := o } }) ho
  have hheld := abortHeldSweep_eq (l := l)
    (s := { t with engine := { s.engine with running := o, queue := s.engine.queue.filter fun q => q.line != l } })
  unfold State.abortTests
  dsimp only
  rw [hrun, hqueue, hheld]
  rfl

theorem not_aborts_iff : (s.engine.running.any (fun c => c.line == l) || s.engine.queued l ||
      s.engine.heldSweep.any fun h => h.line == l) = false ↔
    (∀ c, s.engine.running = some c → c.line ≠ l) ∧ (∀ q ∈ s.engine.queue, q.line ≠ l) ∧
      ∀ h, s.engine.heldSweep = some h → h.line ≠ l := by
  have hqueued : s.engine.queued l = false ↔ ∀ q ∈ s.engine.queue, q.line ≠ l := by
    rw [← Bool.not_eq_true, queued_iff]
    simp
  rw [Bool.or_eq_false_iff, Bool.or_eq_false_iff, hqueued, and_assoc]
  cases s.engine.running <;> cases s.engine.heldSweep <;> simp

/-- Raising an event of a line whose record was replaced: the kind latched, and the event reported where the mask holds it (R160). -/
theorem raise_setLine_reports {r : LineRec} {b : LineEvent} (h : r.rep = (s.line l).rep)
    (hm : (s.line l).rep.mask.getLsbD b.kind.val = true) :
    (s.setLine l r).raise l b = (s.setLine l (r.latching b)).report (s.lineClass b.kind) (.line l s.stamp b) := by
  have hline : (s.setLine l r).line l = r := line_setLine_self _ _ _
  refine (if_pos (by rw [hline, h]; exact hm)).trans ?_
  rw [State.modRep, hline, setLine_setLine]
  rfl

theorem raise_setLine_latches {r : LineRec} {b : LineEvent} (h : r.rep = (s.line l).rep)
    (hm : (s.line l).rep.mask.getLsbD b.kind.val = false) : (s.setLine l r).raise l b = s.setLine l (r.latching b) := by
  have hline : (s.setLine l r).line l = r := line_setLine_self _ _ _
  refine (if_neg (by rw [hline, h, hm]; exact Bool.false_ne_true)).trans ?_
  rw [State.modRep, hline, setLine_setLine]
  rfl

/-- ABORT_TEST of a line with an action that applies. -/
theorem runAbortTest_accepts {t : State} (h : s.abortTests l = (t, true)) :
    runAbortTest (lineByte l) s = (t, ⟨0x11#8, .ok, []⟩) := by
  rw [runAbortTest, onLine_lineByte]
  dsimp only
  rw [h]
  rfl

/-- The record of the line with the test that ABORT_TEST ends. -/
def LineRec.aborted (r : LineRec) (c : TestCtx) : LineRec := (r.storing c).latching (.testAborted c.abortedRecord)

theorem aborted_noneOwed (ho : s.noneOwed) : (s.setLine c.line ((s.line c.line).aborted c)).noneOwed := fun m => by
  by_cases hm : m = c.line
  · rw [hm, line_setLine_self]
    exact ho c.line
  · rw [line_setLine_ne _ _ _ hm]
    exact ho m

/-- A held test that ends, given what its end makes of the part. -/
theorem runAbortTest_ends {t : State} (hr : s.engine.running = some c) (hp : c.phase = none) (hfin : s.finishAborted c = t)
    (ho : t.noneOwed) (hn : t.partTime = s.partTime) : runAbortTest (lineByte c.line) s =
      ({ t with engine := { s.engine.aborted c.line s.partTime with running := none } }, ⟨0x11#8, .ok, []⟩) := by
  subst hfin
  refine runAbortTest_accepts ((abortTests_eq (abortRunning_ends hr rfl hp) ho).trans ?_)
  rw [hn]
  rfl

theorem finishAborted_stored : s.finishAborted c =
    (s.setLine c.line ((s.line c.line).storing c)).raise c.line (.testAborted c.abortedRecord) := rfl

/-- A held test ends where the mask leaves TEST_ABORTED out. -/
theorem runAbortTest_latches (hr : s.engine.running = some c) (hp : c.phase = none) (ho : s.noneOwed)
    (hm : (s.line c.line).rep.mask.getLsbD 8 = false) : runAbortTest (lineByte c.line) s =
      (({ s with engine := { s.engine.aborted c.line s.partTime with running := none } } : State).setLine c.line
        ((s.line c.line).aborted c), ⟨0x11#8, .ok, []⟩) := by
  have hfin : s.finishAborted c = s.setLine c.line ((s.line c.line).aborted c) := by
    rw [finishAborted_stored]
    exact raise_setLine_latches rfl hm
  exact runAbortTest_ends hr hp hfin (aborted_noneOwed ho) rfl

/-- A held test ends where the mask holds TEST_ABORTED. -/
theorem runAbortTest_reports (hr : s.engine.running = some c) (hp : c.phase = none) (ho : s.noneOwed)
    (hm : (s.line c.line).rep.mask.getLsbD 8 = true) : runAbortTest (lineByte c.line) s =
      ((({ s with engine := { s.engine.aborted c.line s.partTime with running := none } } : State).setLine c.line
        ((s.line c.line).aborted c)).report (s.reporter.classMap.get 8) (.line c.line s.stamp (.testAborted c.abortedRecord)),
        ⟨0x11#8, .ok, []⟩) := by
  have hfin : s.finishAborted c = (s.setLine c.line ((s.line c.line).aborted c)).report (s.reporter.classMap.get 8)
      (.line c.line s.stamp (.testAborted c.abortedRecord)) := by
    rw [finishAborted_stored]
    exact raise_setLine_reports rfl hm
  have howed : ((s.setLine c.line ((s.line c.line).aborted c)).report (s.reporter.classMap.get 8)
      (.line c.line s.stamp (.testAborted c.abortedRecord))).noneOwed := fun m => by
    rw [report_line]
    exact aborted_noneOwed ho m
  refine (runAbortTest_ends hr hp hfin howed (report_partTime _ _ _)).trans (congrArg (·, _) ?_)
  exact (txChoose_withEngine _).symm

theorem runAbortTest_refuses (h : (s.abortTests l).2 = false) : runAbortTest (lineByte l) s = s.refuse 0x11#8 .notFound := by
  rw [runAbortTest, onLine_lineByte]
  dsimp only
  rw [h]
  rfl

end

/-! ## ABORT_TEST (R117) -/

/-- Settles O39: the refusals, the marks and removals, and the held test that ends at once. -/
theorem abortTestTakesEveryAction : Obligations.AbortTestTakesEveryAction := by
  refine ⟨fun s now b h hb => command_unchanged h (onLine_badLine _ _ hb _), fun s now l h _ ho => ?_⟩
  intro e untouched engine
  have hmarks : (∀ c, e.running = some c → c.line = l → c.phase.isSome = true) → (s.hunting now).abortTests l =
      ({ s.hunting now with engine := { engine with
          running := e.running.map fun c => if c.line = l then { c with abortRequested := true } else c } },
        e.running.any (fun c => c.line == l) || e.queued l || e.heldSweep.any fun h => h.line == l) := fun hf =>
    abortTests_eq (t := s.hunting now) (abortRunning_marks (s := s.hunting now) hf) ho
  refine ⟨fun huntouched => ?_, fun hsome hf => ?_, fun c hr hl hp h11 hfree => ?_⟩
  · have ⟨hrunning, _, _⟩ := huntouched
    have habort := hmarks fun c hc hcl => absurd hcl (hrunning c hc)
    exact command_unchanged h (runAbortTest_refuses ((congrArg Prod.snd habort).trans (not_aborts_iff.mpr huntouched)))
  · have hflag : (e.running.any (fun c => c.line == l) || e.queued l || e.heldSweep.any fun h => h.line == l) = true :=
      Bool.eq_true_of_not_eq_false fun hfalse => hsome (not_aborts_iff.mp hfalse)
    exact command_makes (t := { s with engine := { engine with
      running := e.running.map fun c => if c.line = l then { c with abortRequested := true } else c } }) h
      (runAbortTest_accepts ((hmarks hf).trans (by rw [hflag]; rfl))) rfl
  · intro record
    subst hl
    let u : State := ({ s.hunting now with engine := { engine with running := none } } : State).setLine c.line ((s.line c.line).aborted c)
    have hline : u.line c.line = (s.line c.line).aborted c := line_setLine_self _ _ _
    have hother : ∀ m, m ≠ c.line → u.line m = s.line m := fun m hm => line_setLine_ne _ _ _ hm
    have hexec : exec (.abortTest now (lineByte c.line)) s = .next ((s.hunting now).execute (runAbortTest (lineByte c.line))) := by
      show Host.Outcome.next (s.arrive now fun u => u.goodFrame (runAbortTest (lineByte c.line))) = _
      rw [arrive_high h.resetnHigh, goodFrame_ready (at_ready h now)]
      rfl
    cases hm : (s.line c.line).rep.mask.getLsbD 8 with
    | false =>
      have hrun := runAbortTest_latches (s := s.hunting now) hr hp ho hm
      exact ⟨_, command_quiet h hrun rfl, rfl, hline, hother, fun hcontra => absurd hcontra Bool.false_ne_true, fun _ => ⟨rfl, rfl⟩⟩
    | true =>
      have hquiet : (s.hunting now).link.tx = none → (s.hunting now).Quiet := fun htx => by
        have hq := quiet_of_free h11 hfree h.resetnHigh htx
        exact ⟨hq.tx, hq.slot, hq.busy, hq.prio, hq.norm, hq.prioFlag, hq.normFlag⟩
      have hrun : ∀ k : Link, k.slot = none → runAbortTest (lineByte c.line) { s.hunting now with link := k } =
          (({ u with link := k } : State).report (s.reporter.classMap.get 8) (.line c.line (now.setWidth 16) (.testAborted record)),
            ⟨0x11#8, .ok, []⟩) := fun k _ => runAbortTest_reports (s := { s.hunting now with link := k }) hr hp ho hm
      obtain ⟨hrest, hevent⟩ := execute_event (u := u) hquiet h.slotEmpty rfl hrun
      have hlines : ((s.hunting now).execute (runAbortTest (lineByte c.line))).lines = u.lines := by rw [hrest]
      refine ⟨_, hexec, ?_, ?_, fun m hne => ?_, fun _ => hevent, fun hcontra => absurd hcontra.symm Bool.false_ne_true⟩
      · rw [hrest]
        rfl
      · rw [line_congr u hlines]
        exact hline
      · rw [line_congr u hlines]
        exact hother m hne

end Sys2Proof.Machine


/-! SUPPORT. A power cross on a line (R131, R132): what it reports, the entry to quarantine of a line in any hook state, and what the
request for suspension leaves of the lines (R118). -/

namespace Sys2Proof.Machine

/-! ## Events do not ask what else the part holds -/

/-- Two states raise the events of line `l` alike: same queues, same link, same time, same mask and latched set. -/
structure SameReports (u v : State) (l : Line) : Prop where
  reporter : u.reporter = v.reporter
  link : u.link = v.link
  partTime : u.partTime = v.partTime
  rep : (u.line l).rep = (v.line l).rep

section

variable {s t u v w : State} {l m : Line} {b : LineEvent} {r : LineRec} {c : TestCtx}

theorem SameReports.refl (u : State) (l : Line) : SameReports u u l := ⟨rfl, rfl, rfl, rfl⟩

theorem SameReports.trans (h : SameReports u v l) (h' : SameReports v w l) : SameReports u w l :=
  ⟨h.reporter.trans h'.reporter, h.link.trans h'.link, h.partTime.trans h'.partTime, h.rep.trans h'.rep⟩

theorem sameReports_setLine (h : r.rep = (s.line l).rep) : SameReports (s.setLine l r) s l :=
  ⟨rfl, rfl, rfl, (congrArg LineRec.rep (line_setLine_self s l r)).trans h⟩

/-- The transmitter's choice asks the queues, the link and the time alone. -/
theorem txChoose_agrees (hr : u.reporter = v.reporter) (hl : u.link = v.link) (hn : u.partTime = v.partTime) :
    u.txChoose.reporter = v.txChoose.reporter ∧ u.txChoose.link = v.txChoose.link := by
  have hstamp : u.stamp = v.stamp := congrArg (BitVec.setWidth 16) hn
  unfold State.txChoose
  rw [hr, hl, hstamp]
  cases v.link.tx with
  | some f => exact ⟨hr, hl⟩
  | none =>
    cases v.link.slot with
    | some p => exact ⟨rfl, rfl⟩
    | none =>
      cases v.link.busyPending with
      | true => exact ⟨rfl, rfl⟩
      | false =>
        cases v.reporter.prio with
        | cons e rest => exact ⟨rfl, rfl⟩
        | nil =>
          cases v.reporter.norm with
          | cons e rest => exact ⟨rfl, rfl⟩
          | nil => exact ⟨hr, hl⟩

theorem SameReports.raise (h : SameReports u v l) (b : LineEvent) : SameReports (u.raise l b) (v.raise l b) l := by
  have hrep : ((u.raise l b).line l).rep = ((v.raise l b).line l).rep := by
    rw [raise_line_self, raise_line_self]
    dsimp only
    rw [h.rep]
  have hstamp : u.stamp = v.stamp := congrArg (BitVec.setWidth 16) h.partTime
  have hclass : u.lineClass b.kind = v.lineClass b.kind := congrArg (fun x : Reporter => x.classMap.get _) h.reporter
  have hagree : (u.raise l b).reporter = (v.raise l b).reporter ∧ (u.raise l b).link = (v.raise l b).link := by
    unfold State.raise
    dsimp only
    rw [h.rep, hstamp, hclass]
    split
    · exact txChoose_agrees (congrArg (fun x => Reporter.enqueue x _ _) h.reporter) h.link h.partTime
    · exact ⟨h.reporter, h.link⟩
  exact ⟨hagree.1, hagree.2, (raise_partTime _ _ _).trans (h.partTime.trans (raise_partTime _ _ _).symm), hrep⟩

/-! ## The entry to quarantine of a line in any hook state (R129) -/

theorem endCollection_placeGivenUp (h : PoolLaws s) (hp : r.pool = (s.line l).pool) :
    PlaceGivenUp s ((s.setLine l r).endCollection l none) l r.ended := by
  have hline : (s.setLine l r).line l = r := line_setLine_self _ _ _
  cases ha : r.dial.collection.active with
  | true =>
    have hended : r.ended = r.collectionOver := if_pos ha
    rw [endCollection_active (by rw [hline]; exact ha), hline, setLine_setLine, hended]
    exact giveUpReceiver_placeGivenUp h hp
  | false =>
    have hended : r.ended = r := if_neg (Bool.eq_false_iff.mp ha)
    rw [endCollection_inactive (by rw [hline]; exact ha), hended]
    exact giveUpReceiver_placeGivenUp h hp

/-- What a given-up place makes of the pool and of the other lines is the same in two states that agree on them. -/
theorem PlaceGivenUp.agree_of {r' : LineRec} (h : PlaceGivenUp v t l r) (h' : PlaceGivenUp s u l r') (hs : v.seats = s.seats)
    (hne : ∀ m, m ≠ l → v.line m = s.line m) : t.pool = u.pool ∧ ∀ m, m ≠ l → t.line m = u.line m := by
  have hpool : v.pool = s.pool := pool_of_seats hs
  have hrx : (v.line l).pool.receiver = (s.line l).pool.receiver := congrArg Seat.receiver (seat_of_seats hs l)
  have hassigned : ∀ m, v.assigned m = s.assigned m := fun m => by
    have hseat := seat_of_seats hs m
    have hbus : (v.line m).test.onTestBus = (s.line m).test.onTestBus := congrArg Seat.onTestBus hseat
    have hwindow : (v.line m).lsu.settleEnd = (s.line m).lsu.settleEnd := congrArg Seat.settleEnd hseat
    unfold State.assigned
    rw [hbus, hwindow]
  cases hr : (s.line l).pool.receiver with
  | none =>
    obtain ⟨hp, hsame⟩ := h.noReceiver (hrx.trans hr)
    obtain ⟨hp', hsame'⟩ := h'.noReceiver hr
    exact ⟨by rw [hp, hp', hpool], fun m hm => (hsame m hm).trans ((hne m hm).trans (hsame' m hm).symm)⟩
  | some x =>
    cases hq : s.pool.waitQueue with
    | nil =>
      obtain ⟨hp, hsame⟩ := h.freed x (hrx.trans hr) (hpool ▸ hq)
      obtain ⟨hp', hsame'⟩ := h'.freed x hr hq
      exact ⟨by rw [hp, hp', hpool], fun m hm => (hsame m hm).trans ((hne m hm).trans (hsame' m hm).symm)⟩
    | cons e rest =>
      obtain ⟨hp, hhead, hsame⟩ := h.handedOn x e rest (hrx.trans hr) (hpool ▸ hq)
      obtain ⟨hp', hhead', hsame'⟩ := h'.handedOn x e rest hr hq
      refine ⟨by rw [hp, hp', hpool, hassigned], fun m hm => ?_⟩
      by_cases he : m = e.line
      · subst he
        rw [hhead, hhead', hne _ hm]
      · exact (hsame m hm he).trans ((hne m hm).trans (hsame' m hm he).symm)

/-- Of two states, the second is the first with the pending profile of line `l` seen to (R147). -/
structure ProfileHonoured (s t : State) (l : Line) : Prop where
  rest : t = { s with lines := t.lines, reporter := t.reporter, link := t.link }
  line : ∃ q, t.line l = { (s.line l).honoured (s.profile (s.line l).prof.number) with rep := q }
  others : ∀ m, m ≠ l → t.line m = s.line m
  reports : SameReports t (if (s.line l).hook.pendingProfile then s.raise l .profileApplied else s) l

theorem honoured_none {v : Profile} (h : r.hook.pendingProfile = false) : r.honoured v = r := if_neg (Bool.eq_false_iff.mp h)

theorem honoured_rep {v : Profile} : (r.honoured v).rep = r.rep := by
  unfold LineRec.honoured
  split <;> rfl

theorem honourProfile_honoured : ProfileHonoured s (s.honourProfile l) l := by
  cases hp : (s.line l).hook.pendingProfile with
  | false =>
    rw [honourProfile_none s l hp]
    exact ⟨rfl, ⟨(s.line l).rep, by rw [honoured_none hp]⟩, fun _ _ => rfl, by rw [hp]; exact .refl s l⟩
  | true =>
    rw [honourProfile_pending s l hp]
    refine ⟨?_, ⟨_, raise_line_self _ _ _ |>.trans (by rw [line_setLine_self])⟩,
      fun m hm => (raise_line_ne _ _ _ hm).trans (line_setLine_ne _ _ _ hm), ?_⟩
    · rw [raise_rest]
      rfl
    · rw [hp]
      exact (sameReports_setLine honoured_rep).raise _

/-- Of two states, the second is the first with line `l` in quarantine: its record, its receiver or place given back, and the events
that follow `quarantined` (R129). -/
structure Quarantined (s t : State) (l : Line) : Prop where
  rest : t = { s with lines := t.lines, pool := t.pool, reporter := t.reporter, link := t.link }
  line : ∃ q, t.line l =
    ((s.line l).quarantined (s.profile (s.line l).prof.number) s.partTime s.battery.mode).withParts ⟨(s.line l).pool.slot, none, false⟩ q
  others : ∀ v u : State, s.seats = v.seats → (∀ m, m ≠ l → s.line m = v.line m) → CollectionEnded v u l →
    t.pool = u.pool ∧ ∀ m, m ≠ l → t.line m = u.line m
  reports : SameReports t
    (if (s.line l).hook.pendingProfile then (s.raise l .quarantined).raise l .profileApplied else s.raise l .quarantined) l

theorem enterQuarantine_quarantined (h : PoolLaws s) : Quarantined s (s.enterQuarantine l) l := by
  obtain ⟨iso, hiso⟩ : ∃ x, x = ((s.line l).isolated s.partTime s.battery.mode).latching .quarantined := ⟨_, rfl⟩
  obtain ⟨e, he⟩ : ∃ e, e = ((s.raise l .quarantined).setLine l iso).endCollection l none := ⟨_, rfl⟩
  have hisolate : (s.isolate l).raise l .quarantined = (s.raise l .quarantined).setLine l iso := by
    rw [isolate_eq, hiso]
    exact raise_setLine rfl
  have hgiven : PlaceGivenUp (s.raise l .quarantined) e l iso.ended := by
    rw [he]
    exact endCollection_placeGivenUp (h.congr (raise_seats s l .quarantined)) (by rw [raise_line_pool, hiso]; rfl)
  have ⟨herest, heline, _, _, _⟩ := hgiven
  obtain ⟨f, hf⟩ : ∃ f, f = e.honourProfile l := ⟨_, rfl⟩
  obtain ⟨hrest, ⟨q, hline⟩, hothers, hreports⟩ : ProfileHonoured e f l := hf ▸ honourProfile_honoured
  have hetime : e.partTime = s.partTime := by rw [herest, raise_partTime]
  have hftime : f.partTime = s.partTime := by rw [hrest, hetime]
  have hresult : s.enterQuarantine l = f.setLine l ((f.line l).awaitingRetest s.partTime) := by
    unfold State.enterQuarantine
    dsimp only
    rw [hisolate, ← he, setRetestDue_eq, ← hf, hftime]
  have hparts : iso.ended = (((s.line l).isolated s.partTime s.battery.mode).ended).withParts (s.line l).pool iso.rep := by
    rw [← ended_withParts, hiso]
    rfl
  have heprof : (e.line l).prof.number = (s.line l).prof.number := by
    rw [heline, hparts]
    exact congrArg ProfLine.number (ended_prof _)
  have heprofile : ∀ n, e.profile n = s.profile n := fun n => by rw [herest, raise_rest]; rfl
  have hepending : (e.line l).hook.pendingProfile = (s.line l).hook.pendingProfile := by
    rw [heline, hparts]
    exact ended_pendingProfile _
  have hereports : SameReports e (s.raise l .quarantined) l := by
    refine ⟨by rw [herest], by rw [herest], by rw [herest], ?_⟩
    rw [heline, hparts, raise_line_self, hiso]
    rfl
  rw [hresult]
  refine ⟨?_, ⟨q, ?_⟩, fun v u hseats hsame hu => ?_, ?_⟩
  · rw [hrest, herest, raise_rest]
    rfl
  · rw [line_setLine_self, hline, heprof, heprofile, heline, hparts, raise_line_pool]
    have hhonoured := honoured_withParts ((s.line l).isolated s.partTime s.battery.mode).ended (s.profile (s.line l).prof.number)
      ⟨(s.line l).pool.slot, none, false⟩ iso.rep
    exact congrArg (fun x : LineRec => ({ x with rep := q } : LineRec).awaitingRetest s.partTime) hhonoured
  · obtain ⟨urest, uline, unone, ufreed, uhanded⟩ := hu
    have hended : PlaceGivenUp v u l (v.line l).collectionOver := ⟨urest, uline, unone, ufreed, uhanded⟩
    obtain ⟨hpool, hne⟩ := hgiven.agree_of hended ((raise_seats s l .quarantined).trans hseats)
      fun m hm => (raise_line_ne _ _ _ hm).trans (hsame m hm)
    refine ⟨?_, fun m hm => (line_setLine_ne _ _ _ hm).trans ((hothers m hm).trans (hne m hm))⟩
    rw [← hpool]
    exact (congrArg State.pool hrest).trans rfl
  · refine (sameReports_setLine (r := (f.line l).awaitingRetest s.partTime) rfl).trans (hreports.trans ?_)
    rw [hepending]
    split
    · exact hereports.raise _
    · exact hereports

/-! ## The record of a line in quarantine -/

section

variable {v : Profile} {now : Time} {mode : ScanMode}

/-- A record in quarantine as its entry leaves it, before what is pending is seen to. -/
theorem isolated_ended (r : LineRec) (now : Time) (mode : ScanMode) : (r.isolated now mode).ended =
    { r.isolated now mode with dial := r.ended.dial } := by
  unfold LineRec.ended
  by_cases ha : r.dial.collection.active = true
  · rw [if_pos ha]
    exact if_pos ha
  · rw [if_neg ha]
    exact if_neg ha

theorem quarantined_hook : (r.quarantined v now mode).hook = ⟨r.hook.service, .quarantined, none, none, none, 0, false, false⟩ := by
  obtain ⟨hhook, -⟩ := honoured_parts ((r.isolated now mode).ended) v
  refine hhook.trans ?_
  rw [isolated_ended]
  rfl

theorem quarantined_dial (hr : r.consistent) :
    (r.quarantined v now mode).dial = { r.dial with collection := .inactive, firstDeadline := none, endDeadline := none } := by
  have hkept : (r.quarantined v now mode).dial = r.ended.dial := by
    obtain ⟨-, hdial, -⟩ := honoured_parts ((r.isolated now mode).ended) v
    refine hdial.trans ?_
    rw [isolated_ended]
  by_cases ha : r.dial.collection = .inactive
  · have hover := congrArg LineRec.dial (collectionOver_inactive hr ha)
    rw [hkept, ended_dial_eq, if_neg (mt (active_iff _).mp (not_not.mpr ha))]
    exact hover.symm
  · rw [hkept, ended_dial_eq, if_pos ((active_iff _).mpr ha)]

/-- A record in quarantine, with a profile pending or without (R129, R147). -/
theorem quarantined_pending (hp : r.hook.pendingProfile = true) : r.quarantined v now mode =
    (({ (r.isolated now mode).ended with hook := { (r.isolated now mode).ended.hook with pendingProfile := false } } : LineRec).applied
      v).awaitingRetest now := by
  have hpending : (r.isolated now mode).ended.hook.pendingProfile = true := (ended_pendingProfile _).trans hp
  exact congrArg (LineRec.awaitingRetest · now) (if_pos hpending)

theorem quarantined_unpending (hp : r.hook.pendingProfile = false) :
    r.quarantined v now mode = (r.isolated now mode).ended.awaitingRetest now := by
  have hpending : (r.isolated now mode).ended.hook.pendingProfile = false := (ended_pendingProfile _).trans hp
  exact congrArg (LineRec.awaitingRetest · now) (honoured_none hpending)

theorem quarantined_prof : (r.quarantined v now mode).prof = ⟨r.prof.number, if r.hook.pendingProfile then v else r.prof.working⟩ := by
  cases hp : r.hook.pendingProfile with
  | true => rw [quarantined_pending hp, isolated_ended]; rfl
  | false => rw [quarantined_unpending hp, isolated_ended]; rfl

theorem quarantined_fault : (r.quarantined v now mode).fault = { r.fault with
    clearCount := 0
    retestDue := some (laterBy now (1000 * (if r.hook.pendingProfile then v else r.prof.working).retestInterval)) } := by
  have hworking : (((r.isolated now mode).ended).honoured v).prof.working = if r.hook.pendingProfile then v else r.prof.working :=
    congrArg ProfLine.working (quarantined_prof (r := r) (v := v) (now := now) (mode := mode))
  unfold LineRec.quarantined LineRec.awaitingRetest
  rw [hworking, honoured_fault, isolated_ended]
  rfl

theorem reperiod_eq (u : Lsu) (st : HookState) (now : Time) :
    ∃ period next, u.reperiod st mode now = { u with period := period, nextSample := next } := by
  unfold Lsu.reperiod
  split
  · exact ⟨u.period, u.nextSample, rfl⟩
  · exact ⟨_, _, rfl⟩

theorem quarantined_lsu : ∃ period next seize rel, (r.quarantined v now mode).lsu = { r.lsu with
    period := period, nextSample := next, tSeize := seize, tRel := rel
    learningEnd := none, leakClamp := none, leakReported := false
    baseline := if r.hook.pendingProfile then min r.lsu.baseline (4096 * v.leakMax) else r.lsu.baseline } := by
  obtain ⟨period, next, hlsu⟩ :=
    reperiod_eq (mode := mode) ({ r.lsu with learningEnd := none, leakClamp := none, leakReported := false } : Lsu) .quarantined now
  cases hp : r.hook.pendingProfile with
  | true =>
    rw [quarantined_pending hp, isolated_ended]
    refine ⟨period, next, r.lsu.tSeize, r.lsu.tRel, ?_⟩
    dsimp only [LineRec.awaitingRetest, LineRec.isolated, LineRec.applied]
    rw [hlsu]
    rfl
  | false =>
    rw [quarantined_unpending hp, isolated_ended]
    exact ⟨period, next, r.lsu.tSeize, r.lsu.tRel, hlsu⟩

end

end

end Sys2Proof.Machine


/-! SUPPORT. The sample that completes an over-voltage run: the isolation of its line, and the suspension that it asks for (R118, R131,
R132). -/

namespace Sys2Proof.Machine

/-! ## The report of a power cross (R131) -/

section

variable {s t : State} {l m : Line} {now : Time} {i : Nat} {c : TestCtx}

/-- PX joined to the sticky set and POWER_CROSS raised. -/
def State.alarmed (s : State) (l : Line) : State := (s.joinSticky l FaultSet.px).raise l .powerCross

/-- The isolation of a line on a power cross, before suspension is requested. -/
def State.crossed (s : State) (l : Line) : State :=
  if (s.line l).hook.state = .quarantined then (s.alarmed l).modFault l fun f => { f with clearCount := 0 }
  else (s.alarmed l).enterQuarantine l

theorem powerCross_eq (h : (s.line l).hook.state ≠ .outOfService) : s.powerCross l = (s.crossed l).requestSuspension l := by
  unfold State.powerCross State.crossed State.alarmed
  cases hst : (s.line l).hook.state with
  | outOfService => exact absurd hst h
  | quarantined => rfl
  | learning => rfl
  | idle => rfl
  | seizing => rfl
  | offHook => rfl
  | onBreak => rfl

/-- The events of a power cross, in order, on a part that does nothing else. -/
def State.crossEvents (s : State) (l : Line) : State :=
  let r := s.line l
  let faulted := if r.fault.sticky.getLsbD 0 then s else s.raise l (.fault 1#6)
  let crossed := faulted.raise l .powerCross
  if r.hook.state = .quarantined then crossed else
    let v := crossed.raise l .quarantined
    if r.hook.pendingProfile then v.raise l .profileApplied else v

/-- The events of a power cross up to POWER_CROSS. -/
def State.crossAlarm (s : State) (l : Line) : State :=
  (if (s.line l).fault.sticky.getLsbD 0 then s else s.raise l (.fault 1#6)).raise l .powerCross

theorem crossEvents_again (h : (s.line l).hook.state = .quarantined) : s.crossEvents l = s.crossAlarm l := if_pos h

theorem crossEvents_first (h : (s.line l).hook.state ≠ .quarantined) : s.crossEvents l = if (s.line l).hook.pendingProfile
    then ((s.crossAlarm l).raise l .quarantined).raise l .profileApplied else (s.crossAlarm l).raise l .quarantined := if_neg h

theorem SameReports.crossAlarm {u v : State} (h : SameReports u v l) (hs : (u.line l).fault.sticky = (v.line l).fault.sticky) :
    SameReports (u.crossAlarm l) (v.crossAlarm l) l := by
  refine SameReports.raise ?_ _
  rw [hs]
  split
  · exact h
  · exact h.raise _

/-- Of two states, the second is the first with the power cross of line `l` reported. -/
structure Alarmed (s t : State) (l : Line) : Prop where
  rest : t = { s with lines := t.lines, reporter := t.reporter, link := t.link }
  line : ∃ q, t.line l = { s.line l with fault := { (s.line l).fault with sticky := (s.line l).fault.sticky ||| 1#6 }, rep := q }
  others : ∀ m, m ≠ l → t.line m = s.line m
  reports : SameReports t (s.crossAlarm l) l

theorem joinSticky_px : s.joinSticky l FaultSet.px =
    if (s.line l).fault.sticky.getLsbD 0
    then s.setLine l { s.line l with fault := { (s.line l).fault with sticky := (s.line l).fault.sticky ||| 1#6 } }
    else (s.setLine l { s.line l with fault := { (s.line l).fault with sticky := (s.line l).fault.sticky ||| 1#6 } }).raise l
      (.fault 1#6) := by
  have hnew : FaultSet.px &&& ~~~(s.line l).fault.sticky = if (s.line l).fault.sticky.getLsbD 0 then 0#6 else 1#6 := newKind_px _
  rw [joinSticky_eq, hnew]
  cases (s.line l).fault.sticky.getLsbD 0 <;> rfl

theorem alarmed_alarmed : Alarmed s (s.alarmed l) l := by
  have hline := joinSticky_line (s := s) (l := l) (v := FaultSet.px)
  obtain ⟨q, hq⟩ := hline
  refine ⟨?_, ⟨{ q with latched := q.latched ||| kindBit LineEvent.powerCross.kind }, (raise_line_self _ _ _).trans ?_⟩, fun m hm => (raise_line_ne _ _ _ hm).trans ?_, ?_⟩
  · unfold State.alarmed
    rw [raise_rest, joinSticky_px]
    split
    · rfl
    · rw [raise_rest]
      rfl
  · rw [hq]
    rfl
  · rw [joinSticky_px]
    split
    · exact line_setLine_ne _ _ _ hm
    · exact (raise_line_ne _ _ _ hm).trans (line_setLine_ne _ _ _ hm)
  · obtain ⟨r, hr⟩ : ∃ r : LineRec, r = { s.line l with
        fault := { (s.line l).fault with sticky := (s.line l).fault.sticky ||| 1#6 } } := ⟨_, rfl⟩
    have hjoined : SameReports (s.setLine l r) s l := sameReports_setLine (by rw [hr])
    refine SameReports.raise ?_ _
    rw [joinSticky_px, ← hr]
    split
    · exact hjoined
    · exact hjoined.raise _

theorem sameReports_modFault (f : FaultRec → FaultRec) : SameReports (s.modFault l f) s l := sameReports_setLine rfl

/-! ## The isolation of the line (R129, R131, R132) -/

theorem quarantined_withParts {r : LineRec} {v : Profile} {mode : ScanMode} {p : PoolLine} {q : RepLine} :
    (r.withParts p q).quarantined v now mode = (r.quarantined v now mode).withParts p q := by
  have hiso : (r.withParts p q).isolated now mode = (r.isolated now mode).withParts p q := rfl
  unfold LineRec.quarantined
  rw [hiso, ended_withParts, honoured_withParts, awaitingRetest_withParts]

/-- A line's record with the sample that completes its over-voltage run, and PX joined. -/
def LineRec.overvolted (r : LineRec) (now : Time) (i : Nat) : LineRec := { r with
  lsu := r.lsu.sampled now i true
  fault := { r.fault with sticky := r.fault.sticky ||| 1#6 } }

/-- Of two states, the second is the first with line `l` isolated by the power cross that a sample at `now` completes. -/
structure Crossed (s t : State) (now : Time) (l : Line) (i : Nat) : Prop where
  rest : t = { s with partTime := now, lines := t.lines, pool := t.pool, reporter := t.reporter, link := t.link }
  reports : SameReports t ((s.at now).crossEvents l) l
  again : (s.line l).hook.state = .quarantined → t.pool = s.pool ∧ (∀ m, m ≠ l → t.line m = s.line m) ∧ ∃ q, t.line l = { s.line l with
    lsu := (s.line l).lsu.sampled now i true
    fault := { (s.line l).fault with sticky := (s.line l).fault.sticky ||| 1#6, clearCount := 0 }
    rep := q }
  first : (s.line l).hook.state ≠ .quarantined →
    (∃ u, CollectionEnded (s.at now) u l ∧ t.pool = u.pool ∧ ∀ m, m ≠ l → t.line m = u.line m) ∧
    ∃ q, t.line l = (((s.line l).overvolted now i).quarantined (s.profile (s.line l).prof.number) now s.battery.mode).withParts
      ⟨(s.line l).pool.slot, none, false⟩ q

theorem crossed_crossed (hcalls : CallLaws s) (hpool : PoolLaws s) : Crossed s ((s.sampledAt now l i true).crossed l) now l i := by
  have hsampled : SameReports (s.sampledAt now l i true) (s.at now) l := sameReports_setLine rfl
  obtain ⟨a, ha⟩ : ∃ a, a = (s.sampledAt now l i true).alarmed l := ⟨_, rfl⟩
  obtain ⟨hrest, ⟨q, hline⟩, hothers, hreports⟩ : Alarmed (s.sampledAt now l i true) a l := ha ▸ alarmed_alarmed
  have haseats : a.seats = (s.at now).seats := by
    rw [ha, State.alarmed, raise_seats, joinSticky_seats]
    exact setLine_seats _ _ rfl
  have hasame : ∀ m, m ≠ l → a.line m = s.line m := fun m hm => (hothers m hm).trans (line_setLine_ne _ _ _ hm)
  have hatime : a.partTime = now := by rw [hrest]; rfl
  have habattery : a.battery = s.battery := by rw [hrest]; rfl
  have haprofile : ∀ n, a.profile n = s.profile n := fun n => by rw [hrest]; rfl
  have hline : a.line l = ((s.line l).overvolted now i).withParts (s.line l).pool q := by
    rw [hline, sampledAt_line_self]
    rfl
  have hevents : SameReports a ((s.at now).crossAlarm l) l :=
    hreports.trans (hsampled.crossAlarm ((congrArg (fun r : LineRec => r.fault.sticky) sampledAt_line_self).trans rfl))
  have hstate : ((s.sampledAt now l i true).line l).hook.state = (s.line l).hook.state := by rw [sampledAt_line_self]
  unfold State.crossed
  rw [← ha, hstate]
  by_cases hq : (s.line l).hook.state = .quarantined
  · rw [if_pos hq]
    refine ⟨?_, ?_, fun _ => ⟨(pool_of_seats haseats).trans rfl, fun m hm => (line_setLine_ne _ _ _ hm).trans (hasame m hm), q, ?_⟩, fun hne => absurd hq hne⟩
    · rw [hrest]
      rfl
    · rw [crossEvents_again (s := s.at now) hq]
      exact (sameReports_modFault _).trans hevents
    · rw [State.modFault, line_setLine_self, hline]
      rfl
  · rw [if_neg hq]
    have hlawsAt : PoolLaws (s.at now) := hpool.congr rfl
    obtain ⟨htrest, ⟨q', htline⟩, htothers, htreports⟩ := enterQuarantine_quarantined (s := a) (l := l) (hpool.congr haseats)
    have hended := endCollection_ended_of_consistent hlawsAt (l := l) (hcalls l)
    refine ⟨?_, ?_, fun hyes => absurd hyes hq, fun _ => ⟨⟨_, hended, htothers (s.at now) _ haseats hasame hended⟩, q', ?_⟩⟩
    · generalize a.enterQuarantine l = t at htrest ⊢
      rw [htrest, hrest]
      rfl
    · refine htreports.trans ?_
      rw [crossEvents_first (s := s.at now) hq, hline]
      have hpending : (((s.line l).overvolted now i).withParts (s.line l).pool q).hook.pendingProfile =
          ((s.at now).line l).hook.pendingProfile := rfl
      rw [hpending]
      split
      · exact (hevents.raise _).raise _
      · exact hevents.raise _
    · rw [htline, hline, hatime, habattery, haprofile]
      rw [quarantined_withParts]
      rfl

/-! ## The test abandoned on the line (R118) -/

/-- The record of a test that a power cross abandons. -/
def TestCtx.abandonedRecord (c : TestCtx) : ResultRec := ⟨c.line, c.origin, c.steps, c.values, .abandoned, none⟩

/-- The engine whose phase in flight is abandoned at `now`. -/
def Engine.abandoned (e : Engine) (c : TestCtx) (now : Time) : Engine := { e with
  state := .suspended, running := none, suspendPending := false
  sweepTimer := if c.origin = .sweep then if e.sweepEnabled then .remaining (1000 * e.sweepInterval) else .stopped
    else e.sweepTimer.paused now }

/-- Of two states, the second is the first with the test `c` abandoned. -/
structure Abandoned (s t : State) (c : TestCtx) : Prop where
  rest : t = { s with lines := t.lines, engine := s.engine.abandoned c s.partTime, reporter := t.reporter, link := t.link }
  line : ∃ q, t.line c.line = { s.line c.line with
    test := ⟨false, false, some c.abandonedRecord⟩
    lsu := { (s.line c.line).lsu with settleEnd := some (s.partTime + 20#32) }
    rep := q }
  others : ∀ m, m ≠ c.line → t.line m = s.line m
  reports : SameReports t (if c.hostReport = true ∨ c.abortRequested = true then s.raise c.line (.testAborted c.abandonedRecord) else s)
    c.line

theorem sameReports_withEngine (e : Engine) : SameReports { s with engine := e } s l := ⟨rfl, rfl, rfl, rfl⟩

theorem abandon_eq : s.abandon c = { (s.disconnect c.line).finishAbandoned c with engine := s.engine.abandoned c s.partTime } := by
  obtain ⟨t, ht⟩ : ∃ t, t = (s.disconnect c.line).finishAbandoned c := ⟨_, rfl⟩
  have hengine : t.engine = s.engine := by rw [ht, finishAbandoned_engine]; rfl
  have htime : t.partTime = s.partTime := by
    rw [ht, partTime_of_kept (finishAbandoned_kept _ _)]
    rfl
  unfold State.abandon Engine.abandoned
  rw [← ht]
  dsimp only
  rw [enterSuspended_eq]
  by_cases ho : c.origin = .sweep
  · rw [if_pos ho, if_pos ho, ← hengine]
    unfold State.modEngine Engine.fullRemaining Engine.intervalMs
    dsimp only
    cases t.engine.sweepEnabled <;> rfl
  · rw [if_neg ho, if_neg ho, ← hengine, ← htime]
    rfl

theorem finishAbandoned_stored {u : State} (hu : u = s.setLine c.line { s.line c.line with
      test := { (s.line c.line).test with lastResult := some c.abandonedRecord } }) : s.finishAbandoned c =
    if c.hostReport = true ∨ c.abortRequested = true then u.raise c.line (.testAborted c.abandonedRecord) else u := by
  subst hu
  by_cases h : c.hostReport = true ∨ c.abortRequested = true
  · rw [if_pos h]
    exact if_pos (by simpa using h)
  · rw [if_neg h]
    exact if_neg (by simpa using h)

theorem abandon_abandoned : Abandoned s (s.abandon c) c := by
  obtain ⟨r, hr⟩ : ∃ r : LineRec, r = { s.line c.line with
    test := ⟨false, false, some c.abandonedRecord⟩
    lsu := { (s.line c.line).lsu with settleEnd := some (s.partTime + 20#32) } } := ⟨_, rfl⟩
  have hstored : s.setLine c.line r = (s.disconnect c.line).setLine c.line { (s.disconnect c.line).line c.line with
      test := { ((s.disconnect c.line).line c.line).test with lastResult := some c.abandonedRecord } } := by
    rw [disconnect_eq, offBus_line_self, State.offBus, setLine_setLine, hr]
  have hreports : SameReports (s.setLine c.line r) s c.line := sameReports_setLine (by rw [hr])
  rw [abandon_eq, finishAbandoned_stored hstored]
  by_cases htold : c.hostReport = true ∨ c.abortRequested = true
  · rw [if_pos htold]
    obtain ⟨q, hq⟩ : ∃ q, ((s.setLine c.line r).raise c.line (.testAborted c.abandonedRecord)).line c.line = { r with rep := q } := by
      rw [raise_line_self, line_setLine_self]
      exact ⟨_, rfl⟩
    refine ⟨?_, ⟨q, hq.trans (by rw [hr])⟩, fun m hm => (raise_line_ne _ _ _ hm).trans (line_setLine_ne s _ _ hm), ?_⟩
    · rw [raise_rest]
      rfl
    · rw [if_pos htold]
      exact (sameReports_withEngine _).trans (hreports.raise _)
  · rw [if_neg htold]
    refine ⟨rfl, ⟨r.rep, (line_setLine_self s c.line r).trans (by rw [hr])⟩, fun m hm => line_setLine_ne s _ _ hm, ?_⟩
    rw [if_neg htold]
    exact (sameReports_withEngine _).trans hreports

end

end Sys2Proof.Machine


/-! SUPPORT. What a request for suspension makes of the part (R118), and O48. -/

namespace Sys2Proof.Machine

section

variable {s t : State} {l m : Line} {now : Time} {i : Nat} {c : TestCtx}

/-! ## The request for suspension (R116, R118) -/

/-- Of two states, the second is the first with suspension requested for line `l`: of the line's own record at most the test, the settle
window and the report record have changed. -/
structure Suspends (s t : State) (l : Line) : Prop where
  rest : t = { s with lines := t.lines, engine := t.engine, reporter := t.reporter, link := t.link, freeCount := t.freeCount }
  line : ∃ test settle q, t.line l = { s.line l with test := test, lsu := { (s.line l).lsu with settleEnd := settle }, rep := q }
  others : ∀ m, m ≠ l → t.line m = s.line m

theorem suspends_withEngine (e : Engine) (n : Nat) : Suspends s { s with engine := e, freeCount := n } l :=
  ⟨rfl, ⟨(s.line l).test, (s.line l).lsu.settleEnd, (s.line l).rep, rfl⟩, fun _ _ => rfl⟩

theorem Abandoned.suspends (n : Nat) (h : Abandoned { s with freeCount := n } t c) : Suspends s t c.line := by
  obtain ⟨hrest, ⟨q, hline⟩, hothers, -⟩ := h
  refine ⟨?_, ⟨_, _, q, hline⟩, hothers⟩
  rw [hrest]

theorem requestSuspension_suspends : Suspends s (s.requestSuspension l) l := by
  obtain ⟨-, h⟩ | ⟨-, h⟩ | ⟨-, ⟨c, -, hl, h⟩ | ⟨-, h⟩⟩ := s.requestSuspension_cases l
  · rw [h]
    exact suspends_withEngine s.engine s.freeCount
  · rw [h, enterSuspended_eq]
    exact suspends_withEngine _ s.freeCount
  · subst hl
    obtain ⟨-, hx⟩ | ⟨-, -, hx⟩ | ⟨-, -, hx⟩ := s.crossInFlight_cases c
    · rw [h, hx]
      exact (abandon_abandoned (s := s)).suspends s.freeCount
    · rw [h, hx]
      exact suspends_withEngine _ _
    · rw [h, hx]
      exact abandon_abandoned.suspends (s.freeCount + 1)
  · rw [h]
    exact suspends_withEngine _ s.freeCount

theorem requestSuspension_suspended (h : s.engine.state = .suspended) : s.requestSuspension l = s := by
  unfold State.requestSuspension
  rw [h]

theorem requestSuspension_idle (h : s.engine.state = .idle) : s.requestSuspension l = s.enterSuspended := by
  unfold State.requestSuspension
  rw [h]

theorem requestSuspension_other (hs : s.engine.state = .running ∨ s.engine.state = .stepping)
    (hc : ∀ c, s.engine.running = some c → c.line ≠ l) :
    s.requestSuspension l = { s with engine := { s.engine with suspendPending := true } } := by
  obtain ⟨h, -⟩ | ⟨h, -⟩ | ⟨-, ⟨c, hr, hl, -⟩ | ⟨-, h⟩⟩ := s.requestSuspension_cases l
  · simp [h] at hs
  · simp [h] at hs
  · exact absurd hl (hc c hr)
  · exact h

theorem requestSuspension_own (hs : s.engine.state = .running ∨ s.engine.state = .stepping) (hc : s.engine.running = some c)
    (hl : c.line = l) : s.requestSuspension l = s.crossInFlight c := by
  obtain ⟨h, -⟩ | ⟨h, -⟩ | ⟨-, ⟨c', hr, -, h⟩ | ⟨h, -⟩⟩ := s.requestSuspension_cases l
  · simp [h] at hs
  · simp [h] at hs
  · rw [hc] at hr
    cases hr
    exact h
  · exact absurd hl (h c hc)

/-! ## The line that a power cross isolates -/

theorem sampled_completes {u : Lsu} (h : u.completesRun true = true) :
    u.sampled now i true = { u.sampled now i true with ovRun := 0, ovActive := true } := by
  have hrun : 2 ≤ u.ovRun := by
    unfold Lsu.completesRun at h
    simp at h
    exact h.2
  simp [Lsu.sampled, hrun]

/-- What both kinds of isolation leave of the line. -/
structure IsolatedLine (r x : LineRec) (now : Time) (i : Nat) : Prop where
  state : x.hook.state = .quarantined
  active : x.lsu.ovActive = true
  run : x.lsu.ovRun = 0
  sample : x.lsu.lastSample = some ⟨min i 1200, true, now⟩
  sticky : x.fault.sticky = r.fault.sticky ||| 1#6
  count : x.fault.clearCount = 0
  test : x.test = r.test
  window : x.lsu.settleEnd = r.lsu.settleEnd

theorem Crossed.isolated (h : Crossed s t now l i) (hc : (s.line l).lsu.completesRun true = true) :
    IsolatedLine (s.line l) (t.line l) now i := by
  have hlsu := sampled_completes (now := now) (i := i) hc
  by_cases hq : (s.line l).hook.state = .quarantined
  · obtain ⟨-, -, q, hline⟩ := h.again hq
    rw [hline, hlsu]
    exact ⟨hq, rfl, rfl, rfl, rfl, rfl, rfl, rfl⟩
  · obtain ⟨-, q, hline⟩ := h.first hq
    obtain ⟨r, hr⟩ : ∃ r, r = (s.line l).overvolted now i := ⟨_, rfl⟩
    obtain ⟨v, hv⟩ : ∃ v, v = s.profile (s.line l).prof.number := ⟨_, rfl⟩
    rw [← hr, ← hv] at hline
    have hlsu' : r.lsu = { (s.line l).lsu.sampled now i true with ovRun := 0, ovActive := true } := by rw [hr]; exact hlsu
    obtain ⟨period, next, seize, rel, hx⟩ := quarantined_lsu (r := r) (v := v) (now := now) (mode := s.battery.mode)
    have hfault := quarantined_fault (r := r) (v := v) (now := now) (mode := s.battery.mode)
    have hhook := quarantined_hook (r := r) (v := v) (now := now) (mode := s.battery.mode)
    have htest := quarantined_test r v now s.battery.mode
    rw [hline]
    refine ⟨?_, ?_, ?_, ?_, ?_, ?_, ?_, ?_⟩
    · exact congrArg HookRec.state hhook
    · exact (congrArg Lsu.ovActive hx).trans (by rw [hlsu'])
    · exact (congrArg Lsu.ovRun hx).trans (by rw [hlsu'])
    · exact (congrArg Lsu.lastSample hx).trans (by rw [hlsu']; rfl)
    · exact (congrArg FaultRec.sticky hfault).trans (by rw [hr]; rfl)
    · exact congrArg FaultRec.clearCount hfault
    · exact htest.trans (by rw [hr]; rfl)
    · exact (congrArg Lsu.settleEnd hx).trans (by rw [hlsu']; rfl)

end

end Sys2Proof.Machine


/-! SUPPORT. A last step with a CLEAR verdict on a line in quarantine, the engine with nothing else to do (R109, R128), and the power
cross that meets it (R137). -/

namespace Sys2Proof.Machine

section

variable {s t : State} {l m : Line} {now : Time} {i : Nat} {c : TestCtx}

/-! ## The engine with nothing left to do -/

/-- The engine with nothing else to do becomes IDLE or SUSPENDED. -/
theorem chosenAfter_settles {e : Engine} (hq : e.queue = []) (hh : e.heldSweep = none) (hd : e.sweepDue = false) :
    ∃ e' : Engine, ({ s with engine := e } : State).chosenAfter c = { s with engine := e' } ∧ e'.running = e.running ∧
      ((e'.state = .suspended) ∨ (e'.state = .idle ∧ c.crossed = false)) := by
  cases hp : e.suspendPending with
  | false =>
    refine ⟨_, chosenAfter_rests hq hh hd hp, ?_, ?_⟩
    · split <;> rfl
    · cases c.crossed with
      | false => exact .inr ⟨rfl, rfl⟩
      | true => exact .inl rfl
  | true =>
    have hchosen : State.chooseWork { s with engine := e } = State.enterSuspended { s with engine := e } := chooseWork_suspends _ hp
    rw [State.chosenAfter, hchosen, enterSuspended_eq, State.afterCross]
    split
    · rw [requestSuspension_suspended rfl]
      exact ⟨_, rfl, rfl, .inl rfl⟩
    · exact ⟨_, rfl, rfl, .inl rfl⟩

/-- A suspension request to an engine with nothing in flight. -/
theorem requestSuspension_settles (h : s.engine.state = .suspended ∨ s.engine.state = .idle) :
    ∃ e : Engine, s.requestSuspension l = { s with engine := e } ∧ e.running = s.engine.running ∧ e.state = .suspended := by
  obtain h | h := h
  · exact ⟨s.engine, requestSuspension_suspended h, rfl, h⟩
  · rw [requestSuspension_idle h, enterSuspended_eq]
    exact ⟨_, rfl, rfl, rfl⟩

/-! ## A CLEAR verdict (R109, R128) -/

/-- Whether a set of kinds holds all those of another. -/
def KindSet.covers (x k : KindSet) : Prop := x &&& k = k

theorem covers_or_left {x k : KindSet} (h : x.covers k) (y : KindSet) : KindSet.covers (x ||| y) k := by
  refine BitVec.eq_of_getLsbD_eq fun j _ => ?_
  have hj := congrArg (BitVec.getLsbD · j) h
  simp only [BitVec.getLsbD_and, BitVec.getLsbD_or] at hj ⊢
  rw [Bool.and_or_distrib_right, hj]
  cases k.getLsbD j <;> simp

/-- The record of a test that ends DONE with a CLEAR verdict. -/
def TestCtx.clearRecord (c : TestCtx) : ResultRec := ⟨c.line, c.origin, c.steps, c.values, .done, some 0#6⟩

/-- Of two states, the second is the first with the test `c` DONE with a CLEAR verdict on its line, in quarantine: the line's record is
`x`, its test and report records apart, and the engine has nothing in flight. -/
structure ClearTaken (s t : State) (c : TestCtx) (x : LineRec) : Prop where
  line : ∃ q, t.line c.line = { x with test := ⟨false, false, some c.clearRecord⟩, rep := q } ∧ ∀ k, x.rep.latched.covers k → q.latched.covers k
  idle : t.engine.running = none
  state : t.engine.state = .suspended ∨ (t.engine.state = .idle ∧ c.crossed = false)
  kept : t.kept = s.kept

theorem endDone_clear {u : State} (hst : (s.line c.line).hook.state = .quarantined) (hv : verdictOf c.values (s.working c.line) = 0#6)
    (hu : (s.offBus s.partTime c.line).countVerdict c.line 0#6 = u) (hq : s.engine.queue = []) (hh : s.engine.heldSweep = none)
    (hd : s.engine.sweepDue = false) : ClearTaken s (s.endDone c) c (u.line c.line) := by
  obtain ⟨off, hoff⟩ : ∃ o, o = s.offBus s.partTime c.line := ⟨_, rfl⟩
  have hoffLine : off.line c.line = _ := (congrArg (State.line · c.line) hoff).trans offBus_line_self
  have hverdict : off.takeVerdict c.line 0#6 = u := by
    rw [takeVerdict_counts (by rw [hoffLine]; exact hst), joinSticky_zero, hoff, hu]
  have htest : (u.line c.line).test = { (s.line c.line).test with onTestBus := false, relayClosed := false } := by
    rw [← hverdict, takeVerdict_test, hoffLine]
  obtain ⟨stored, hstored⟩ : ∃ w, w = u.setLine c.line { u.line c.line with test := ⟨false, false, some c.clearRecord⟩ } := ⟨_, rfl⟩
  have hstores : u.storeResult c.clearRecord = stored :=
    (storeResult_off (by rw [TestCtx.clearRecord, htest]) (by rw [TestCtx.clearRecord, htest])).trans hstored.symm
  obtain ⟨told, htold⟩ : ∃ w, w = if c.hostReport then stored.raise c.line (.testDone c.clearRecord) else stored := ⟨_, rfl⟩
  have hworking : off.working c.line = s.working c.line := by rw [State.working, hoffLine]; rfl
  have hfinish : (s.disconnect c.line).finishDone c = told := by
    rw [disconnect_eq, ← hoff, State.finishDone, hworking, hv, htold, ← hstores, ← hverdict]
    rfl
  have hline : ∃ q, told.line c.line = { u.line c.line with test := ⟨false, false, some c.clearRecord⟩, rep := q } ∧
      ∀ k, (u.line c.line).rep.latched.covers k → q.latched.covers k := by
    rw [htold]
    split
    · rw [raise_line_self, hstored, line_setLine_self]
      exact ⟨_, rfl, fun k hk => covers_or_left hk _⟩
    · rw [hstored, line_setLine_self]
      exact ⟨_, rfl, fun k hk => hk⟩
  have htime : told.partTime = s.partTime := by
    rw [← hfinish, partTime_of_kept (finishDone_kept _ _)]
    rfl
  have hengine : told.engine = s.engine := by rw [← hfinish, finishDone_engine, disconnect_engine]
  have hkept := endDone_kept s c
  have hdone := endDone_told hfinish hengine htime
  obtain ⟨e', hsettles, hrunning, hstate⟩ := chosenAfter_settles (s := told) (c := c) (e := s.engine.freed c s.partTime) hq hh hd
  rw [hdone, hsettles] at hkept ⊢
  exact ⟨hline, hrunning, hstate, hkept⟩

/-- The arrival that completes a last step (R109). -/
theorem exec_ends {q : Step} {a b : Int} (hhigh : s.link.resetnLow = false) (hs : s.engine.state = .running ∨ s.engine.state = .stepping)
    (hc : s.engine.running = some c) (hp : c.phase = some (.measure q, now)) (hn : c.next = none) (ha : c.abortRequested = false) :
    exec (.stepCompletion now a b) s = .next ((s.at now).endDone { c with values := c.values.record q a b }) := by
  refine (exec_step hhigh a b).trans (congrArg Host.Outcome.next ?_)
  rw [stepDone_due (s.at now) hc hp]
  exact phaseDone_ends true hs ha hn

/-- A CLEAR verdict short of clearCount adds one to the count (R128). -/
theorem countVerdict_adds (h : (s.line l).fault.clearCount + 1 < (s.working l).clearCount) : s.countVerdict l 0#6 =
    s.setLine l { s.line l with fault := { (s.line l).fault with clearCount := (s.line l).fault.clearCount + 1 } } :=
  (if_pos rfl).trans (if_neg (Nat.not_le.mpr h))

/-- A CLEAR verdict that reaches clearCount takes the line out of quarantine (R128). -/
theorem countVerdict_clears (h : (s.working l).clearCount ≤ (s.line l).fault.clearCount + 1) : s.countVerdict l 0#6 =
    (s.setLine l ((s.line l).unretested.learning s.partTime s.battery.mode)).raise l .faultCleared :=
  (if_pos rfl).trans ((if_pos h).trans (congrArg (State.raise · l .faultCleared) leaveQuarantine_eq))

end

end Sys2Proof.Machine


/-! SUPPORT. A power cross and a CLEAR verdict at one instant, in either order (R137), and O48. -/

namespace Sys2Proof.Machine

section

variable {s t : State} {l m : Line} {now : Time} {i : Nat} {c : TestCtx} {q : Step} {a b : Int}

/-- A sample that completes an over-voltage run on a quarantined line meets the last step of its test, which completes now, with no abort
requested and nothing else for the engine to do. -/
structure MeetsLastStep (s : State) (now : Time) (l : Line) (c : TestCtx) (q : Step) : Prop where
  due : s.due now l
  calls : CallLaws s
  pool : PoolLaws s
  engine : EngineConsistent s.engine
  completes : (s.line l).lsu.completesRun true = true
  quarantined : (s.line l).hook.state = .quarantined
  running : s.engine.running = some c
  line : c.line = l
  phase : c.phase = some (.measure q, now)
  last : c.next = none
  unaborted : c.abortRequested = false
  uncrossed : c.crossed = false
  noQueue : s.engine.queue = []
  noHeld : s.engine.heldSweep = none
  notDue : s.engine.sweepDue = false

/-- What is left of the line and the engine in the end: the line in quarantine, OV-active, with the record, count and retest due given,
and the engine SUSPENDED with nothing in flight. -/
structure EndsIsolated (r : LineRec) (u : State) (l : Line) (record : ResultRec) (count : Nat) (retest : Option Time) : Prop where
  state : (u.line l).hook.state = .quarantined
  active : (u.line l).lsu.ovActive = true
  sticky : (u.line l).fault.sticky = r.fault.sticky ||| 1#6
  test : (u.line l).test = ⟨false, false, some record⟩
  count : (u.line l).fault.clearCount = count
  retest : (u.line l).fault.retestDue = retest
  suspended : u.engine.state = .suspended
  idle : u.engine.running = none

theorem MeetsLastStep.busy (h : MeetsLastStep s now l c q) : s.engine.state = .running ∨ s.engine.state = .stepping :=
  (inFlight_state h.engine h.running (by rw [h.phase]; rfl)).imp And.left And.left

theorem MeetsLastStep.lastStep (h : MeetsLastStep s now l c q) : c.lastStepDue now = true :=
  (c.lastStepDue_iff now).mpr ⟨⟨q, h.phase⟩, h.last, h.unaborted, h.uncrossed⟩

theorem crossed_kept : (s.crossed l).kept = s.kept := by
  unfold State.crossed State.alarmed
  split
  · rw [modFault_kept, raise_kept, joinSticky_kept]
  · rw [enterQuarantine_kept, raise_kept, joinSticky_kept]

/-- The power cross first: the line isolated, and its test crossed or abandoned. -/
theorem MeetsLastStep.crosses (h : MeetsLastStep s now l c q) : ∃ x, Crossed s x now l i ∧ x.engine = s.engine ∧ x.partTime = now ∧
    x.freeCount = s.freeCount ∧ x.link.resetnLow = false ∧ exec (.sampleRecord now l i true) s = .next (x.crossInFlight c) := by
  have hX : Crossed s ((s.sampledAt now l i true).crossed l) now l i := crossed_crossed h.calls h.pool
  have hlow : ((s.sampledAt now l i true).crossed l).link.resetnLow = false :=
    (congrArg Kept.resetnLow (crossed_kept (s := s.sampledAt now l i true))).trans h.due.resetnHigh
  have hst : ((s.sampledAt now l i true).line l).hook.state ≠ .outOfService := by
    rw [sampledAt_line_self]
    dsimp only
    rw [h.quarantined]
    decide
  have hexec : exec (.sampleRecord now l i true) s = .next (((s.sampledAt now l i true).crossed l).requestSuspension l) := by
    rw [exec_sample h.due, if_pos h.completes, powerCross_eq hst]
  obtain ⟨x, hx⟩ : ∃ x, x = (s.sampledAt now l i true).crossed l := ⟨_, rfl⟩
  rw [← hx] at hX hexec hlow
  have hengine : x.engine = s.engine := by rw [hX.rest]
  refine ⟨x, hX, hengine, by rw [hX.rest], by rw [hX.rest], hlow, ?_⟩
  rw [hexec, requestSuspension_own (by rw [hengine]; exact h.busy) (by rw [hengine]; exact h.running) h.line]

/-- The completion waits for the power cross, and its verdict then counts 1. -/
theorem MeetsLastStep.counts (h : MeetsLastStep s now l c q) (hv : verdictOf (c.values.record q a b) (s.line l).prof.working = 0#6)
    (hcount : 1 < (s.line l).prof.working.clearCount) (hfirst : Config.completionFirst s.freeCount = true) :
    ∃ t u, exec (.sampleRecord now l i true) s = .next t ∧ exec (.stepCompletion now a b) t = .next u ∧
      EndsIsolated (s.line l) u l ⟨l, c.origin, c.steps, c.values.record q a b, .done, some 0#6⟩ 1 (s.line l).fault.retestDue := by
  obtain ⟨x, hX, hengine, htime, hfree, hlow, hexec⟩ := h.crosses (i := i)
  have hstate : x.engine.state = .running ∨ x.engine.state = .stepping := by rw [hengine]; exact h.busy
  obtain ⟨-, -, q', hline⟩ := hX.again h.quarantined
  have hl := h.line
  subst hl
  obtain ⟨t, ht⟩ : ∃ t : State, t = { x with
    freeCount := x.freeCount + 1, engine := { x.engine with running := some { c with crossed := true } } } := ⟨_, rfl⟩
  have hcross : x.crossInFlight c = t := by
    obtain ⟨hd, -⟩ | ⟨-, -, heq⟩ | ⟨-, hno, -⟩ := x.crossInFlight_cases c
    · rw [htime, h.lastStep] at hd
      cases hd
    · exact heq.trans ht.symm
    · rw [hfree, hfirst] at hno
      cases hno
  obtain ⟨d, hd⟩ : ∃ d : TestCtx, d = { c with crossed := true, values := c.values.record q a b } := ⟨_, rfl⟩
  have hstep : exec (.stepCompletion now a b) t = .next ((t.at now).endDone d) := by
    rw [hd]
    exact exec_ends (s := t) (c := { c with crossed := true }) (by rw [ht]; exact hlow) (by rw [ht]; exact hstate) (by rw [ht]) h.phase
      h.last h.unaborted
  have hcline : d.line = c.line := by rw [hd]
  have htline : (t.at now).line d.line = x.line c.line := by rw [ht, hcline]; rfl
  have htengine : (t.at now).engine = { s.engine with running := some { c with crossed := true } } := by rw [ht, ← hengine]; rfl
  have hoff : ((t.at now).offBus now d.line).line d.line = _ := offBus_line_self
  rw [htline] at hoff
  have hadds : ((t.at now).offBus now d.line).countVerdict d.line 0#6 = _ := countVerdict_adds (by
    rw [State.working, hoff, hline]
    exact hcount)
  obtain ⟨⟨q'', huline, -⟩, huidle, hustate, -⟩ := endDone_clear (s := t.at now) (c := d)
    (by rw [htline, hline]; exact h.quarantined)
    (by rw [State.working, htline, hline, hd]; exact hv) hadds
    (by rw [htengine]; exact h.noQueue) (by rw [htengine]; exact h.noHeld) (by rw [htengine]; exact h.notDue)
  rw [line_setLine_self, hoff, hline, hcline] at huline
  have hsuspended : ((t.at now).endDone d).engine.state = .suspended := by
    refine hustate.resolve_right fun hidle => ?_
    have hcrossed := hidle.2
    rw [hd] at hcrossed
    cases hcrossed
  refine ⟨t, _, by rw [hexec, hcross], hstep, ?_, ?_, ?_, ?_, ?_, ?_, hsuspended, huidle⟩
  · rw [huline]
    exact h.quarantined
  · rw [huline, sampled_completes h.completes]
  · rw [huline]
  · rw [huline, hd]
    rfl
  · rw [huline]
  · rw [huline]

/-- The power cross abandons the test: no verdict is taken. -/
theorem MeetsLastStep.abandons (h : MeetsLastStep s now l c q) (hfirst : Config.completionFirst s.freeCount = false) :
    ∃ t u, exec (.sampleRecord now l i true) s = .next t ∧ exec (.stepCompletion now a b) t = .next u ∧
      EndsIsolated (s.line l) u l ⟨l, c.origin, c.steps, c.values, .abandoned, none⟩ 0 (s.line l).fault.retestDue := by
  obtain ⟨x, hX, hengine, htime, hfree, hlow, hexec⟩ := h.crosses (i := i)
  obtain ⟨-, -, q', hline⟩ := hX.again h.quarantined
  have hl := h.line
  subst hl
  obtain ⟨t, ht⟩ : ∃ t : State, t = State.abandon { x with freeCount := x.freeCount + 1 } c := ⟨_, rfl⟩
  have hcross : x.crossInFlight c = t := by
    obtain ⟨hd, -⟩ | ⟨-, hyes, -⟩ | ⟨-, -, heq⟩ := x.crossInFlight_cases c
    · rw [htime, h.lastStep] at hd
      cases hd
    · rw [hfree, hfirst] at hyes
      cases hyes
    · exact heq.trans ht.symm
  obtain ⟨hrest, ⟨q'', htline⟩, -, -⟩ : Abandoned { x with freeCount := x.freeCount + 1 } t c := ht ▸ abandon_abandoned
  have htengine : t.engine = x.engine.abandoned c x.partTime := by rw [hrest]
  have htlow : t.link.resetnLow = false := (congrArg Kept.resetnLow (ht ▸ abandon_kept _ _)).trans hlow
  have hstep : exec (.stepCompletion now a b) t = .next (t.at now) := by
    refine (exec_step htlow a b).trans (congrArg Host.Outcome.next (stepDone_idle (t.at now) (fun d p hd => ?_) a b))
    rw [show (t.at now).engine = _ from htengine] at hd
    cases hd
  have htline' : (t.at now).line c.line = _ := htline
  have hxline : ({ x with freeCount := x.freeCount + 1 } : State).line c.line = x.line c.line := rfl
  rw [hxline, hline] at htline'
  refine ⟨t, _, by rw [hexec, hcross], hstep, ?_, ?_, ?_, ?_, ?_, ?_, ?_, ?_⟩
  · rw [htline']
    exact h.quarantined
  · rw [htline', sampled_completes h.completes]
  · rw [htline']
  · rw [htline']
    rfl
  · rw [htline']
  · rw [htline']
  · exact congrArg Engine.state htengine
  · exact congrArg Engine.running htengine

/-! ## The completion first (R137, last row) -/

theorem covers_or_right (x k : KindSet) : KindSet.covers (x ||| k) k := by
  rw [BitVec.or_comm]
  exact covers_or_left (BitVec.and_self) x

theorem covers_both {x k k' : KindSet} (h : x.covers k) (h' : x.covers k') : KindSet.covers x (k ||| k') := by
  unfold KindSet.covers at *
  rw [BitVec.and_or_distrib_left, h, h']

theorem raise_covers (s : State) (l : Line) (b : LineEvent) : ((s.raise l b).line l).rep.latched.covers (kindBit b.kind) := by
  rw [raise_line_self]
  exact covers_or_right _ _

theorem raise_covers_kept {k : KindSet} (h : (s.line l).rep.latched.covers k) (b : LineEvent) :
    ((s.raise l b).line l).rep.latched.covers k := by
  rw [raise_line_self]
  exact covers_or_left h _

theorem crossEvents_covers {k : KindSet} (hst : (s.line l).hook.state ≠ .quarantined) (h : (s.line l).rep.latched.covers k) :
    ((s.crossEvents l).line l).rep.latched.covers (k ||| 0x1000#16 ||| 0x2000#16) := by
  have halarm : KindSet.covers ((s.crossAlarm l).line l).rep.latched (k ||| 0x1000#16) := by
    refine covers_both (raise_covers_kept ?_ _) (raise_covers _ l .powerCross)
    split
    · exact h
    · exact raise_covers_kept h _
  have hquarantined : KindSet.covers (((s.crossAlarm l).raise l .quarantined).line l).rep.latched (k ||| 0x1000#16 ||| 0x2000#16) :=
    covers_both (raise_covers_kept halarm _) (raise_covers _ l .quarantined)
  rw [crossEvents_first hst]
  split
  · exact raise_covers_kept hquarantined _
  · exact hquarantined

/-- The entry to LEARNING from quarantine leaves the next sample time and the over-voltage run. -/
theorem learning_sampling (r : LineRec) (mode : ScanMode) (hp : r.lsu.period = periodOf .quarantined mode) :
    (r.learning now mode).lsu.nextSample = r.lsu.nextSample ∧ (r.learning now mode).lsu.ovActive = r.lsu.ovActive ∧
      (r.learning now mode).lsu.ovRun = r.lsu.ovRun := by
  have hsame : r.lsu.period = periodOf .learning mode := hp.trans (by cases mode <;> rfl)
  exact ⟨if_pos hsame, rfl, rfl⟩

/-- What a command makes is what a step makes that finds it at the front of the queue. -/
theorem step_of_exec {j : Instr} (h : exec j s = .next t) : step { s with pending := j :: s.pending } = .next t :=
  (stepRunsFrontCommand.1 j s).trans h

/-- The completion clears the line, and the power cross then quarantines it again. -/
theorem MeetsLastStep.clears (h : MeetsLastStep s now l c q) (hperiods : PeriodsFollow s)
    (hv : verdictOf (c.values.record q a b) (s.line l).prof.working = 0#6)
    (hcount : (s.line l).prof.working.clearCount ≤ (s.line l).fault.clearCount + 1) :
    ∃ t u, exec (.stepCompletion now a b) s = .next t ∧ exec (.sampleRecord now l i true) t = .next u ∧
      (t.line l).hook.state = .learning ∧
      EndsIsolated (s.line l) u l ⟨l, c.origin, c.steps, c.values.record q a b, .done, some 0#6⟩ 0
        (some (now + BitVec.ofNat 32 (1000 * (s.line l).prof.working.retestInterval))) ∧
      (u.line l).rep.latched.covers 0x7000#16 := by
  have hl := h.line
  subst hl
  obtain ⟨d, hd⟩ : ∃ d : TestCtx, d = { c with values := c.values.record q a b } := ⟨_, rfl⟩
  have hcline : d.line = c.line := by rw [hd]
  obtain ⟨t, ht⟩ : ∃ t, t = (s.at now).endDone d := ⟨_, rfl⟩
  have hstep : exec (.stepCompletion now a b) s = .next t := by
    rw [ht, hd]
    exact exec_ends h.due.resetnHigh h.busy h.running h.phase h.last h.unaborted
  have hoff : ((s.at now).offBus now d.line).line d.line = _ := offBus_line_self
  have hclears : ((s.at now).offBus now d.line).countVerdict d.line 0#6 = _ := countVerdict_clears (by
    rw [State.working, hoff, hcline]
    exact hcount)
  obtain ⟨⟨q', htline, hlatched⟩, htidle, htstate, htkept⟩ := endDone_clear (s := s.at now) (c := d)
    (by rw [hcline]; exact h.quarantined) (by rw [hcline, hd]; exact hv) hclears h.noQueue h.noHeld h.notDue
  rw [← ht] at htline htidle htstate htkept
  rw [raise_line_self, line_setLine_self, hoff, hcline] at htline hlatched
  have hlearned : q'.latched.covers 0x4000#16 := hlatched _ (covers_or_right _ _)
  obtain ⟨o, ho⟩ : ∃ o : LineRec, o = ({ s.line c.line with
    test := { (s.line c.line).test with onTestBus := false, relayClosed := false }
    lsu := { (s.line c.line).lsu with settleEnd := some (now + 20#32) } } : LineRec).unretested := ⟨_, rfl⟩
  have htline : t.line c.line = { o.learning now s.battery.mode with test := ⟨false, false, some d.clearRecord⟩, rep := q' } := by
    rw [htline, ho]
    rfl
  obtain ⟨hnext, hactive, hrun⟩ := learning_sampling (now := now) o s.battery.mode (by
    rw [ho]
    exact (hperiods.period c.line).trans (by rw [h.quarantined]))
  have hdue : t.due now c.line := by
    refine ⟨(congrArg Kept.resetnLow htkept).trans h.due.resetnHigh, ?_⟩
    rw [htline]
    exact hnext.trans (by rw [ho]; exact h.due.isNext)
  have hcompletes : (t.line c.line).lsu.completesRun true = true := by
    rw [htline]
    refine Eq.trans ?_ h.completes
    unfold Lsu.completesRun
    dsimp only
    rw [hactive, hrun, ho]
    rfl
  have hlearning : (t.line c.line).hook.state = .learning := by rw [htline]; rfl
  have hcalls : CallLaws t := callLawsAreKept { s with pending := .stepCompletion now a b :: s.pending } t h.calls (step_of_exec hstep)
  have hpool : PoolLaws t := poolLawsAreKept.1 { s with pending := .stepCompletion now a b :: s.pending } t (h.pool.congr rfl) (step_of_exec hstep)
  have hX : Crossed t ((t.sampledAt now c.line i true).crossed c.line) now c.line i := crossed_crossed hcalls hpool
  obtain ⟨x, hx⟩ : ∃ x, x = (t.sampledAt now c.line i true).crossed c.line := ⟨_, rfl⟩
  rw [← hx] at hX
  have hsample : exec (.sampleRecord now c.line i true) t = .next (x.requestSuspension c.line) := by
    rw [exec_sample hdue, if_pos hcompletes, powerCross_eq, hx]
    rw [sampledAt_line_self]
    exact fun hout => by rw [hlearning] at hout; cases hout
  have hne : (t.line c.line).hook.state ≠ .quarantined := by rw [hlearning]; decide
  have hxengine : x.engine = t.engine := by rw [hX.rest]
  obtain ⟨hstate', hactive', hrun', hsample', hsticky', hcount', htest', -⟩ := hX.isolated hcompletes
  obtain ⟨-, q'', hxline⟩ := hX.first hne
  obtain ⟨e', hu, hurunning, hustate⟩ := requestSuspension_settles (s := x) (l := c.line)
    (by rw [hxengine]; exact htstate.imp id And.left)
  refine ⟨t, _, hstep, hsample, hlearning, ?_, ?_⟩
  · rw [hu]
    refine ⟨hstate', hactive', ?_, ?_, hcount', ?_, hustate, ?_⟩
    · refine hsticky'.trans ?_
      rw [htline, ho]
      rfl
    · refine htest'.trans ?_
      rw [htline, hd]
      rfl
    · have hretest := congrArg FaultRec.retestDue (quarantined_fault (r := (t.line c.line).overvolted now i)
        (v := t.profile (t.line c.line).prof.number) (now := now) (mode := t.battery.mode))
      have hpend : ((t.line c.line).overvolted now i).hook.pendingProfile = false := by rw [htline]; rfl
      have hwork : ((t.line c.line).overvolted now i).prof.working = (s.line c.line).prof.working := by rw [htline, ho]; rfl
      rw [hpend, hwork] at hretest
      exact (congrArg (fun r : LineRec => r.fault.retestDue) hxline).trans hretest
    · exact hurunning.trans ((congrArg Engine.running hxengine).trans htidle)
  · rw [hu]
    have hcovers := crossEvents_covers (s := t.at now) (l := c.line) (k := 0x4000#16) hne (by
      have hrep : ((t.at now).line c.line).rep = q' := congrArg LineRec.rep htline
      rw [hrep]
      exact hlearned)
    rw [← hX.reports.rep] at hcovers
    exact hcovers

end

end Sys2Proof.Machine


/-! SUPPORT. O48: the sample that completes an over-voltage run isolates its line and suspends testing. -/

namespace Sys2Proof.Machine

/-- What the isolation leaves of a line that was not in quarantine yet, `p` its working parameters from now on (R129, R132, R147). -/
structure FirstIsolated (r x : LineRec) (p : Profile) (now : Time) : Prop where
  hook : x.hook = ⟨r.hook.service, .quarantined, none, none, none, 0, false, false⟩
  dial : x.dial = { r.dial with collection := .inactive, firstDeadline := none, endDeadline := none }
  pool : x.pool = ⟨r.pool.slot, none, false⟩
  prof : x.prof = ⟨r.prof.number, p⟩
  baseline : x.lsu.baseline = if r.hook.pendingProfile then min r.lsu.baseline (4096 * p.leakMax) else r.lsu.baseline
  learningEnd : x.lsu.learningEnd = none
  leakClamp : x.lsu.leakClamp = none
  leakReported : x.lsu.leakReported = false
  retest : x.fault.retestDue = some (now + BitVec.ofNat 32 (1000 * p.retestInterval))

theorem Crossed.firstIsolated {s t : State} {now : Time} {l : Line} {i : Nat} (h : Crossed s t now l i) (hr : (s.line l).consistent)
    (hq : (s.line l).hook.state ≠ .quarantined) : FirstIsolated (s.line l) (t.line l)
      (if (s.line l).hook.pendingProfile then s.profile (s.line l).prof.number else (s.line l).prof.working) now := by
  obtain ⟨-, q, hline⟩ := h.first hq
  obtain ⟨v, hv⟩ : ∃ v, v = s.profile (s.line l).prof.number := ⟨_, rfl⟩
  obtain ⟨o, ho⟩ : ∃ o, o = (s.line l).overvolted now i := ⟨_, rfl⟩
  have hconsistent : o.consistent := ho ▸ { hr with }
  have hpend : o.hook.pendingProfile = (s.line l).hook.pendingProfile := by rw [ho]; rfl
  have hbase : o.lsu.baseline = (s.line l).lsu.baseline := by rw [ho]; rfl
  have hworking : o.prof.working = (s.line l).prof.working := by rw [ho]; rfl
  have hprof := quarantined_prof (r := o) (v := v) (now := now) (mode := s.battery.mode)
  have hfault := quarantined_fault (r := o) (v := v) (now := now) (mode := s.battery.mode)
  obtain ⟨period, next, seize, rel, hlsu⟩ := quarantined_lsu (r := o) (v := v) (now := now) (mode := s.battery.mode)
  rw [hpend, hworking] at hprof hfault
  rw [hpend, hbase] at hlsu
  rw [hline, ← hv, ← ho]
  refine ⟨quarantined_hook.trans (by rw [ho]; rfl), (quarantined_dial hconsistent).trans (by rw [ho]; rfl), rfl,
    hprof.trans (by rw [ho]; rfl), (congrArg Lsu.baseline hlsu).trans ?_, congrArg Lsu.learningEnd hlsu, congrArg Lsu.leakClamp hlsu,
    congrArg Lsu.leakReported hlsu, congrArg FaultRec.retestDue hfault⟩
  cases (s.line l).hook.pendingProfile with
  | true => rfl
  | false => rfl

/-- Settles O48: what is isolated first or again, what suspension makes of the engine, and the two orders of a verdict and a cross. -/
theorem powerCrossIsolatesTheLine : Obligations.PowerCrossIsolatesTheLine := by
  refine ⟨fun s now l i hdue hcalls hpool hcon hruns hst => ?_,
    fun s now l i c q a b hdue hcalls hpool hcon hperiods hruns hst hr hl hp hn ha hx hq hh hd => ?_⟩
  · intro r e p abandons meets faulted crossed isolated
    obtain ⟨x, hx⟩ : ∃ x, x = (s.sampledAt now l i true).crossed l := ⟨_, rfl⟩
    have hX : Crossed s x now l i := hx ▸ crossed_crossed hcalls hpool
    have hstate : ((s.sampledAt now l i true).line l).hook.state ≠ .outOfService := by rw [sampledAt_line_self]; exact hst
    have hexec : exec (.sampleRecord now l i true) s = .next (x.requestSuspension l) := by
      rw [exec_sample hdue, if_pos hruns, powerCross_eq hstate, hx]
    have hisolated : isolated = (s.at now).crossEvents l := rfl
    clear_value isolated
    subst hisolated
    obtain ⟨hstate', hactive, hrun, hsample, hsticky, hcount, htest, hwindow⟩ := hX.isolated hruns
    have ⟨hrest, hreports, hagain, hfirst⟩ := hX
    have hengine : x.engine = e := by rw [hrest]
    have htime : x.partTime = now := by rw [hrest]
    have hfree : x.freeCount = s.freeCount := by rw [hrest]
    obtain ⟨hsrest, ⟨test, settle, q, hsline⟩, hsothers⟩ := requestSuspension_suspends (s := x) (l := l)
    refine ⟨_, hexec, ?_, ?_, ?_, ?_, ?_, ?_, ?_, ?_, ?_, ?_⟩
    · generalize x.requestSuspension l = t at hsrest ⊢
      rw [hsrest, hrest]
    · rw [hsline]
      exact hstate'
    · rw [hsline]
      exact hactive
    · rw [hsline]
      exact hrun
    · rw [hsline]
      exact hsample
    · rw [hsline]
      exact hsticky
    · rw [hsline]
      exact hcount
    · intro hq
      obtain ⟨hsame, hne, q', hline⟩ := hagain hq
      refine ⟨?_, ?_, ?_, ?_, (congrArg State.pool hsrest).trans hsame, fun m hm => (hsothers m hm).trans (hne m hm)⟩
      · rw [hsline, hline]
      · rw [hsline, hline]
      · rw [hsline, hline]
      · rw [hsline, hline]
    · intro hq
      obtain ⟨⟨u, hu, hpoolEq, hne⟩, -⟩ := hfirst hq
      obtain ⟨hhook, hdial, hplace, hprof, hbase, hlearn, hclamp, hreported, hretest⟩ := hX.firstIsolated (hcalls l) hq
      rw [hsline]
      exact ⟨hhook, hdial, hplace, hprof, hbase, hlearn, hclamp, hreported, hretest, u, hu, (congrArg State.pool hsrest).trans hpoolEq,
        fun m hm => (hsothers m hm).trans (hne m hm)⟩
    · intro others abandoned
      have hothers : ∀ t : State, x.requestSuspension l = t → t.lines = x.lines → t.reporter = x.reporter → t.link = x.link → others := by
        rintro t rfl hl hr hk
        have hlineT : (x.requestSuspension l).line l = x.line l := line_congr x hl l
        exact ⟨by rw [hlineT, htest], by rw [hlineT, hwindow], hr.trans hreports.reporter, hk.trans hreports.link,
          by rw [hlineT, hreports.rep]⟩
      have habandoned : ∀ c n, c.line = l → x.requestSuspension l = State.abandon { x with freeCount := n } c → abandoned c := by
        rintro c n hl heq
        subst hl
        obtain ⟨harest, ⟨q', haline⟩, -, hareports⟩ := abandon_abandoned (s := { x with freeCount := n }) (c := c)
        have hfreed : SameReports ({ x with freeCount := n } : State) ((s.at now).crossEvents c.line) c.line :=
          ⟨hreports.reporter, hreports.link, hreports.partTime, hreports.rep⟩
        have htold : SameReports (State.abandon { x with freeCount := n } c) (if c.hostReport = true ∨ c.abortRequested = true
            then ((s.at now).crossEvents c.line).raise c.line (.testAborted c.abandonedRecord) else (s.at now).crossEvents c.line) c.line := by
          refine hareports.trans ?_
          split
          · exact hfreed.raise _
          · exact hfreed
        refine ⟨?_, ?_, ?_, ?_, ?_, ?_⟩
        · rw [heq]
          exact (congrArg State.engine harest).trans (by rw [Engine.abandoned, hengine, htime])
        · rw [heq, haline]
          rfl
        · rw [heq, haline, htime]
        · rw [heq]
          exact htold.reporter
        · rw [heq]
          exact htold.link
        · rw [heq]
          exact htold.rep
      have hbusy : ∀ c, abandons c → x.engine.state = .running ∨ x.engine.state = .stepping := by
        rintro c ⟨hc, -, hp⟩
        rw [hengine]
        exact (inFlight_state hcon hc hp).imp And.left And.left
      have hmeets : ∀ c, c.lastStepDue x.partTime = true ↔ meets c := fun c => by rw [htime]; exact c.lastStepDue_iff now
      have hown : ∀ c, abandons c → x.requestSuspension l = x.crossInFlight c := fun c hc =>
        requestSuspension_own (hbusy c hc) (by rw [hengine]; exact hc.1) hc.2.1
      refine ⟨fun hsus => ?_, fun hidle => ?_, fun hbusy hno => ?_, fun c hc hno => ?_, fun c hc hyes => ?_, fun hno => ?_⟩
      · have heq := requestSuspension_suspended (s := x) (l := l) (by rw [hengine]; exact hsus)
        exact ⟨by rw [heq]; exact hengine, hothers x heq rfl rfl rfl⟩
      · have heq := (requestSuspension_idle (s := x) (l := l) (by rw [hengine]; exact hidle)).trans (enterSuspended_eq x)
        refine ⟨?_, hothers _ heq rfl rfl rfl⟩
        obtain ⟨-, -, -, -, hpend⟩ := hcon.idle hidle
        rw [heq, hengine, htime, ← hpend]
      · have hline : ∀ c, x.engine.running = some c → c.line ≠ l := fun c hc hl => by
          rw [hengine] at hc
          obtain ⟨c', hc', hp⟩ := state_inFlight hcon hbusy
          rw [hc] at hc'
          cases hc'
          exact hno ⟨c, hc, hl, hp⟩
        have heq := requestSuspension_other (s := x) (by rw [hengine]; exact hbusy) hline
        exact ⟨by rw [heq, hengine], hothers _ heq rfl rfl rfl⟩
      · obtain ⟨-, heq⟩ | ⟨hd, -⟩ | ⟨hd, -⟩ := x.crossInFlight_cases c
        · exact habandoned c x.freeCount hc.2.1 ((hown c hc).trans heq)
        · exact absurd ((hmeets c).mp hd) hno
        · exact absurd ((hmeets c).mp hd) hno
      · obtain ⟨hd, -⟩ | ⟨-, hf, heq⟩ | ⟨-, hf, heq⟩ := x.crossInFlight_cases c
        · exact absurd ((hmeets c).mpr hyes) (by rw [hd]; exact Bool.false_ne_true)
        · rw [hfree] at hf
          rw [if_pos hf]
          have heq := (hown c hc).trans heq
          exact ⟨by rw [heq, hfree], by rw [heq, hengine], hothers _ heq rfl rfl rfl⟩
        · rw [hfree] at hf
          rw [if_neg (by rw [hf]; exact Bool.false_ne_true)]
          have heq := (hown c hc).trans heq
          refine ⟨?_, habandoned c _ hc.2.1 heq⟩
          rw [heq, abandon_abandoned.rest, hfree]
      · obtain ⟨-, heq⟩ | ⟨-, heq⟩ | ⟨hs, ⟨c, hr, hl, heq⟩ | ⟨-, heq⟩⟩ := x.requestSuspension_cases l
        · rw [heq, hfree]
        · rw [heq, enterSuspended_eq, hfree]
        · rw [hengine] at hs hr
          have hc : abandons c := by
            obtain ⟨c', hc', hp⟩ := state_inFlight hcon hs
            rw [hr] at hc'
            cases hc'
            exact ⟨hr, hl, hp⟩
          obtain ⟨-, hx⟩ | ⟨hd, -⟩ | ⟨hd, -⟩ := x.crossInFlight_cases c
          · rw [heq, hx, abandon_abandoned.rest, hfree]
          · exact absurd ⟨c, hc, (hmeets c).mp hd⟩ hno
          · exact absurd ⟨c, hc, (hmeets c).mp hd⟩ hno
        · rw [heq, hfree]
  · intro r p values hv done first ended
    have h : MeetsLastStep s now l c q := ⟨hdue, hcalls, hpool, hcon, hruns, hst, hr, hl, hp, hn, ha, hx, hq, hh, hd⟩
    have hended : ∀ u record count retest, EndsIsolated r u l record count retest → ended u record count retest :=
      fun u record count retest ⟨h1, h2, h3, h4, h5, h6, h7, h8⟩ => ⟨h1, h2, h3, h4, h5, h6, h7, h8⟩
    refine ⟨fun hcount => ?_, fun hcount => ?_⟩
    · cases hfirst : first with
      | true =>
        obtain ⟨t, u, ht, hu, hends⟩ := h.counts (i := i) hv hcount hfirst
        exact ⟨t, u, ht, hu, hended _ _ _ _ hends⟩
      | false =>
        obtain ⟨t, u, ht, hu, hends⟩ := h.abandons (i := i) (a := a) (b := b) hfirst
        exact ⟨t, u, ht, hu, hended _ _ _ _ hends⟩
    · obtain ⟨t, u, ht, hu, hlearning, hends, hlatched⟩ := h.clears (i := i) hperiods hv hcount
      exact ⟨t, u, ht, hu, hlearning, hended _ _ _ _ hends, hlatched⟩

end Sys2Proof.Machine


/-! SUPPORT. The resonator over the real numbers (R85): its outputs are bounded, and depend on the coefficient so little that the size of
a component at a coefficient cut to some places lies within the model's bound. -/

namespace Sys2Proof.Machine

open scoped ComplexConjugate

/-! ## The resonator -/

/-- The resonator with coefficient `c` from the outputs `y`, over the samples that remain (R85). -/
noncomputable def resonator (c : ℝ) (xs : List Int) (y : ℝ × ℝ) : ℝ × ℝ :=
  xs.foldl (fun y (x : Int) => ((x : ℝ) + c * y.1 - y.2, y.1)) y

theorem resonator_cons (c : ℝ) (x : Int) (xs : List Int) (y : ℝ × ℝ) :
    resonator c (x :: xs) y = resonator c xs ((x : ℝ) + c * y.1 - y.2, y.1) := rfl

/-- The squared size of two outputs. -/
def sizeOf2 (c : ℝ) (y : ℝ × ℝ) : ℝ := y.1 ^ 2 + y.2 ^ 2 - c * y.1 * y.2

/-- A coefficient of at most 2 is a turn by some angle. -/
theorem exists_turn {c : ℝ} (h : |c| ≤ 2) : ∃ w : ℂ, w * conj w = 1 ∧ w + conj w = c := by
  obtain ⟨hl, hu⟩ := abs_le.mp h
  have hsq : 0 ≤ 1 - (c / 2) ^ 2 := by nlinarith
  refine ⟨⟨c / 2, √(1 - (c / 2) ^ 2)⟩, ?_, ?_⟩
  · apply Complex.ext
    · simp only [Complex.mul_re, Complex.conj_re, Complex.conj_im, Complex.one_re]
      nlinarith [Real.mul_self_sqrt hsq]
    · simp only [Complex.mul_im, Complex.conj_re, Complex.conj_im, Complex.one_im]
      ring
  · apply Complex.ext
    · simp
    · simp

theorem norm_turn {w : ℂ} (h : w * conj w = 1) : ‖w‖ = 1 := by
  have hnorm := congrArg norm h
  rw [norm_mul, RCLike.norm_conj, norm_one] at hnorm
  nlinarith [norm_nonneg w]

/-- One sample, seen as a turn. -/
theorem turn_step {w : ℂ} {c : ℝ} (h : w * conj w = 1) (hc : w + conj w = c) (u y z : ℝ) :
    ((u + c * y - z : ℝ) : ℂ) - conj w * y = u + w * (y - conj w * z) := by
  push_cast
  rw [← hc]
  linear_combination (z : ℂ) * h

theorem turn_bound {w : ℂ} (h : w * conj w = 1) (y z : ℝ) : |y| ≤ ‖(y : ℂ) - conj w * z‖ + |z| := by
  have hy : (y : ℂ) = ((y : ℂ) - conj w * z) + conj w * z := by ring
  calc |y| = ‖(y : ℂ)‖ := by rw [Complex.norm_real, Real.norm_eq_abs]
    _ ≤ ‖(y : ℂ) - conj w * z‖ + ‖conj w * z‖ := by
      conv_lhs => rw [hy]
      exact norm_add_le _ _
    _ = ‖(y : ℂ) - conj w * z‖ + |z| := by
      rw [norm_mul, RCLike.norm_conj, norm_turn h, one_mul, Complex.norm_real, Real.norm_eq_abs]

/-! ## Bounds on the outputs and on their drift with the coefficient -/

/-- After `i` samples, the outputs of a resonator whose samples are at most `m`. -/
structure Swings (w : ℂ) (m : ℝ) (i : ℝ) (y : ℝ × ℝ) : Prop where
  turn : ‖(y.1 : ℂ) - conj w * y.2‖ ≤ m * i
  last : |y.1| ≤ m * (i * (i + 1) / 2)
  prev : |y.2| ≤ m * ((i - 1) * i / 2)

/-- After `i` samples, the difference of the outputs of two resonators whose inputs differ by at most `m` times the bound on the last
output. -/
structure Drifts (w : ℂ) (m : ℝ) (i : ℝ) (y : ℝ × ℝ) : Prop where
  turn : ‖(y.1 : ℂ) - conj w * y.2‖ ≤ m * ((i - 1) * i * (i + 1) / 6)
  last : |y.1| ≤ m * ((i - 1) * i * (i + 1) * (i + 2) / 24)
  prev : |y.2| ≤ m * ((i - 2) * (i - 1) * i * (i + 1) / 24)

section

variable {w w' : ℂ} {c d m i x : ℝ} {y z : ℝ × ℝ}

theorem Swings.step (h : Swings w m i y) (hw : w * conj w = 1) (hc : w + conj w = c) (hx : |x| ≤ m) :
    Swings w m (i + 1) (x + c * y.1 - y.2, y.1) := by
  have hturn : ‖((x + c * y.1 - y.2 : ℝ) : ℂ) - conj w * y.1‖ ≤ m * (i + 1) := by
    rw [turn_step hw hc]
    calc ‖(x : ℂ) + w * (y.1 - conj w * y.2)‖ ≤ ‖(x : ℂ)‖ + ‖w * (y.1 - conj w * y.2)‖ := norm_add_le _ _
      _ = |x| + ‖(y.1 : ℂ) - conj w * y.2‖ := by rw [norm_mul, norm_turn hw, one_mul, Complex.norm_real, Real.norm_eq_abs]
      _ ≤ m * (i + 1) := by linarith [h.turn]
  refine ⟨hturn, ?_, ?_⟩
  · calc |x + c * y.1 - y.2| ≤ _ := turn_bound hw _ y.1
      _ ≤ m * ((i + 1) * (i + 1 + 1) / 2) := by linarith [h.last]
  · refine h.last.trans (le_of_eq ?_)
    ring

theorem Drifts.step (h : Drifts w m i y) (hw : w * conj w = 1) (hc : w + conj w = c) (hx : |x| ≤ m * (i * (i + 1) / 2)) :
    Drifts w m (i + 1) (x + c * y.1 - y.2, y.1) := by
  have hturn : ‖((x + c * y.1 - y.2 : ℝ) : ℂ) - conj w * y.1‖ ≤ m * ((i + 1 - 1) * (i + 1) * (i + 1 + 1) / 6) := by
    rw [turn_step hw hc]
    calc ‖(x : ℂ) + w * (y.1 - conj w * y.2)‖ ≤ ‖(x : ℂ)‖ + ‖w * (y.1 - conj w * y.2)‖ := norm_add_le _ _
      _ = |x| + ‖(y.1 : ℂ) - conj w * y.2‖ := by rw [norm_mul, norm_turn hw, one_mul, Complex.norm_real, Real.norm_eq_abs]
      _ ≤ m * ((i + 1 - 1) * (i + 1) * (i + 1 + 1) / 6) := by linarith [h.turn]
  refine ⟨hturn, ?_, ?_⟩
  · calc |x + c * y.1 - y.2| ≤ _ := turn_bound hw _ y.1
      _ ≤ m * ((i + 1 - 1) * (i + 1) * (i + 1 + 1) * (i + 1 + 2) / 24) := by linarith [h.last]
  · refine h.last.trans (le_of_eq ?_)
    ring

/-- The difference of two resonators is one resonator, driven by what the coefficients make of the other's last output. -/
theorem resonator_step_sub (u : ℝ) : ((u + c * y.1 - y.2, y.1) : ℝ × ℝ) - (u + d * z.1 - z.2, z.1) =
    ((c - d) * z.1 + c * (y - z).1 - (y - z).2, (y - z).1) := by
  refine Prod.ext ?_ rfl
  simp only [Prod.fst_sub, Prod.snd_sub]
  ring

/-- Two resonators over the same samples, from states that swing and drift within the bounds. -/
theorem resonators_swing_drift (hw : w * conj w = 1) (hc : w + conj w = c) (hw' : w' * conj w' = 1) (hd : w' + conj w' = d) (xs : List Int)
    (hx : ∀ x ∈ xs, |(x : ℝ)| ≤ m) (hy : Swings w m i y) (hz : Swings w' m i z) (hyz : Drifts w (|c - d| * m) i (y - z)) :
    Swings w m (i + xs.length) (resonator c xs y) ∧ Swings w' m (i + xs.length) (resonator d xs z) ∧
      Drifts w (|c - d| * m) (i + xs.length) (resonator c xs y - resonator d xs z) := by
  induction xs generalizing i y z with
  | nil => simpa [resonator] using ⟨hy, hz, hyz⟩
  | cons x xs ih =>
    have hxm : |(x : ℝ)| ≤ m := hx x (List.mem_cons_self ..)
    have hdrive : |(c - d) * z.1| ≤ |c - d| * m * (i * (i + 1) / 2) := by
      rw [abs_mul, mul_assoc]
      exact mul_le_mul_of_nonneg_left hz.last (abs_nonneg _)
    have hnext := ih (fun u hu => hx u (List.mem_cons_of_mem _ hu)) (hy.step hw hc hxm) (hz.step hw' hd hxm)
      (by rw [resonator_step_sub]; exact hyz.step hw hc hdrive)
    have hlen : i + ((x :: xs).length : ℝ) = i + 1 + xs.length := by
      rw [List.length_cons]
      push_cast
      ring
    rw [hlen, resonator_cons, resonator_cons]
    exact hnext

/-! ## The size of a component at two coefficients -/

theorem sizeOf2_nonneg (h : |c| ≤ 2) : 0 ≤ sizeOf2 c y := by
  obtain ⟨hl, hu⟩ := abs_le.mp h
  unfold sizeOf2
  nlinarith [sq_nonneg (y.1 - y.2), sq_nonneg (y.1 + y.2)]

/-- The change of a size, from bounds on the outputs and on their drift. -/
theorem sizeOf2_sub_le {a b k : ℝ} (hd : |d| ≤ 2) (hk : 0 ≤ k) (hy1 : |y.1| ≤ a) (hy2 : |y.2| ≤ a) (hz1 : |z.1| ≤ a) (hz2 : |z.2| ≤ a)
    (h1 : |y.1 - z.1| ≤ k * b) (h2 : |y.2 - z.2| ≤ k * b) (hcd : |c - d| ≤ k) :
    |sizeOf2 c y - sizeOf2 d z| ≤ k * (8 * (a * b) + a ^ 2) := by
  have ha : 0 ≤ a := (abs_nonneg _).trans hy1
  have hkb : 0 ≤ k * b := (abs_nonneg _).trans h1
  have hsum1 : |y.1 + z.1| ≤ 2 * a := (abs_add_le _ _).trans (by linarith)
  have hsum2 : |y.2 + z.2| ≤ 2 * a := (abs_add_le _ _).trans (by linarith)
  have hsplit : sizeOf2 c y - sizeOf2 d z = (y.1 - z.1) * (y.1 + z.1) + (y.2 - z.2) * (y.2 + z.2) -
      (c - d) * (y.1 * y.2) - d * ((y.1 - z.1) * y.2) - d * (z.1 * (y.2 - z.2)) := by
    unfold sizeOf2
    ring
  have hfirst : |(y.1 - z.1) * (y.1 + z.1)| ≤ k * b * (2 * a) := by
    rw [abs_mul]
    exact mul_le_mul h1 hsum1 (abs_nonneg _) hkb
  have hsecond : |(y.2 - z.2) * (y.2 + z.2)| ≤ k * b * (2 * a) := by
    rw [abs_mul]
    exact mul_le_mul h2 hsum2 (abs_nonneg _) hkb
  have hthird : |(c - d) * (y.1 * y.2)| ≤ k * (a * a) := by
    rw [abs_mul, abs_mul]
    exact mul_le_mul hcd (mul_le_mul hy1 hy2 (abs_nonneg _) ha) (by positivity) hk
  have hfourth : |d * ((y.1 - z.1) * y.2)| ≤ 2 * (k * b * a) := by
    rw [abs_mul, abs_mul]
    exact mul_le_mul hd (mul_le_mul h1 hy2 (abs_nonneg _) hkb) (by positivity) (by norm_num)
  have hfifth : |d * (z.1 * (y.2 - z.2))| ≤ 2 * (a * (k * b)) := by
    rw [abs_mul, abs_mul]
    exact mul_le_mul hd (mul_le_mul hz1 h2 (abs_nonneg _) ha) (by positivity) (by norm_num)
  rw [hsplit]
  obtain ⟨l1, u1⟩ := abs_le.mp hfirst
  obtain ⟨l2, u2⟩ := abs_le.mp hsecond
  obtain ⟨l3, u3⟩ := abs_le.mp hthird
  obtain ⟨l4, u4⟩ := abs_le.mp hfourth
  obtain ⟨l5, u5⟩ := abs_le.mp hfifth
  exact abs_le.mpr ⟨by nlinarith, by nlinarith⟩

end

/-- The size of a component of a block of highway samples changes by less than 2^63 for a coefficient changed by 1. -/
theorem size_drift {c d : ℝ} (hc : |c| ≤ 2) (hd : |d| ≤ 2) {xs : List Int} (hlen : xs.length = 100) (hx : ∀ x ∈ xs, -4032 ≤ x ∧ x ≤ 4032) :
    |sizeOf2 c (resonator c xs (0, 0)) - sizeOf2 d (resonator d xs (0, 0))| ≤ |c - d| * 2 ^ 63 := by
  obtain ⟨w, hw, hwc⟩ := exists_turn hc
  obtain ⟨w', hw', hwd⟩ := exists_turn hd
  have hsamples : ∀ x ∈ xs, |(x : ℝ)| ≤ 4032 := fun x hmem => by
    obtain ⟨hl, hu⟩ := hx x hmem
    exact abs_le.mpr ⟨by exact_mod_cast hl, by exact_mod_cast hu⟩
  have hstart : ∀ w : ℂ, Swings w 4032 0 (0, 0) := fun w => ⟨by simp, by simp, by simp⟩
  have hrest : Drifts w (|c - d| * 4032) 0 ((0, 0) - (0, 0)) := ⟨by simp, by simp, by simp⟩
  obtain ⟨hy, hz, hyz⟩ := resonators_swing_drift hw hwc hw' hwd xs hsamples (hstart w) (hstart w') hrest
  rw [hlen] at hy hz hyz
  obtain ⟨-, hy1, hy2⟩ := hy
  obtain ⟨-, hz1, hz2⟩ := hz
  obtain ⟨-, h1, h2⟩ := hyz
  norm_num at hy1 hy2 hz1 hz2 h1 h2
  have hk : 0 ≤ |c - d| := abs_nonneg _
  refine (sizeOf2_sub_le (a := 20361600) (b := 17134286400) hd hk hy1 (hy2.trans (by norm_num)) hz1 (hz2.trans (by norm_num)) (h1.trans ?_)
    (h2.trans ?_) le_rfl).trans ?_
  · linarith
  · linarith
  · exact mul_le_mul_of_nonneg_left (by norm_num) hk

end Sys2Proof.Machine


/-! SUPPORT. The model's whole numbers against the real values of R85: component sizes, levels, and the two ends of a block's levels. -/

namespace Sys2Proof.Machine

/-! ## Component sizes -/

/-- The outputs held with their scales are those of the resonator with the cut coefficient. -/
theorem resonate_eq (n : Nat) (k : Int) (xs : List Int) (scale y1 y2 : Int) (y : ℝ × ℝ) (h1 : (y1 : ℝ) * 2 ^ n = y.1 * scale)
    (h2 : (y2 : ℝ) * (2 ^ n * 2 ^ n) = y.2 * scale) :
    ((resonate n k xs scale y1 y2).1 : ℝ) * 2 ^ n = (resonator (k / 2 ^ n) xs y).1 * (scale * (2 ^ n) ^ xs.length) ∧
    ((resonate n k xs scale y1 y2).2 : ℝ) * (2 ^ n * 2 ^ n) = (resonator (k / 2 ^ n) xs y).2 * (scale * (2 ^ n) ^ xs.length) := by
  have hp : (2 : ℝ) ^ n ≠ 0 := by positivity
  induction xs generalizing scale y1 y2 y with
  | nil => simpa [resonate, resonator] using ⟨h1, h2⟩
  | cons x xs ih =>
    have hpow : (2 : ℝ) ^ (2 * n) = 2 ^ n * 2 ^ n := by rw [two_mul, pow_add]
    have hlast : ((x * scale + k * y1 - 2 ^ (2 * n) * y2 : ℤ) : ℝ) = (x + k / 2 ^ n * y.1 - y.2) * scale := by
      push_cast
      rw [hpow]
      field_simp
      linear_combination (k : ℝ) * h1 - (2 : ℝ) ^ n * h2
    have hnext := ih (scale * 2 ^ n) (x * scale + k * y1 - 2 ^ (2 * n) * y2) y1 ((x : ℝ) + k / 2 ^ n * y.1 - y.2, y.1)
      (by rw [hlast]; push_cast; ring) (by push_cast; linear_combination (2 : ℝ) ^ n * h1)
    have hscale : ((scale * 2 ^ n : ℤ) : ℝ) * (2 ^ n) ^ xs.length = scale * (2 ^ n) ^ (x :: xs).length := by
      rw [List.length_cons]
      push_cast
      ring
    rw [hscale] at hnext
    rw [resonator_cons, resonate]
    exact hnext

theorem resonatorSize_eq (n : Nat) (k : Int) {xs : List Int} (hlen : xs.length = 100) :
    (resonatorSize n k xs : ℝ) = sizeOf2 (k / 2 ^ n) (resonator (k / 2 ^ n) xs (0, 0)) * sizeScale n := by
  obtain ⟨h1, h2⟩ := resonate_eq n k xs (2 ^ n) 0 0 (0, 0) (by simp) (by simp)
  have hp : (2 : ℝ) ^ n ≠ 0 := by positivity
  have hpow : (2 : ℝ) ^ (2 * n) = 2 ^ n * 2 ^ n := by rw [two_mul, pow_add]
  have hscale : (sizeScale n : ℝ) = ((2 : ℝ) ^ n) ^ 200 := by
    unfold sizeScale
    push_cast
    rw [← pow_mul, mul_comm]
  rw [hlen] at h1 h2
  obtain ⟨p, hpdef⟩ : ∃ p : ℝ, p = 2 ^ n := ⟨_, rfl⟩
  unfold resonatorSize sizeOf2
  push_cast at h1 h2 ⊢
  rw [hscale, hpow]
  rw [← hpdef] at h1 h2 hp ⊢
  generalize ((resonate n k xs (2 ^ n) 0 0).1 : ℝ) = a at h1 ⊢
  generalize ((resonate n k xs (2 ^ n) 0 0).2 : ℝ) = b at h2 ⊢
  generalize resonator (k / p) xs (0, 0) = y at h1 h2 ⊢
  have ha : a = y.1 * p ^ 100 := mul_right_cancel₀ hp (by linear_combination h1)
  have hb : b * p = y.2 * p ^ 100 := mul_right_cancel₀ hp (by linear_combination h2)
  have hb' : b = y.2 * p ^ 99 := mul_right_cancel₀ hp (by linear_combination hb)
  rw [ha, hb']
  field_simp

/-- The two ends of a component's size hold the exact one. -/
theorem size_ends {n : Nat} {f : Fin 8} {c : ℝ} (hcoeff : (toneCoeff n f : ℤ) = ⌊2 ^ n * c⌋) (hc : |c| ≤ 2) {xs : List Int}
    (hlen : xs.length = 100) (hx : ∀ x ∈ xs, -4032 ≤ x ∧ x ≤ 4032) :
    |sizeOf2 c (resonator c xs (0, 0)) * sizeScale n - (resonatorSize n (toneCoeff n f) xs : ℝ)| ≤ sizeError n := by
  obtain ⟨k, hk⟩ : ∃ k, k = toneCoeff n f := ⟨_, rfl⟩
  rw [← hk] at hcoeff ⊢
  have hp : (0 : ℝ) < 2 ^ n := by positivity
  have hfloor : ((k : ℕ) : ℝ) = (⌊2 ^ n * c⌋ : ℝ) := by exact_mod_cast congrArg (Int.cast (R := ℝ)) hcoeff
  have hle : (k : ℝ) ≤ 2 ^ n * c := hfloor ▸ Int.floor_le _
  have hlt : 2 ^ n * c < k + 1 := hfloor ▸ Int.lt_floor_add_one _
  have hcut : (k : ℝ) / 2 ^ n ≤ c := by rw [div_le_iff₀ hp]; linarith
  have hdrift : |c - (k : ℝ) / 2 ^ n| ≤ 1 / 2 ^ n := by
    rw [abs_of_nonneg (by linarith), sub_le_iff_le_add, ← add_div, le_div_iff₀ hp]
    linarith
  have hcut2 : |(k : ℝ) / 2 ^ n| ≤ 2 := by
    rw [abs_of_nonneg (by positivity)]
    exact hcut.trans (abs_le.mp hc).2
  have hsize : (resonatorSize n (k : ℤ) xs : ℝ) = _ := resonatorSize_eq n k hlen
  rw [hsize, ← sub_mul, abs_mul, abs_of_nonneg (a := (sizeScale n : ℝ)) (Nat.cast_nonneg _), Int.cast_natCast]
  have hscale : (sizeScale n : ℝ) = (2 : ℝ) ^ (199 * n) * 2 ^ n := by
    unfold sizeScale
    push_cast
    rw [← pow_add]
    congr 1
    ring
  calc _ ≤ |c - (k : ℝ) / 2 ^ n| * 2 ^ 63 * sizeScale n :=
        mul_le_mul_of_nonneg_right (size_drift hc hcut2 hlen hx) (Nat.cast_nonneg _)
    _ ≤ 1 / 2 ^ n * 2 ^ 63 * sizeScale n := by gcongr
    _ = sizeError n := by
      rw [hscale]
      unfold sizeError
      push_cast
      rw [pow_add]
      field_simp

/-! ## Levels -/

/-- The level of a power relative to 0 dBm0 (R85). -/
noncomputable def levelAt (ratio : ℝ) : Int :=
  if ratio ≤ 0 then -120 else max (-120) (min 6 ⌊2 * (10 * Real.logb 10 ratio)⌋)

theorem levelAt_of_nonpos {r : ℝ} (h : r ≤ 0) : levelAt r = -120 := if_pos h

theorem levelAt_of_pos {r : ℝ} (h : 0 < r) : levelAt r = max (-120) (min 6 ⌊2 * (10 * Real.logb 10 r)⌋) := if_neg (not_le.mpr h)

theorem le_levelAt (r : ℝ) : -120 ≤ levelAt r := by
  unfold levelAt
  split
  · rfl
  · exact le_max_left _ _

theorem levelAt_le (r : ℝ) : levelAt r ≤ 6 := by
  unfold levelAt
  split
  · decide
  · exact max_le (by decide) (min_le_left _ _)

/-- The levels from −59.5 to +3.0 that a power reaches. -/
theorem le_levelAt_iff {r : ℝ} (hr : 0 < r) {k : Nat} (h1 : 1 ≤ k) (h2 : k ≤ 126) :
    (k : ℤ) - 120 ≤ levelAt r ↔ (10 : ℝ) ^ k ≤ r ^ 20 * 10 ^ 120 := by
  have hlog : Real.logb 10 (r ^ 20 * 10 ^ 120) = 20 * Real.logb 10 r + 120 := by
    rw [Real.logb_mul (by positivity) (by positivity), Real.logb_pow, Real.logb_pow, Real.logb_self_eq_one (by norm_num)]
    norm_num
  have hfloor : (k : ℤ) - 120 ≤ levelAt r ↔ (k : ℤ) - 120 ≤ ⌊2 * (10 * Real.logb 10 r)⌋ := by
    rw [levelAt_of_pos hr]
    omega
  rw [hfloor, Int.le_floor, ← Real.rpow_natCast, ← Real.le_logb_iff_rpow_le (by norm_num) (by positivity), hlog]
  push_cast
  constructor
  · intro h; linarith
  · intro h; linarith

theorem levelAt_mono : Monotone levelAt := by
  intro r s h
  by_cases hr : r ≤ 0
  · rw [levelAt_of_nonpos hr]
    exact le_levelAt s
  · have hr : 0 < r := not_le.mp hr
    have hs : 0 < s := hr.trans_le h
    rw [levelAt_of_pos hr, levelAt_of_pos hs]
    have hlog : Real.logb 10 r ≤ Real.logb 10 s := Real.logb_le_logb_of_le (by norm_num) hr h
    gcongr

/-! ## The model's levels -/

theorem halfDbSteps_le (fuel num den : Nat) : halfDbSteps fuel num den ≤ fuel := by
  induction fuel generalizing den with
  | zero => rfl
  | succ n ih =>
    unfold halfDbSteps
    split
    · exact Nat.succ_le_succ (ih _)
    · exact Nat.zero_le _

theorem le_halfDbSteps_iff {fuel num den k : Nat} (hk : k < fuel) : k + 1 ≤ halfDbSteps fuel num den ↔ den * 10 ^ (k + 1) ≤ num := by
  induction fuel generalizing den k with
  | zero => cases hk
  | succ n ih =>
    unfold halfDbSteps
    have hten : den * 10 ^ (k + 1) = den * 10 * 10 ^ k := by ring
    split
    · next h =>
      cases k with
      | zero => simpa using h
      | succ j => rw [Nat.succ_le_succ_iff, ih (Nat.lt_of_succ_lt_succ hk), hten]
    · next h =>
      have hge : den * 10 ≤ den * 10 ^ (k + 1) := by
        rw [hten]
        exact Nat.le_mul_of_pos_right _ (by positivity)
      constructor
      · intro h'; omega
      · intro h'; omega

/-- Two levels in range that reach the same steps are the same. -/
theorem level_ext {a b : Int} (ha : -120 ≤ a) (ha' : a ≤ 6) (hb : -120 ≤ b) (hb' : b ≤ 6)
    (h : ∀ k : Nat, 1 ≤ k → k ≤ 126 → ((k : ℤ) - 120 ≤ a ↔ (k : ℤ) - 120 ≤ b)) : a = b := by
  refine le_antisymm ?_ ?_
  · by_contra hlt
    have := (h (a + 120).toNat (by omega) (by omega)).mp (by omega)
    omega
  · by_contra hlt
    have := (h (b + 120).toNat (by omega) (by omega)).mpr (by omega)
    omega

/-- The model's level of a power is that of R85. -/
theorem levelOf_eq (z : Int) {den : Nat} (hden : 0 < den) : levelOf z.toNat den = levelAt ((z : ℝ) / den) := by
  have hd : (0 : ℝ) < den := by exact_mod_cast hden
  have hsteps := halfDbSteps_le 126 (z.toNat ^ 20 * 10 ^ 120) (den ^ 20)
  have hreach : ∀ k : Nat, 1 ≤ k → k ≤ 126 →
      ((k : ℤ) - 120 ≤ levelOf z.toNat den ↔ den ^ 20 * 10 ^ k ≤ z.toNat ^ 20 * 10 ^ 120) := fun k h1 h2 => by
    obtain ⟨j, rfl⟩ := Nat.exists_eq_add_of_le' h1
    rw [← le_halfDbSteps_iff (fuel := 126) (by omega)]
    unfold levelOf
    omega
  refine level_ext (by unfold levelOf; omega) (by unfold levelOf; omega) (le_levelAt _) (levelAt_le _) fun k h1 h2 => ?_
  rw [hreach k h1 h2]
  by_cases hz : z ≤ 0
  · have hzero : z.toNat = 0 := Int.toNat_eq_zero.mpr hz
    have hratio : (z : ℝ) / den ≤ 0 := div_nonpos_of_nonpos_of_nonneg (by exact_mod_cast hz) hd.le
    rw [hzero, levelAt_of_nonpos hratio]
    have hpos : 0 < den ^ 20 * 10 ^ k := by positivity
    constructor
    · intro h
      simp at h
      omega
    · intro h
      omega
  · have hz : 0 < z := not_le.mp hz
    have hcast : ((z.toNat : ℕ) : ℝ) = z := by exact_mod_cast congrArg (Int.cast (R := ℝ)) (Int.toNat_of_nonneg hz.le)
    have hzr : (0 : ℝ) < z := by exact_mod_cast hz
    rw [le_levelAt_iff (by positivity) h1 h2, div_pow, div_mul_eq_mul_div, le_div_iff₀ (by positivity), ← hcast]
    rw [mul_comm ((10 : ℝ) ^ k)]
    exact_mod_cast Iff.rfl

end Sys2Proof.Machine


/-! SUPPORT. The resonator coefficients to 128 places (R85): the model's series for π, by Machin's formula, and for the cosine, with the
errors of their whole-number divisions. -/

namespace Sys2Proof.Machine

open Finset

/-- A whole-number division is at most 1 short. -/
theorem natDiv_error (a b : Nat) : |((a / b : ℕ) : ℝ) - (a : ℝ) / b| ≤ 1 := by
  have hfloor := Nat.floor_div_eq_div (K := ℝ) a b
  have hle : ((a / b : ℕ) : ℝ) ≤ (a : ℝ) / b := Nat.cast_div_le
  have hlt : (a : ℝ) / b < ((a / b : ℕ) : ℝ) + 1 := by
    rw [← hfloor]
    exact Nat.lt_floor_add_one _
  exact abs_le.mpr ⟨by linarith, by linarith⟩

/-- The first term of an alternating sum. -/
theorem alternating_succ (g : ℕ → ℝ) (t : Nat) :
    ∑ j ∈ range (t + 1), (-1) ^ j * g j = g 0 - ∑ j ∈ range t, (-1) ^ j * g (j + 1) := by
  rw [sum_range_succ']
  simp only [pow_succ, pow_zero, one_mul, mul_neg, mul_one, neg_mul, sum_neg_distrib]
  ring

/-! ## π (Machin) -/

/-- The series of the arctangent in whole numbers, against the same terms over the reals. -/
theorem arctanSeries_error {q : Nat} (hq : 2 ≤ q) (terms power k : Nat) (p : ℝ) (hp : |(power : ℝ) - p| ≤ 2) :
    |(arctanSeries q terms power k : ℝ) - ∑ j ∈ range terms, (-1) ^ j * (p / (q ^ 2) ^ j / (2 * (k + j : ℕ) + 1))| ≤ 3 * terms := by
  induction terms generalizing power k p with
  | zero => simp [arctanSeries]
  | succ t ih =>
    have hq2 : (4 : ℝ) ≤ (q : ℝ) ^ 2 := by
      have : (2 : ℝ) ≤ q := by exact_mod_cast hq
      nlinarith
    have hnext : |((power / (q * q) : ℕ) : ℝ) - p / (q : ℝ) ^ 2| ≤ 2 := by
      have hdiv := natDiv_error power (q * q)
      push_cast at hdiv
      have hscaled : |(power : ℝ) / (q * q) - p / (q : ℝ) ^ 2| ≤ 1 := by
        rw [← sq, ← sub_div, abs_div, abs_of_nonneg (a := (q : ℝ) ^ 2) (by positivity), div_le_one (by positivity)]
        linarith
      calc _ ≤ |((power / (q * q) : ℕ) : ℝ) - (power : ℝ) / (q * q)| + |(power : ℝ) / (q * q) - p / (q : ℝ) ^ 2| := abs_sub_le _ _ _
        _ ≤ 2 := by linarith
    have hhead : |((power / (2 * k + 1) : ℕ) : ℝ) - p / (2 * k + 1)| ≤ 3 := by
      have hdiv := natDiv_error power (2 * k + 1)
      push_cast at hdiv
      have hscaled : |(power : ℝ) / (2 * k + 1) - p / (2 * k + 1)| ≤ 2 := by
        rw [← sub_div, abs_div, abs_of_nonneg (a := (2 * k + 1 : ℝ)) (by positivity), div_le_iff₀ (by positivity)]
        nlinarith [(Nat.cast_nonneg k : (0 : ℝ) ≤ k)]
      calc _ ≤ |((power / (2 * k + 1) : ℕ) : ℝ) - (power : ℝ) / (2 * k + 1)| + |(power : ℝ) / (2 * k + 1) - p / (2 * k + 1)| :=
            abs_sub_le _ _ _
        _ ≤ 3 := by linarith
    have hrest := ih (power / (q * q)) (k + 1) (p / (q : ℝ) ^ 2) hnext
    have hshift : ∀ j : ℕ, p / ((q : ℝ) ^ 2) ^ (j + 1) / (2 * (k + (j + 1) : ℕ) + 1) =
        p / (q : ℝ) ^ 2 / ((q : ℝ) ^ 2) ^ j / (2 * (k + 1 + j : ℕ) + 1) := fun j => by
      rw [pow_succ', ← div_div p, add_assoc, add_comm 1 j]
    rw [alternating_succ, arctanSeries, Int.cast_sub, Int.cast_natCast]
    simp only [hshift, pow_zero, div_one, add_zero]
    rw [sub_sub_sub_comm]
    calc _ ≤ _ := abs_sub _ _
      _ ≤ 3 * ((t + 1 : ℕ) : ℝ) := by
        push_cast at hrest ⊢
        linarith

/-- The terms of the arctangent of 1/q. -/
noncomputable def arctanTerm (q j : ℕ) : ℝ := 1 / (q : ℝ) / ((q : ℝ) ^ 2) ^ j / (2 * j + 1)

theorem arctanTerm_le {q : ℕ} (hq : 4 ≤ q) (j : ℕ) : arctanTerm q j ≤ (1 / 16) ^ j := by
  have hqr : (4 : ℝ) ≤ q := by exact_mod_cast hq
  have hsq : (16 : ℝ) ≤ (q : ℝ) ^ 2 := by nlinarith
  have hpow : (16 : ℝ) ^ j ≤ ((q : ℝ) ^ 2) ^ j := pow_le_pow_left₀ (by norm_num) hsq j
  have hpos : (0 : ℝ) < 16 ^ j := by positivity
  unfold arctanTerm
  rw [one_div_pow, div_div, div_div]
  have hj : (0 : ℝ) ≤ j := Nat.cast_nonneg j
  have hgrow : (16 : ℝ) ^ j ≤ ((q : ℝ) ^ 2) ^ j * (2 * j + 1) := hpow.trans (le_mul_of_one_le_right (by positivity) (by linarith))
  exact one_div_le_one_div_of_le hpos (hgrow.trans (le_mul_of_one_le_left (by positivity) (by linarith)))

theorem arctanTerm_antitone {q : ℕ} (hq : 4 ≤ q) : Antitone (arctanTerm q) := by
  refine antitone_nat_of_succ_le fun j => ?_
  have hqr : (4 : ℝ) ≤ q := by exact_mod_cast hq
  unfold arctanTerm
  push_cast
  gcongr
  · nlinarith
  · omega
  · linarith

theorem arctanTerm_summable {q : ℕ} (hq : 4 ≤ q) : Summable (arctanTerm q) :=
  Summable.of_nonneg_of_le (fun j => by unfold arctanTerm; positivity) (arctanTerm_le hq)
    (summable_geometric_of_lt_one (by norm_num) (by norm_num))

theorem tsum_arctanTerm {q : ℕ} (hq : 4 ≤ q) : ∑' j, (-1) ^ j * arctanTerm q j = Real.arctan (q : ℝ)⁻¹ := by
  have hqr : (4 : ℝ) ≤ q := by exact_mod_cast hq
  have hsmall : ‖((q : ℝ))⁻¹‖ < 1 := by
    rw [Real.norm_eq_abs, abs_of_nonneg (by positivity)]
    exact inv_lt_one_of_one_lt₀ (by linarith)
  rw [← (Real.hasSum_arctan hsmall).tsum_eq]
  refine tsum_congr fun j => ?_
  unfold arctanTerm
  push_cast
  rw [pow_succ (q : ℝ)⁻¹, pow_mul, inv_pow, inv_pow]
  field_simp

/-- 2^w times the arctangent of 1/q, from the model's series. -/
theorem arctan_error {q : ℕ} (hq : 4 ≤ q) (w terms : ℕ) (hterms : w ≤ 4 * terms) :
    |(arctanSeries q terms (2 ^ w / q) 0 : ℝ) - 2 ^ w * Real.arctan (q : ℝ)⁻¹| ≤ 3 * terms + 1 := by
  have hstart : |((2 ^ w / q : ℕ) : ℝ) - 2 ^ w / q| ≤ 2 := by
    have := natDiv_error (2 ^ w) q
    push_cast at this
    linarith
  have hseries := arctanSeries_error (by omega : 2 ≤ q) terms (2 ^ w / q) 0 (2 ^ w / q) hstart
  have hsum : ∑ j ∈ range terms, (-1) ^ j * ((2 : ℝ) ^ w / q / ((q : ℝ) ^ 2) ^ j / (2 * (0 + j : ℕ) + 1)) =
      2 ^ w * ∑ j ∈ range terms, (-1) ^ j * arctanTerm q j := by
    rw [mul_sum]
    refine sum_congr rfl fun j _ => ?_
    unfold arctanTerm
    rw [zero_add]
    ring
  rw [hsum] at hseries
  have htail := alternating_series_error_bound (arctanTerm q) (arctanTerm_antitone hq) (arctanTerm_summable hq) terms
  rw [tsum_arctanTerm hq] at htail
  have hsmall : 2 ^ w * arctanTerm q terms ≤ 1 := by
    have hpow : (2 : ℝ) ^ w ≤ 16 ^ terms := by
      rw [show (16 : ℝ) = 2 ^ 4 by norm_num, ← pow_mul]
      exact pow_le_pow_right₀ (by norm_num) hterms
    calc 2 ^ w * arctanTerm q terms ≤ 16 ^ terms * (1 / 16) ^ terms :=
          mul_le_mul hpow (arctanTerm_le hq terms) (by unfold arctanTerm; positivity) (by positivity)
      _ = 1 := by rw [← mul_pow]; norm_num
  have hscaled : |2 ^ w * ∑ j ∈ range terms, (-1) ^ j * arctanTerm q j - 2 ^ w * Real.arctan (q : ℝ)⁻¹| ≤ 1 := by
    rw [← mul_sub, abs_mul, abs_of_nonneg (a := (2 : ℝ) ^ w) (by positivity), abs_sub_comm]
    exact (mul_le_mul_of_nonneg_left htail (by positivity)).trans hsmall
  exact (abs_sub_le _ _ _).trans (add_le_add hseries hscaled)

/-- Cutting a number off at 0 brings it no further from one that is not below 0. -/
theorem toNat_error (z : ℤ) {r : ℝ} (hr : 0 ≤ r) : |((z.toNat : ℕ) : ℝ) - r| ≤ |(z : ℝ) - r| := by
  by_cases hz : 0 ≤ z
  · have hcast : ((z.toNat : ℕ) : ℝ) = z := by exact_mod_cast congrArg (Int.cast (R := ℝ)) (Int.toNat_of_nonneg hz)
    rw [hcast]
  · have hneg : (z : ℝ) ≤ 0 := by exact_mod_cast (not_le.mp hz).le
    rw [Int.toNat_of_nonpos (not_le.mp hz).le, Nat.cast_zero, zero_sub, abs_neg, abs_of_nonneg hr, abs_of_nonpos (by linarith)]
    linarith

/-- 2^w times π, from the model's formula. -/
theorem piPlaces_error (w : ℕ) : |(piPlaces w : ℝ) - 2 ^ w * Real.pi| ≤ 20 * (3 * seriesTerms w + 1) := by
  have hterms : w ≤ 4 * seriesTerms w := by
    unfold seriesTerms
    omega
  have h5 := arctan_error (q := 5) (by norm_num) w (seriesTerms w) hterms
  have h239 := arctan_error (q := 239) (by norm_num) w (seriesTerms w) hterms
  have hmachin := Real.four_mul_arctan_inv_5_sub_arctan_inv_239
  obtain ⟨a, ha⟩ : ∃ a, a = arctanSeries 5 (seriesTerms w) (2 ^ w / 5) 0 := ⟨_, rfl⟩
  obtain ⟨b, hb⟩ : ∃ b, b = arctanSeries 239 (seriesTerms w) (2 ^ w / 239) 0 := ⟨_, rfl⟩
  rw [← ha] at h5
  rw [← hb] at h239
  push_cast at h5 h239
  have hpi : (2 : ℝ) ^ w * Real.pi = 16 * (2 ^ w * Real.arctan 5⁻¹) - 4 * (2 ^ w * Real.arctan 239⁻¹) := by
    linear_combination (-4 * 2 ^ w) * hmachin
  have hsum : |((16 * a - 4 * b : ℤ) : ℝ) - 2 ^ w * Real.pi| ≤ 20 * (3 * seriesTerms w + 1) := by
    rw [hpi]
    push_cast
    obtain ⟨l1, u1⟩ := abs_le.mp h5
    obtain ⟨l2, u2⟩ := abs_le.mp h239
    exact abs_le.mpr ⟨by linarith, by linarith⟩
  have hpiPlaces : piPlaces w = (16 * a - 4 * b).toNat := by rw [ha, hb]; rfl
  rw [hpiPlaces]
  exact (toNat_error _ (by positivity)).trans hsum

/-! ## The cosine -/

/-- One term of the cosine in whole numbers, against the real one. -/
theorem cosTerm_error {w square term k : ℕ} {x e b g bound : ℝ} (hs : |(square : ℝ) / 2 ^ w - x| ≤ e) (hb : |(term : ℝ) - g| ≤ b)
    (hg : |g| ≤ bound) (hfit : (b * (|x| + e) + bound * e + 1) / 2 + 1 ≤ b) :
    |((term * square / 2 ^ w / ((2 * k + 1) * (2 * k + 2)) : ℕ) : ℝ) - g * x / ((2 * k + 1) * (2 * k + 2))| ≤ b := by
  have hb0 : 0 ≤ b := (abs_nonneg _).trans hb
  have he0 : 0 ≤ e := (abs_nonneg _).trans hs
  obtain ⟨m, hm⟩ : ∃ m, m = term * square / 2 ^ w := ⟨_, rfl⟩
  have hsquare : |(square : ℝ) / 2 ^ w| ≤ |x| + e := sub_le_iff_le_add'.mp ((abs_sub_abs_le_abs_sub _ _).trans hs)
  have hproduct : |(m : ℝ) - g * x| ≤ b * (|x| + e) + bound * e + 1 := by
    have hdiv := natDiv_error (term * square) (2 ^ w)
    push_cast at hdiv
    rw [← hm] at hdiv
    have hsplit : (term : ℝ) * square / 2 ^ w - g * x = ((term : ℝ) - g) * ((square : ℝ) / 2 ^ w) + g * ((square : ℝ) / 2 ^ w - x) := by
      ring
    have hreal : |(term : ℝ) * square / 2 ^ w - g * x| ≤ b * (|x| + e) + bound * e := by
      rw [hsplit]
      refine (abs_add_le _ _).trans (add_le_add ?_ ?_)
      · rw [abs_mul]
        exact mul_le_mul hb hsquare (abs_nonneg _) hb0
      · rw [abs_mul]
        exact mul_le_mul hg hs (abs_nonneg _) ((abs_nonneg _).trans hg)
    exact (abs_sub_le _ _ _).trans ((add_le_add hdiv hreal).trans_eq (add_comm _ _))
  have hcut := natDiv_error m ((2 * k + 1) * (2 * k + 2))
  push_cast at hcut
  have hk : (0 : ℝ) ≤ k := Nat.cast_nonneg k
  have htwo : (2 : ℝ) ≤ (2 * k + 1) * (2 * k + 2) := by nlinarith
  have hpart : |(m : ℝ) / ((2 * k + 1) * (2 * k + 2)) - g * x / ((2 * k + 1) * (2 * k + 2))| ≤ (b * (|x| + e) + bound * e + 1) / 2 := by
    rw [← sub_div, abs_div, abs_of_nonneg (a := ((2 * k + 1) * (2 * k + 2) : ℝ)) (by linarith)]
    exact div_le_div₀ ((abs_nonneg _).trans hproduct) hproduct (by norm_num) htwo
  rw [← hm]
  exact (abs_sub_le _ _ _).trans ((add_le_add hcut hpart).trans ((add_comm _ _).trans_le hfit))

/-- The series of the cosine in whole numbers, against the same terms over the reals. -/
theorem cosSeries_error {w square : ℕ} {x e b bound : ℝ} {g : ℕ → ℝ} (hg : ∀ j : ℕ, g (j + 1) = g j * x / ((2 * j + 1) * (2 * j + 2)))
    (hbound : ∀ j, |g j| ≤ bound) (hs : |(square : ℝ) / 2 ^ w - x| ≤ e) (hfit : (b * (|x| + e) + bound * e + 1) / 2 + 1 ≤ b)
    (terms term k : ℕ) (hb : |(term : ℝ) - g k| ≤ b) :
    |(cosSeries w square terms term k : ℝ) - ∑ j ∈ range terms, (-1) ^ j * g (k + j)| ≤ terms * b := by
  induction terms generalizing term k with
  | zero => simp [cosSeries]
  | succ t ih =>
    have hnext := cosTerm_error (k := k) hs hb (hbound k) hfit
    rw [← hg] at hnext
    have hrest := ih _ (k + 1) hnext
    have hshift : ∀ j, g (k + (j + 1)) = g (k + 1 + j) := fun j => by rw [add_assoc, add_comm 1 j]
    rw [alternating_succ, cosSeries, Int.cast_sub, Int.cast_natCast]
    simp only [hshift, add_zero]
    rw [sub_sub_sub_comm]
    calc _ ≤ _ := abs_sub _ _
      _ ≤ ((t + 1 : ℕ) : ℝ) * b := by
        push_cast at hrest ⊢
        linarith

/-- The terms of a multiple of the cosine. -/
noncomputable def cosTerm (scale x : ℝ) (j : ℕ) : ℝ := scale * (x ^ (2 * j) / (2 * j).factorial)

theorem cosTerm_succ (scale x : ℝ) (j : ℕ) : cosTerm scale x (j + 1) = cosTerm scale x j * x ^ 2 / ((2 * j + 1) * (2 * j + 2)) := by
  have hf : ((2 * (j + 1)).factorial : ℝ) = (2 * j + 1) * (2 * j + 2) * (2 * j).factorial := by
    rw [show 2 * (j + 1) = 2 * j + 1 + 1 by ring, Nat.factorial_succ, Nat.factorial_succ]
    push_cast
    ring
  have hpos : ((2 * j).factorial : ℝ) ≠ 0 := by positivity
  unfold cosTerm
  rw [hf, mul_add, pow_add, mul_one]
  field_simp

theorem cosTerm_antitone {scale x : ℝ} (hs : 0 ≤ scale) (hx : x ^ 2 ≤ 2) : Antitone (cosTerm scale x) := by
  refine antitone_nat_of_succ_le fun j => ?_
  have hpos : 0 ≤ cosTerm scale x j := by
    unfold cosTerm
    have : 0 ≤ x ^ (2 * j) := by rw [pow_mul]; positivity
    positivity
  have hj : (0 : ℝ) ≤ j := Nat.cast_nonneg j
  rw [cosTerm_succ, div_le_iff₀ (by positivity)]
  exact mul_le_mul_of_nonneg_left (by nlinarith) hpos

theorem cosTerm_summable (scale x : ℝ) : Summable (cosTerm scale x) :=
  ((Real.summable_pow_div_factorial x).comp_injective (mul_right_injective₀ (two_ne_zero' ℕ))).mul_left scale

theorem tsum_cosTerm (scale x : ℝ) : ∑' j, (-1) ^ j * cosTerm scale x j = scale * Real.cos x := by
  rw [← (Real.hasSum_cos x).tsum_eq, ← tsum_mul_left]
  refine tsum_congr fun j => ?_
  unfold cosTerm
  ring

end Sys2Proof.Machine


/-! SUPPORT. The eight resonator coefficients at 128 places (R85). -/

namespace Sys2Proof.Machine

open Finset

/-- The angle of a tone frequency, as the coefficient takes it. -/
noncomputable def toneAngle (f : Fin 8) : ℝ := Real.pi * toneHz f / 4000

/-- The model's value of 2^(w + 1) times the cosine of a tone's angle. -/
def cosPlaces (w : ℕ) (f : Fin 8) : Int :=
  let angle := piPlaces w * toneHz f / 4000
  cosSeries w (angle * angle / 2 ^ w) (seriesTerms w) (2 ^ (w + 1)) 0

theorem toneCoeff_eq (n : ℕ) (f : Fin 8) : toneCoeff n f = (cosPlaces (2 * n + 64) f).toNat / 2 ^ (2 * n + 64 - n) := rfl

theorem toneHz_le (f : Fin 8) : (toneHz f : ℝ) ≤ 1633 := by
  have : ∀ f, toneHz f ≤ 1633 := by decide
  exact_mod_cast this f

theorem toneAngle_nonneg (f : Fin 8) : 0 ≤ toneAngle f := by
  unfold toneAngle
  positivity

theorem toneAngle_le (f : Fin 8) : toneAngle f ≤ 1.29 := by
  have hpi := Real.pi_lt_d2
  have hf := toneHz_le f
  unfold toneAngle
  rw [div_le_iff₀ (by norm_num)]
  nlinarith [Real.pi_pos, (Nat.cast_nonneg (toneHz f) : (0 : ℝ) ≤ toneHz f)]

section

variable {w : ℕ} (hw : seriesTerms w = 88) (f : Fin 8)

include hw

theorem angle_error : |((piPlaces w * toneHz f / 4000 : ℕ) : ℝ) - 2 ^ w * toneAngle f| ≤ 2200 := by
  have hpi := piPlaces_error w
  have hdiv := natDiv_error (piPlaces w * toneHz f) 4000
  have hf := toneHz_le f
  have hf0 : (0 : ℝ) ≤ toneHz f := Nat.cast_nonneg _
  rw [hw] at hpi
  push_cast at hdiv
  have hscaled : |(piPlaces w : ℝ) * toneHz f / 4000 - 2 ^ w * toneAngle f| ≤ 2199 := by
    have hsplit : (piPlaces w : ℝ) * toneHz f / 4000 - 2 ^ w * toneAngle f = ((piPlaces w : ℝ) - 2 ^ w * Real.pi) * (toneHz f / 4000) := by
      unfold toneAngle
      ring
    rw [hsplit, abs_mul, abs_of_nonneg (a := (toneHz f : ℝ) / 4000) (by positivity)]
    calc _ ≤ 20 * (3 * ((88 : ℕ) : ℝ) + 1) * (1633 / 4000) := mul_le_mul hpi (by linarith) (by positivity) (by positivity)
      _ ≤ 2199 := by norm_num
  exact (abs_sub_le _ _ _).trans ((add_le_add hdiv hscaled).trans (by norm_num))

/-- The square of the angle, in whole numbers. -/
theorem square_error : |(((piPlaces w * toneHz f / 4000) * (piPlaces w * toneHz f / 4000) / 2 ^ w : ℕ) : ℝ) / 2 ^ w - toneAngle f ^ 2| ≤
    6000 / 2 ^ w := by
  have hangle := angle_error hw f
  obtain ⟨a, ha⟩ : ∃ a, a = piPlaces w * toneHz f / 4000 := ⟨_, rfl⟩
  rw [← ha] at hangle ⊢
  have hp : (0 : ℝ) < 2 ^ w := by positivity
  have hbig : (2 : ℝ) ^ 23 ≤ 2 ^ w := pow_le_pow_right₀ (by norm_num) (by unfold seriesTerms at hw; omega)
  have hx0 := toneAngle_nonneg f
  have hx := toneAngle_le f
  have hdiv := natDiv_error (a * a) (2 ^ w)
  push_cast at hdiv
  obtain ⟨d, hd⟩ : ∃ d : ℝ, d = (a : ℝ) - 2 ^ w * toneAngle f := ⟨_, rfl⟩
  rw [← hd] at hangle
  have hexpand : (a : ℝ) * a / 2 ^ w - 2 ^ w * toneAngle f ^ 2 = 2 * toneAngle f * d + d * d / 2 ^ w := by
    rw [eq_add_of_sub_eq hd.symm]
    field_simp
    ring
  have hlinear : |2 * toneAngle f * d| ≤ 2 * 1.29 * 2200 := by
    rw [abs_mul, abs_of_nonneg (a := 2 * toneAngle f) (by linarith)]
    exact mul_le_mul (by linarith) hangle (abs_nonneg _) (by norm_num)
  have hsquare : |d * d / 2 ^ w| ≤ 1 := by
    rw [abs_div, abs_mul, abs_of_pos hp, div_le_one hp]
    calc |d| * |d| ≤ 2200 * 2200 := mul_le_mul hangle hangle (abs_nonneg _) (by norm_num)
      _ ≤ 2 ^ 23 := by norm_num
      _ ≤ 2 ^ w := hbig
  have hreal : |(a : ℝ) * a / 2 ^ w - 2 ^ w * toneAngle f ^ 2| ≤ 5999 := by
    rw [hexpand]
    exact (abs_add_le _ _).trans ((add_le_add hlinear hsquare).trans (by norm_num))
  have hwhole := (abs_sub_le _ _ _).trans ((add_le_add hdiv hreal).trans_eq (by norm_num : (1 : ℝ) + 5999 = 6000))
  rw [div_sub' hp.ne', abs_div, abs_of_pos hp]
  exact div_le_div_of_nonneg_right hwhole hp.le

end

/-- The first term that the model leaves out. -/
theorem cosTail_le {w t : ℕ} (f : Fin 8) (htail : 2 ^ (w + 1) * 2 ^ t ≤ (2 * t).factorial) :
    cosTerm (2 ^ (w + 1)) (toneAngle f) t ≤ 1 := by
  have hx0 := toneAngle_nonneg f
  have hx := toneAngle_le f
  have hcast : (2 : ℝ) ^ (w + 1) * 2 ^ t ≤ (2 * t).factorial := by exact_mod_cast htail
  unfold cosTerm
  rw [mul_div_assoc', div_le_one (by positivity), pow_mul]
  exact (mul_le_mul_of_nonneg_left (pow_le_pow_left₀ (by positivity) (by nlinarith) t) (by positivity)).trans hcast

theorem toneAngle_sq_le (f : Fin 8) : toneAngle f ^ 2 ≤ 1.67 := by
  have hx0 := toneAngle_nonneg f
  have hx := toneAngle_le f
  nlinarith

/-- The errors of the series' whole-number divisions. -/
theorem cosPlaces_series {w : ℕ} (hw : seriesTerms w = 88) (f : Fin 8) :
    |(cosPlaces w f : ℝ) - ∑ j ∈ range (seriesTerms w), (-1) ^ j * cosTerm (2 ^ (w + 1)) (toneAngle f) j| ≤ seriesTerms w * 65536 := by
  have hx0 := toneAngle_nonneg f
  have hx2 := toneAngle_sq_le f
  have hp : (0 : ℝ) < 2 ^ w := by positivity
  have hbig : (2 : ℝ) ^ 23 ≤ 2 ^ w := pow_le_pow_right₀ (by norm_num) (by unfold seriesTerms at hw; omega)
  have hbound : ∀ j, |cosTerm (2 ^ (w + 1)) (toneAngle f) j| ≤ 2 ^ (w + 1) := fun j => by
    have hanti := cosTerm_antitone (scale := 2 ^ (w + 1)) (by positivity) (hx2.trans (by norm_num))
    have hnonneg : 0 ≤ cosTerm (2 ^ (w + 1)) (toneAngle f) j := by unfold cosTerm; positivity
    rw [abs_of_nonneg hnonneg]
    exact (hanti (Nat.zero_le j)).trans_eq (by simp [cosTerm])
  have hfit : ((65536 : ℝ) * (|toneAngle f ^ 2| + 6000 / 2 ^ w) + 2 ^ (w + 1) * (6000 / 2 ^ w) + 1) / 2 + 1 ≤ 65536 := by
    have hcut : (6000 : ℝ) / 2 ^ w ≤ 1 / 1000 := by
      rw [div_le_iff₀ hp]
      linarith
    have hwhole : (2 : ℝ) ^ (w + 1) * (6000 / 2 ^ w) = 12000 := by
      rw [pow_succ]
      field_simp
      norm_num
    rw [hwhole, abs_of_nonneg (by positivity)]
    linarith
  have hstart : |((2 ^ (w + 1) : ℕ) : ℝ) - cosTerm (2 ^ (w + 1)) (toneAngle f) 0| ≤ 65536 := by simp [cosTerm]
  have hseries := cosSeries_error (cosTerm_succ (2 ^ (w + 1)) (toneAngle f)) hbound (square_error hw f) hfit (seriesTerms w) (2 ^ (w + 1)) 0
    hstart
  simp only [zero_add] at hseries
  exact hseries

/-- The model's cosine of a tone's angle is off by less than 2^23. -/
theorem cosPlaces_error {w : ℕ} (hw : seriesTerms w = 88) (f : Fin 8)
    (htail : 2 ^ (w + 1) * 2 ^ seriesTerms w ≤ (2 * seriesTerms w).factorial) :
    |(cosPlaces w f : ℝ) - 2 ^ (w + 1) * Real.cos (toneAngle f)| ≤ 2 ^ 23 - 1 := by
  have hanti := cosTerm_antitone (scale := 2 ^ (w + 1)) (by positivity) ((toneAngle_sq_le f).trans (by norm_num))
  have hsum := alternating_series_error_bound _ hanti (cosTerm_summable _ _) (seriesTerms w)
  rw [tsum_cosTerm, abs_sub_comm] at hsum
  have hbits : (seriesTerms w : ℝ) * 65536 + 1 ≤ 2 ^ 23 - 1 := by
    rw [hw]
    norm_num
  exact (abs_sub_le _ _ _).trans ((add_le_add (cosPlaces_series hw f) (hsum.trans (cosTail_le f htail))).trans hbits)

/-- A number known so well that its whole part is certain. -/
theorem floor_of_near {v m e : ℕ} {r : ℝ} (hm : 0 < m) (hlow : e ≤ v % m) (hhigh : v % m + e < m) (h : |(v : ℝ) - m * r| ≤ e) : ((v / m : ℕ) : ℤ) = ⌊r⌋ := by
  have hmr : (0 : ℝ) < m := by exact_mod_cast hm
  have hlowr : (e : ℝ) ≤ (v % m : ℕ) := by exact_mod_cast hlow
  have hhighr : ((v % m : ℕ) : ℝ) + e < m := by exact_mod_cast hhigh
  have hv : (v : ℝ) = m * (v / m : ℕ) + (v % m : ℕ) := by exact_mod_cast (Nat.div_add_mod v m).symm
  obtain ⟨hl, hu⟩ := abs_le.mp h
  symm
  rw [Int.floor_eq_iff, Int.cast_natCast]
  constructor
  · refine le_of_mul_le_mul_left ?_ hmr
    linarith
  · refine lt_of_mul_lt_mul_left ?_ hmr.le
    linarith

/-- The coefficient of each tone frequency to 128 places is cut from the exact one. -/
theorem toneCoeff_floor (f : Fin 8) : (toneCoeff 128 f : ℤ) = ⌊2 ^ 128 * (2 * Real.cos (toneAngle f))⌋ := by
  have hterms : seriesTerms (2 * 128 + 64) = 88 := rfl
  have htail : 2 ^ (2 * 128 + 64 + 1) * 2 ^ seriesTerms (2 * 128 + 64) ≤ (2 * seriesTerms (2 * 128 + 64)).factorial := by
    decide +kernel
  have hclear : ∀ f, 0 ≤ cosPlaces (2 * 128 + 64) f ∧ 2 ^ 23 ≤ (cosPlaces (2 * 128 + 64) f).toNat % 2 ^ (2 * 128 + 64 - 128) ∧
      (cosPlaces (2 * 128 + 64) f).toNat % 2 ^ (2 * 128 + 64 - 128) + 2 ^ 23 ≤ 2 ^ (2 * 128 + 64 - 128) := by decide +kernel
  have herror := cosPlaces_error hterms f htail
  obtain ⟨hpos, hlow, hhigh⟩ := hclear f
  rw [toneCoeff_eq]
  generalize cosPlaces (2 * 128 + 64) f = v at herror hpos hlow hhigh ⊢
  have hv : ((v.toNat : ℕ) : ℝ) = v := by exact_mod_cast congrArg (Int.cast (R := ℝ)) (Int.toNat_of_nonneg hpos)
  rw [← hv] at herror
  have hscale : (2 : ℝ) ^ (2 * 128 + 64 + 1) * Real.cos (toneAngle f) =
      ((2 ^ (2 * 128 + 64 - 128) : ℕ) : ℝ) * (2 ^ 128 * (2 * Real.cos (toneAngle f))) := by
    rw [show 2 * 128 + 64 + 1 = (2 * 128 + 64 - 128) + 128 + 1 from rfl, pow_add, pow_add]
    push_cast
    ring
  rw [hscale] at herror
  have hcast : ((2 ^ 23 - 1 : ℕ) : ℝ) = 2 ^ 23 - 1 := by norm_num
  exact floor_of_near (e := 2 ^ 23 - 1) (by positivity) ((Nat.sub_le _ _).trans hlow)
    ((Nat.add_lt_add_left (by norm_num) _).trans_le hhigh) (hcast ▸ herror)

end Sys2Proof.Machine


/-! SUPPORT. The nine levels of a block (R85): the model's two ends hold the exact ones, with O35. -/

namespace Sys2Proof.Machine

/-! ## The exact powers -/

/-- The coefficient of a tone frequency (R85). -/
noncomputable def toneFactor (f : Fin 8) : ℝ := 2 * Real.cos (toneAngle f)

theorem toneFactor_eq (f : Fin 8) : 2 * Real.cos (2 * Real.pi * ((![697, 770, 852, 941, 1209, 1336, 1477, 1633] : Fin 8 → ℝ) f) / 8000) =
    toneFactor f := by
  have hhz : (![697, 770, 852, 941, 1209, 1336, 1477, 1633] : Fin 8 → ℝ) f = toneHz f := by
    fin_cases f <;> norm_num [toneHz]
  unfold toneFactor toneAngle
  rw [hhz]
  congr 2
  ring

theorem abs_toneFactor_le (f : Fin 8) : |toneFactor f| ≤ 2 := by
  unfold toneFactor
  rw [abs_mul, abs_two]
  linarith [Real.abs_cos_le_one (toneAngle f)]

/-- The exact size of a component of a block. -/
noncomputable def exactSize (xs : List Int) (f : Fin 8) : ℝ := sizeOf2 (toneFactor f) (resonator (toneFactor f) xs (0, 0))

/-- The sum of the squares of a block. -/
noncomputable def squareSum (xs : List Int) : ℝ := (xs.map fun x : Int => (x : ℝ) ^ 2).sum

/-- A level by R85, from a power. -/
theorem level_eq (power : ℝ) : (if power ≤ 0 then (-120 : Int) else max (-120) (min 6 ⌊2 * (10 * Real.logb 10 (power / (2854 ^ 2 / 2)))⌋)) =
    levelAt (power / (2854 ^ 2 / 2)) := by
  by_cases h : power ≤ 0
  · rw [if_pos h, levelAt_of_nonpos (div_nonpos_of_nonpos_of_nonneg h (by norm_num))]
  · rw [if_neg h, levelAt_of_pos (div_pos (not_le.mp h) (by norm_num))]

/-- The power of a component from its amplitude. -/
theorem amplitude_sq {c : ℝ} (hc : |c| ≤ 2) (y : ℝ × ℝ) :
    (2 * √(y.1 ^ 2 + y.2 ^ 2 - c * y.1 * y.2) / 100) ^ 2 = sizeOf2 c y / 2500 := by
  have hsqrt := Real.sq_sqrt (sizeOf2_nonneg (y := y) hc)
  unfold sizeOf2 at hsqrt ⊢
  rw [div_pow, mul_pow, hsqrt]
  ring

/-! ## The two ends -/

section

variable {n : ℕ} {xs : List Int}

theorem powerDen_pos (n : ℕ) : 0 < powerDen n := by
  unfold powerDen sizeScale
  positivity

theorem levelsMoved_tone (up : Int) : (levelsMoved n xs up).tone =
    (List.finRange 8).map fun f => levelOf (resonatorSize n (toneCoeff n f) xs + up).toNat (powerDen n) := by
  unfold levelsMoved blockSizes
  dsimp only
  rw [List.map_map]
  rfl

theorem getD_map_finRange {α : Type} (g : Fin 8 → α) (d : α) (f : Fin 8) : ((List.finRange 8).map g).getD f.val d = g f := by
  simp [List.getD]

theorem levelsMoved_tone_getD (up : Int) (f : Fin 8) : (levelsMoved n xs up).tone.getD f.val 0 =
    levelAt (((resonatorSize n (toneCoeff n f) xs + up : Int) : ℝ) / powerDen n) := by
  rw [← levelOf_eq _ (powerDen_pos n), levelsMoved_tone]
  exact getD_map_finRange _ 0 f

theorem sumInt_eq (zs : List Int) : sumInt zs = zs.sum := by
  have hfold : ∀ a, zs.foldl (fun a x => a + x) a = a + zs.sum := by
    induction zs with
    | nil => simp
    | cons z zs ih => intro a; rw [List.foldl_cons, ih, List.sum_cons, add_assoc]
  exact (hfold 0).trans (zero_add _)

theorem sumInt_squares (xs : List Int) : (sumInt (xs.map fun x => x * x) : ℝ) = squareSum xs := by
  rw [sumInt_eq, squareSum]
  induction xs with
  | nil => simp
  | cons x xs ih =>
    rw [List.map_cons, List.map_cons, List.sum_cons, List.sum_cons, ← ih]
    push_cast
    ring

theorem levelsMoved_residual (up : Int) : (levelsMoved n xs up).residual = levelAt
    ((50 * squareSum xs * sizeScale n - ∑ f, (resonatorSize n (toneCoeff n f) xs : ℝ) + 8 * up) / powerDen n) := by
  have hsizes : (sumInt (blockSizes n xs) : ℝ) = ∑ f, (resonatorSize n (toneCoeff n f) xs : ℝ) := by
    rw [sumInt_eq, blockSizes, ← Fin.sum_univ_def]
    push_cast
    rfl
  unfold levelsMoved
  dsimp only
  rw [levelOf_eq _ (powerDen_pos n)]
  push_cast
  rw [hsizes, sumInt_squares]

theorem exactSize_ends (hcoeff : ∀ f, (toneCoeff n f : ℤ) = ⌊2 ^ n * toneFactor f⌋) (hlen : xs.length = 100)
    (hx : ∀ x ∈ xs, -4032 ≤ x ∧ x ≤ 4032) (f : Fin 8) :
    |exactSize xs f * sizeScale n - (resonatorSize n (toneCoeff n f) xs : ℝ)| ≤ sizeError n :=
  size_ends (hcoeff f) (abs_toneFactor_le f) hlen hx

/-- The exact level of a component lies between the two ends. -/
theorem tone_between (hcoeff : ∀ f, (toneCoeff n f : ℤ) = ⌊2 ^ n * toneFactor f⌋) (hlen : xs.length = 100)
    (hx : ∀ x ∈ xs, -4032 ≤ x ∧ x ≤ 4032) (f : Fin 8) :
    (lowerLevels n xs).tone.getD f.val 0 ≤ levelAt (exactSize xs f / 2500 / 2 / (2854 ^ 2 / 2)) ∧
      levelAt (exactSize xs f / 2500 / 2 / (2854 ^ 2 / 2)) ≤ (upperLevels n xs).tone.getD f.val 0 := by
  have hden : (0 : ℝ) < powerDen n := by exact_mod_cast powerDen_pos n
  have hscale : (0 : ℝ) < sizeScale n := by unfold sizeScale; positivity
  obtain ⟨hl, hu⟩ := abs_le.mp (exactSize_ends hcoeff hlen hx f)
  have hratio : exactSize xs f / 2500 / 2 / (2854 ^ 2 / 2) = exactSize xs f * sizeScale n / powerDen n := by
    unfold powerDen
    push_cast
    field_simp
    norm_num
  rw [lowerLevels, upperLevels, levelsMoved_tone_getD, levelsMoved_tone_getD, hratio]
  push_cast
  exact ⟨levelAt_mono (div_le_div_of_nonneg_right (by linarith) hden.le), levelAt_mono (div_le_div_of_nonneg_right (by linarith) hden.le)⟩

/-- The exact residual level lies between the two ends. -/
theorem residual_between (hcoeff : ∀ f, (toneCoeff n f : ℤ) = ⌊2 ^ n * toneFactor f⌋) (hlen : xs.length = 100)
    (hx : ∀ x ∈ xs, -4032 ≤ x ∧ x ≤ 4032) :
    (lowerLevels n xs).residual ≤ levelAt ((squareSum xs / 100 - ∑ f, exactSize xs f / 2500 / 2) / (2854 ^ 2 / 2)) ∧
      levelAt ((squareSum xs / 100 - ∑ f, exactSize xs f / 2500 / 2) / (2854 ^ 2 / 2)) ≤ (upperLevels n xs).residual := by
  have hden : (0 : ℝ) < powerDen n := by exact_mod_cast powerDen_pos n
  have hscale : (0 : ℝ) < sizeScale n := by unfold sizeScale; positivity
  have hsum : |∑ f, exactSize xs f * sizeScale n - ∑ f, (resonatorSize n (toneCoeff n f) xs : ℝ)| ≤ 8 * sizeError n := by
    rw [← Finset.sum_sub_distrib]
    refine (Finset.abs_sum_le_sum_abs _ _).trans ((Finset.sum_le_sum fun f _ => exactSize_ends hcoeff hlen hx f).trans_eq ?_)
    simp
  obtain ⟨hl, hu⟩ := abs_le.mp hsum
  have hratio : (squareSum xs / 100 - ∑ f, exactSize xs f / 2500 / 2) / (2854 ^ 2 / 2) =
      (50 * squareSum xs * sizeScale n - ∑ f, exactSize xs f * sizeScale n) / powerDen n := by
    rw [← Finset.sum_mul, ← Finset.sum_div, ← Finset.sum_div]
    unfold powerDen
    push_cast
    field_simp
    ring
  rw [lowerLevels, upperLevels, levelsMoved_residual, levelsMoved_residual, hratio]
  push_cast
  exact ⟨levelAt_mono (div_le_div_of_nonneg_right (by linarith) hden.le), levelAt_mono (div_le_div_of_nonneg_right (by linarith) hden.le)⟩

/-- Where the two ends agree, they are the exact levels. -/
theorem levels_exact (hcoeff : ∀ f, (toneCoeff n f : ℤ) = ⌊2 ^ n * toneFactor f⌋) (hlen : xs.length = 100)
    (hx : ∀ x ∈ xs, -4032 ≤ x ∧ x ≤ 4032) (h : lowerLevels n xs = upperLevels n xs) :
    upperLevels n xs = ⟨(List.finRange 8).map fun f => levelAt (exactSize xs f / 2500 / 2 / (2854 ^ 2 / 2)),
      levelAt ((squareSum xs / 100 - ∑ f, exactSize xs f / 2500 / 2) / (2854 ^ 2 / 2))⟩ := by
  obtain ⟨hl, hu⟩ := residual_between hcoeff hlen hx
  rw [h] at hl
  have htone : (upperLevels n xs).tone = (List.finRange 8).map fun f => levelAt (exactSize xs f / 2500 / 2 / (2854 ^ 2 / 2)) := by
    have hend := levelsMoved_tone (n := n) (xs := xs) (sizeError n)
    refine hend.trans (List.map_congr_left fun f _ => ?_)
    obtain ⟨htl, htu⟩ := tone_between hcoeff hlen hx f
    have hat : (upperLevels n xs).tone.getD f.val 0 = _ := (congrArg (List.getD · f.val 0) hend).trans (getD_map_finRange _ 0 f)
    rw [h] at htl
    exact hat.symm.trans (le_antisymm htl htu)
  generalize upperLevels n xs = v at htone hl hu ⊢
  obtain ⟨tone, residual⟩ := v
  rw [← htone, ← le_antisymm hl hu]

theorem blockLevels_agree (h : lowerLevels 128 xs = upperLevels 128 xs) : blockLevels xs = upperLevels 128 xs := by
  unfold blockLevels
  exact if_pos h

end

/-- The samples of a block as real numbers, as the statement writes them. -/
theorem realSamples_eq (xs : List Int) : (do let a ← xs; pure (a : ℝ)) = xs.map fun a : Int => (a : ℝ) :=
  bind_pure_comp _ _

theorem realSamples_foldl (c : ℝ) (xs : List Int) :
    (xs.map fun a : Int => (a : ℝ)).foldl (fun (y : ℝ × ℝ) x => (x + c * y.1 - y.2, y.1)) (0, 0) = resonator c xs (0, 0) := by
  rw [List.foldl_map]
  rfl

theorem realSamples_squares (xs : List Int) : ((xs.map fun a : Int => (a : ℝ)).map fun x => x ^ 2).sum = squareSum xs := by
  rw [List.map_map]
  rfl

/-- Settles O35: the coefficients by the errors of their series, the levels by the drift of the resonator between the two ends. -/
theorem levelsFollowTheResonators : Obligations.LevelsFollowTheResonators := by
  unfold Obligations.LevelsFollowTheResonators
  intro c
  have hc : c = toneFactor := funext toneFactor_eq
  refine ⟨fun f => ?_, fun xs hlen hx => ?_⟩
  · rw [hc]
    exact toneCoeff_floor f
  · rw [realSamples_eq]
    intro y amplitude residual level
    have hy : ∀ f, y f = resonator (toneFactor f) xs (0, 0) := fun f => by
      rw [← hc]
      exact realSamples_foldl (c f) xs
    have hpower : ∀ f, amplitude f ^ 2 / 2 = exactSize xs f / 2500 / 2 := fun f => by
      have hsq := amplitude_sq (abs_toneFactor_le f) (y f)
      rw [exactSize, ← hy, ← hsq, ← hc]
    have hresidual : residual = squareSum xs / 100 - ∑ f, exactSize xs f / 2500 / 2 := by
      have hsum : ∑ f, amplitude f ^ 2 / 2 = ∑ f, exactSize xs f / 2500 / 2 := Finset.sum_congr rfl fun f _ => hpower f
      exact (congrArg (· / 100 - ∑ f, amplitude f ^ 2 / 2) (realSamples_squares xs)).trans (congrArg (squareSum xs / 100 - ·) hsum)
    have hlevel : ∀ power, level power = levelAt (power / (2854 ^ 2 / 2)) := level_eq
    refine ⟨fun n hn => ?_, fun h => ?_⟩
    · rw [hc] at hn
      refine ⟨fun f => ?_, ?_⟩
      · rw [hlevel, hpower]
        exact tone_between hn hlen hx f
      · rw [hlevel, hresidual]
        exact residual_between hn hlen hx
    · rw [blockLevels_agree h, levels_exact toneCoeff_floor hlen hx h, hlevel, hresidual]
      simp only [hlevel, hpower]

end Sys2Proof.Machine
